-- ==== Sys2Proof/Word.lean ====
section
/-! DEFINITION. Words of the station link and of the stored records, and the plainest arithmetic of 00_scope.md's
Conventions (floor, truncation and clamping are integer operations; a saturating counter stays at its largest value). -/

namespace Sys2Proof

/-- One byte on the station link (R193). -/
abbrev Byte := BitVec 8

/-- One stored field of a setting set or of the station record: 16 bits, unsigned (3.2, 3.5). -/
abbrev Word16 := BitVec 16

/-- A station clock or elapsed count: 48 bits of milliseconds (R8, R9). -/
abbrev Millis := BitVec 48

/-- "Clamped to a..b" of the Conventions. -/
def clamp (lo hi x : Int) : Int :=
  if x < lo then lo else if hi < x then hi else x

/-- "Floor" of the Conventions: division rounded toward minus infinity. -/
def floorDiv (a b : Int) : Int := Int.fdiv a b

/-- "Truncated" of the Conventions: division rounded toward zero. -/
def truncDiv (a b : Int) : Int := Int.tdiv a b

/-- One more, staying at `top`: a saturating counter. -/
def saturatingSucc (top n : Nat) : Nat := if n < top then n + 1 else n

end Sys2Proof
end

