-- ==== Sys2Proof/Syntax.lean ====
section
/-! DEFINITION. The commands of the part: one constructor of `Instr` for each row of spec/opcode_table.json, with the
operands that come from outside the part at that event. The index types and the fixed-size containers that operands
and state share stand here too. -/

namespace Sys2Proof

/-! ### Index types -/

/-- Feeders are numbered 1..6 (00, Conventions). -/
inductive FeederId
  | f1 | f2 | f3 | f4 | f5 | f6
deriving DecidableEq, Repr

/-- The fourteen items of 4.1: FB1..FB6, TC1..TC6, RE and ACB. -/
inductive ItemId
  | fb (k : FeederId)
  | tc (k : FeederId)
  | re
  | acb
deriving DecidableEq, Repr

/-- The 19 analog channels of 1.1. -/
inductive Channel
  | vab | vbc | vca | vbus | idc
  | feederCurrent (k : FeederId)
  | lineVoltage (k : FeederId)
  | vre | ire
deriving DecidableEq, Repr

/-- A setting set is numbered 0..15 (3.1). -/
abbrev SetId := Fin 16

/-- Gates S0..S5 carry the numbers 0..5 and gates D0..D5 the numbers 6..11 (6.1). -/
abbrev GateId := Fin 12

/-- A record slot is numbered 0..3 (8.3). -/
abbrev SlotId := Fin 4

/-! ### Fixed-size containers -/

/-- One value for each feeder. -/
structure Six (α : Type) where
  f1 : α
  f2 : α
  f3 : α
  f4 : α
  f5 : α
  f6 : α
deriving DecidableEq, Repr

/-- One value for each item. -/
structure PerItem (α : Type) where
  fb  : Six α
  tc  : Six α
  re  : α
  acb : α
deriving DecidableEq, Repr

/-- One value for each channel. -/
structure PerChannel (α : Type) where
  vab  : α
  vbc  : α
  vca  : α
  vbus : α
  idc  : α
  feederCurrent : Six α
  lineVoltage   : Six α
  vre  : α
  ire  : α
deriving DecidableEq, Repr

/-- The same value for every feeder. -/
def Six.all {α : Type} (x : α) : Six α := ⟨x, x, x, x, x, x⟩

/-- The same value for every item. -/
def PerItem.all {α : Type} (x : α) : PerItem α := ⟨Six.all x, Six.all x, x, x⟩

/-- The same value for every channel. -/
def PerChannel.all {α : Type} (x : α) : PerChannel α := ⟨x, x, x, x, x, Six.all x, Six.all x, x, x⟩

/-! ### Operands -/

/-- The 22 stored fields of a setting set, in position order (3.2). -/
structure SetFields where
  imax     : Word16
  nmax     : Word16
  drise    : Word16
  dfall    : Word16
  nstart   : Word16
  nend     : Word16
  deltaI   : Word16
  tmin     : Word16
  tmax     : Word16
  ith      : Word16
  ialarm   : Word16
  ireclose : Word16
  tshift   : Word16
  tcb      : Word16
  rt       : Word16
  rmin     : Word16
  ts       : Word16
  vlive    : Word16
  vtest    : Word16
  attempts : Word16
  tdead    : Word16
  check    : Word16
deriving DecidableEq, Repr

/-- The 28 stored fields of the station record, in position order (3.5). -/
structure StationFields where
  offset      : Word16
  alphaMin    : Word16
  alphaMax    : Word16
  alphaRetard : Word16
  ki          : Word16
  kc          : Word16
  vref        : Word16
  rdroop      : Word16
  vblock      : Word16
  vhys        : Word16
  ilimit      : Word16
  irectTrip   : Word16
  burst       : Word16
  vacMin      : Word16
  u1          : Word16
  t1          : Word16
  u2          : Word16
  u3          : Word16
  th          : Word16
  nrep        : Word16
  w           : Word16
  ireopen     : Word16
  iframe      : Word16
  tf          : Word16
  topenLim    : Word16
  tcloseLim   : Word16
  icreep      : Word16
  check       : Word16
deriving DecidableEq, Repr

/-- What the converter gives for one channel at one sample instant (R2): a value in the channel's unit before
rounding, as the fraction `num / den`, or one end of the converter's span. -/
inductive Conversion
  | scaled (num : Int) (den : Nat)
  | spanLow
  | spanHigh
deriving DecidableEq, Repr

/-- The levels of one sense line at the ends of a probe's three phases (R72); `true` is high. -/
structure LineLevels where
  released : Bool
  pullDown : Bool
  pullUp   : Bool
deriving DecidableEq, Repr

/-- One block's handling of its event at a sample instant. The blocks' samples and probes come together, and so do
their millisecond events; the rules leave their order open (R20, R42, R125, R168, R175). -/
inductive InstantTask
  /-- VAB to the phase tracker (R14). -/
  | trackVab
  /-- IFk to discriminator k (R22). -/
  | feederSample (k : FeederId)
  /-- IDC to the rectifier controller (R125). -/
  | rectifierCurrent
  /-- VBUS to the rectifier controller (R137). -/
  | rectifierVoltage
  /-- VRE to the rail potential monitor (R144). -/
  | railSample
  /-- The end of the probe of one sense line, at eighth 4 (R72). -/
  | probe (i : ItemId)
  /-- The millisecond event at discriminator k (R35). -/
  | thermal (k : FeederId)
  /-- The millisecond event at sequencer k's settle watch (R103). -/
  | settleWatch (k : FeederId)
  /-- The millisecond event at the rectifier controller (R137). -/
  | rectifierMean
  /-- The millisecond event at the rail potential monitor (R143, R153). -/
  | railMean
  /-- The millisecond event at the fault record store (R166, R168). -/
  | recordMean
deriving DecidableEq, Repr

/-- What comes from outside at one sample instant. -/
structure SampleInputs where
  /-- The converted channels (R1). -/
  conversions : PerChannel Conversion
  /-- The sense lines; used at eighth 4 (R72). -/
  lines : PerItem LineLevels
  /-- Whether the crystal has oscillated without interruption since the last instant (R12). -/
  crystal : Bool
  /-- The order in which the blocks take their events of this instant; a block not named comes last, in the order
  of `InstantTask.all`. -/
  order : List InstantTask
deriving DecidableEq, Repr

/-- REMOTE and ENG_KEY, `true` when active (00, External connections). -/
structure Pins where
  remote : Bool
  engKey : Bool
deriving DecidableEq, Repr

/-- The station computer's part of every request: its tag (R193), and the pins as they stand at the execution (R85). -/
structure RequestHead where
  tag  : Byte
  pins : Pins
deriving DecidableEq, Repr

/-- A record of the non-volatile store and the contents found in it. -/
inductive FoundRecord
  | set (n : SetId) (fields : SetFields)
  | station (fields : StationFields)
deriving DecidableEq, Repr

/-- What comes from outside at a reset. -/
structure ResetInputs where
  /-- The rate straps as the part leaves the reset (R191). -/
  rate : BitVec 2
  /-- The unit straps as the part leaves the reset (R205). -/
  unit : BitVec 4
  /-- At a power-on reset, whether the crystal oscillates when the part leaves it; at the other resets, whether the
  crystal oscillated without interruption through it (R13). -/
  crystal : Bool
  /-- Sample instants of the grid that passed while the part was held in a pin reset or Restart (R13). -/
  held : Nat
  /-- Where the crystal was interrupted through a pin reset or Restart: how many of the held instants have passed since
  its last interruption (R12, R13). -/
  since : Nat
  /-- Records whose stored contents were disturbed and are found with these contents by the start-up check (R49). -/
  found : List FoundRecord
deriving DecidableEq, Repr

/-- The level of a line of the station link, in either direction (R191). -/
inductive LineLevel
  | space | mark
deriving DecidableEq, Repr

/-- A data bit of 1 stands at mark, one of 0 at space, as on any asynchronous line: R191 gives the levels of the start and
the stop bit alone (log 47, PRESUMED, unsafe). -/
def LineLevel.bit : LineLevel → Bool
  | .space => false
  | .mark => true

def LineLevel.ofBit (b : Bool) : LineLevel := if b then .mark else .space

/-- What the receiver makes of one character (R192); `Machine.sampledCharacter` gives it from the levels of the ten bit
times (R191). -/
inductive LineCharacter
  /-- A character whose stop bit is sampled at mark. -/
  | byte (b : Byte)
  /-- A stop bit sampled at space, with the line back at mark before 20 bit times. -/
  | framingError
deriving DecidableEq, Repr

/-- The commands: one for each row of spec/opcode_table.json, in the table's order. -/
inductive Instr
  | powerOnReset (inputs : ResetInputs)
  | pinReset (inputs : ResetInputs)
  | restartReset (inputs : ResetInputs)
  | crystalFailure
  | crystalReturn
  | sampleInstant (inputs : SampleInputs)
  | noCrossingExpiry
  | coilPulseEnd (item : ItemId)
  | limitTimerExpiry (item : ItemId)
  | deadTimeExpiry (k : FeederId)
  | settleExpiry (k : FeederId)
  | serviceTimerExpiry (k : FeederId)
  | pulseInstant (gate : GateId)
  | burstEnd (gate : GateId)
  | railHoldExpiry
  | energyPulseOnExpiry
  | energyPulseGapExpiry
  | recordHoldExpiry
  | scanVisit (found : Option FoundRecord)
  | setWriteCompletion (readBack : SetFields)
  | stationRecordWriteCompletion (readBack : StationFields)
  | mapEntryWriteCompletion (readBack : Option SetId)
  | noticeHoldoffExpiry
  | receivedCharacter (char : LineCharacter) (pins : Pins)
  | gapTimerExpiry
  | linkBreak
  | linkBreakEnd
  | requestExecutionStart (pins : Pins)
  | unknownKind (head : RequestHead) (kind : Byte) (payload : List Byte)
  | frameTransmitStart
  | frameTransmitEnd
  | identify (head : RequestHead)
  | echo (head : RequestHead) (payload : List Byte)
  | readStatus (head : RequestHead)
  | readAttention (head : RequestHead)
  | noticeMask (head : RequestHead) (mask : Word16)
  | setTime (head : RequestHead) (count : Millis)
  | restart (head : RequestHead)
  | readMeasurements (head : RequestHead)
  | readEnergy (head : RequestHead)
  | clearEnergy (head : RequestHead)
  | writeSet (head : RequestHead) (number : Byte) (fields : SetFields)
  | readSet (head : RequestHead) (number : Byte)
  | eraseSet (head : RequestHead) (number : Byte)
  | writeMapEntry (head : RequestHead) (feeder feedState value : Byte)
  | readMap (head : RequestHead)
  | writeStationRecord (head : RequestHead) (fields : StationFields)
  | readStationRecord (head : RequestHead)
  | setFeedState (head : RequestHead) (feeder feedState : Byte)
  | readFeeder (head : RequestHead) (feeder : Byte)
  | feederClose (head : RequestHead) (feeder : Byte)
  | feederOpen (head : RequestHead) (feeder : Byte)
  | resetLockout (head : RequestHead) (feeder : Byte)
  | clearFeederCounters (head : RequestHead) (feeder : Byte)
  | readItems (head : RequestHead)
  | rectifierStart (head : RequestHead)
  | rectifierStop (head : RequestHead)
  | setVoltageReference (head : RequestHead) (voltage : Word16)
  | readRectifier (head : RequestHead)
  | readRail (head : RequestHead)
  | releaseEarthing (head : RequestHead)
  | clearFrameFault (head : RequestHead)
  | fetchJournal (head : RequestHead) (count : Byte)
  | releaseJournal (head : RequestHead) (index : Word16)
  | readAlarms (head : RequestHead)
  | acknowledgeAlarms (head : RequestHead)
  | listRecords (head : RequestHead)
  | readRecordPiece (head : RequestHead) (slot piece : Byte)
  | freeRecord (head : RequestHead) (slot : Byte)
deriving DecidableEq, Repr

end Sys2Proof
end

