-- ==== Sys2Proof/Config.lean ====
section
/-! DEFINITION. What the spec leaves to the part: free values, of which nothing can be proved, and the fixed numbers
of the rules that several blocks share. -/

namespace Sys2Proof.Config

/-- FREE VALUE (log 13). R49: a record whose programming was cut off is INVALID "whatever the contents it was left
with". Field `position` of the contents left by the cut with number `cut`. -/
opaque cutField : (cut position : Nat) → Word16

/-- FREE VALUE (log 18). The spec reports milliseconds left on a timer and does not say how a part of a millisecond
is counted: whether that part is reported as one more. -/
opaque partialMillisecondCounts : Bool

/-- Sample instants in one millisecond of the grid (1.1). -/
def instantsPerMs : Nat := 8

/-- R191 and R205: the identity reported by Identify. -/
def vendorCode : Nat := 0x0B6E
/-- R205. -/
def partCode : Nat := 612
/-- R205. -/
def revision : Nat := 1

/-- R176: the journal holds at most 256 entries. -/
def journalCapacity : Nat := 256
/-- R185: an append that leaves this many entries or more sets the attention flag JOURNAL. -/
def journalHigh : Nat := 192

end Sys2Proof.Config
end

