-- ==== Sys2Proof/Machine/State.lean ====
section
/-! DEFINITION. The state of the part as plain data, the reasons a step could stop, and the state right after a
power-on reset. INVENTORY.md lists every field with its rule and its reset value. -/

namespace Sys2Proof.Machine

/-! ### Reasons to stop -/

/-- The spec gives the part no event that stops it, so no command faults: the type has no constructor. -/
inductive Fault
deriving DecidableEq, Repr

/-- Why a command has no outcome. -/
inductive Refusal
  /-- Raised only by an arm of `exec` whose row has no meaning yet (safe: nothing is claimed of it). No arm does. -/
  | notModelled (mnemonic : String)
deriving DecidableEq, Repr

/-! ### Time base (01, 1.3) -/

inductive ClockSource
  | crystal | fallback
deriving DecidableEq, Repr

/-- A timestamp (R8): the clock and eighth of a sample instant, with UNSYNC and FREE. -/
structure Stamp where
  ms     : Millis
  eighth : BitVec 3
  unsync : Bool
  free   : Bool
deriving DecidableEq, Repr

structure TimeBase where
  /-- Station clock, milliseconds (R8). -/
  clock : Millis
  /-- Position of the instant in its millisecond (R8). -/
  eighth : BitVec 3
  /-- Elapsed count (R9). -/
  elapsed : Millis
  unsync : Bool
  source : ClockSource
  /-- Instants of uninterrupted crystal oscillation while in FALLBACK, up to 100 ms (R12). -/
  crystalRun : Nat
  /-- The model's count of sample instants since the reset; timers expire at a tick (R9, log 4). -/
  tick : Nat
  /-- The grid stands at an instant whose samples are not yet presented (R13, log 4). -/
  begun : Bool
deriving DecidableEq, Repr

/-! ### Sampling front end (01, 1.1 and 1.2) -/

structure FrontEnd where
  /-- The latest presented sample of each channel (R2, R7). -/
  latest : PerChannel Int
  /-- The sum of the samples of the millisecond under way (R4, R7). -/
  sums : PerChannel Int
  /-- The 20 newest 1 ms means, oldest first (R5). -/
  means : PerChannel (List Int)
  /-- Samples still to come, without the flag, until the saturation indication clears (R3). -/
  saturation : PerChannel Nat
  /-- The 16 newest samples of each feeder current, oldest first (R6). -/
  history : Six (List Int)
deriving DecidableEq, Repr

/-! ### Phase tracker (01, 1.4) -/

structure Tracker where
  locked : Bool
  /-- Time of the last crossing, µs on the elapsed scale (R14). -/
  lastCrossing : Option Nat
  run : Nat
  /-- The last valid periods, oldest first, at most 4, µs (R15). -/
  periods : List Nat
  /-- The reference period P, µs (R15). -/
  period : Nat
  /-- The largest |VAB| since the last crossing (R17). -/
  peak : Nat
  acPeak : Nat
  /-- Sample n − 1 of VAB and its time in µs (R14); none until a sample has been taken. -/
  previous : Option (Int × Nat)
  /-- SUPPLY_LOW (R18). -/
  supplyLow : Bool
  /-- The tick at which the no-crossing timer expires (R16). -/
  noCrossing : Nat
deriving DecidableEq, Repr

/-! ### Settings store and binding unit (03) -/

/-- What a record presents (R47). -/
inductive Presented
  | empty | valid | invalid
deriving DecidableEq, Repr

/-- The record states of R47; PROGRAMMING keeps what the record presented when the write was taken. -/
inductive RecordState
  | empty
  | programming (before : Presented)
  | valid
  | invalid
deriving DecidableEq, Repr

/-- A record of the non-volatile store: its state, and its stored contents unless it has none. -/
structure StoredRecord (α : Type) where
  state  : RecordState
  stored : Option α
deriving DecidableEq, Repr

/-- Feed states, codes 0..3 (3.1). -/
inductive FeedState
  | double | single | extended | unknown
deriving DecidableEq, Repr

/-- One row of the feed configuration map: for each feed state a set, or NONE (3.6). -/
structure MapRow where
  double   : Option SetId
  single   : Option SetId
  extended : Option SetId
  unknown  : Option SetId
deriving DecidableEq, Repr

/-- Fault causes of a binding, codes 0..3 (R66). -/
inductive FaultCause
  | none | mapNone | setEmpty | setInvalid
deriving DecidableEq, Repr

/-- A binding (R64); no set means BACKSTOP. -/
structure Binding where
  feed  : FeedState
  set   : Option SetId
  fault : FaultCause
deriving DecidableEq, Repr

/-- The target and new contents of a write in progress (R52, R59, R62). -/
inductive WriteJob
  | set (n : SetId) (fields : SetFields)
  | station (fields : StationFields)
  | mapEntry (k : FeederId) (f : FeedState) (value : Option SetId)
deriving DecidableEq, Repr

/-- A write in progress, with the tick at which its programming timer expires. -/
structure WriteInProgress where
  job     : WriteJob
  expires : Nat
deriving DecidableEq, Repr

structure Store where
  sets    : Vector (StoredRecord SetFields) 16
  station : StoredRecord StationFields
  map     : Six MapRow
  write   : Option WriteInProgress
  /-- Scan position: sets 0..15, then 16 for the station record (R57). -/
  scan    : Fin 17
  /-- The tick at which the scan timer expires (R57). -/
  scanDue : Nat
  feed    : Six FeedState
  binding : Six Binding
  inUse   : Vector Nat 16
  /-- The model's counter of cut-off writes, for the free contents they leave (log 13). -/
  cuts    : Nat
deriving DecidableEq, Repr

/-! ### Switchgear supervisor (04) -/

/-- Sensed positions, codes 0..3 (4.1). -/
inductive Position
  | opened | closed | unsensed | unknown
deriving DecidableEq, Repr

/-- Item states (4.1). -/
inductive ItemState
  | unknown | opened | closed | opening | closing | failedOpen | failedClose | unsensed
deriving DecidableEq, Repr

inductive Direction
  | opening | closing
deriving DecidableEq, Repr

/-- The blocks that command items (4.1). -/
inductive Commander
  | sequencer (k : FeederId)
  | rectifier
  | railMonitor
  | breakerFailure
deriving DecidableEq, Repr

/-- Outcomes of a command (R77). -/
inductive CommandOutcome
  | completed | failed | superseded | wrongState
deriving DecidableEq, Repr

/-- Reasons of a report to an owner (R86). -/
inductive ReportReason
  | command | completed | failed | superseded | late | initial | discrepancy | resensed | unsensed | supervision
deriving DecidableEq, Repr

/-- An operation under way: direction, start tick, the tick at which the limit timer expires, the waiting commanders,
and whether a probe has ended since the action started (R78, for a test contactor). -/
structure Operation where
  direction : Direction
  start     : Nat
  limit     : Nat
  waiting   : List Commander
  probed    : Bool
deriving DecidableEq, Repr

structure Item where
  state  : ItemState
  sensed : Position
  /-- Last firm position: none, OPEN or CLOSED. -/
  firm   : Option Position
  /-- The levels of the last probe, none until one has ended. -/
  levels : Option LineLevels
  /-- The last result: none, OPEN, CLOSED or UNSENSED (R73). -/
  result : Option Position
  run    : Nat
  operation : Option Operation
  /-- Trip or open coil: the tick at which the running pulse ends (R71). -/
  openCoil  : Option Nat
  /-- Close coil: the tick at which the running pulse ends (R71). -/
  closeCoil : Option Nat
  /-- The maintained coil of a test contactor: energised (R71). -/
  held : Bool
deriving DecidableEq, Repr

/-! ### Trips (02, 2.6; 05, 5.1) -/

/-- Trip causes, codes 0..6 (5.1). -/
inductive TripCause
  | instant | rise | thermal | directRelease | railSubstitute | frameFault | backup
deriving DecidableEq, Repr

/-- The part of a trip snapshot that only a RISE trip has (R41). -/
structure RiseValues where
  ib     : Int
  deltaI : Int
  age    : Nat
deriving DecidableEq, Repr

/-- A trip snapshot (R41). -/
structure Snapshot where
  cause   : TripCause
  stamp   : Stamp
  i       : Int
  d       : Int
  rise    : Option RiseValues
  theta   : Int
  /-- The set named by the binding, none for BACKSTOP. -/
  binding : Option SetId
deriving DecidableEq, Repr

/-! ### Feeder fault discriminator (02) -/

inductive DiscState
  | disarmed | armed | tripped
deriving DecidableEq, Repr

/-- The part of the evaluation context that exists in RISING (2.1). -/
structure RiseEvent where
  ib       : Int
  age      : Nat
  endCount : Nat
  dfall    : Nat
  nend     : Nat
  deltaI   : Nat
  tmin     : Nat
  tmax     : Nat
deriving DecidableEq, Repr

inductive EventOutcome
  | none | ended | expired
deriving DecidableEq, Repr

/-- The last IFk sample the discriminator took (R41, R42). -/
structure LastSample where
  i     : Int
  d     : Int
  stamp : Stamp
deriving DecidableEq, Repr

structure Discriminator where
  state     : DiscState
  /-- Instant counter. -/
  instant   : Nat
  startRun  : Nat
  startBase : Option Int
  /-- The event followed; none in rise state IDLE. -/
  event     : Option RiseEvent
  /-- Close-blocking count, samples. -/
  blocking  : Nat
  /-- Thermal image, A². -/
  theta     : Int
  /-- THERMAL_ALARM condition. -/
  alarm     : Bool
  /-- Rise-event counter. -/
  events    : Nat
  outcome   : EventOutcome
  last      : LastSample
deriving DecidableEq, Repr

/-! ### Feeder sequencer (05) -/

inductive DeadPhase
  | waiting | deferred
deriving DecidableEq, Repr

inductive TestPhase
  | tcClosing | settling | tcOpening
deriving DecidableEq, Repr

inductive FeederState
  | unknown | out | inService | tripping
  | deadTime (phase : DeadPhase)
  | lineTest (phase : TestPhase)
  | closing | lockedOut
deriving DecidableEq, Repr

/-- Lockout causes, codes 0..8 (5.1). -/
inductive LockoutCause
  | attemptsExhausted | lineTestFail | deferralLimit | testEquipment | closeFail | breakerFailure | frameFault
  | backup | tripOutOfService
deriving DecidableEq, Repr

/-- Exit targets (5.1); `deadTimeDeferred` is the DEAD_TIME target deferred after an abort, code 8. -/
inductive ExitTarget
  | out | inService | deadTime | deadTimeDeferred | closing
  | lockedOut (cause : LockoutCause)
deriving DecidableEq, Repr

inductive TestResult
  | none | pass | passLive | fail | noBusbar
deriving DecidableEq, Repr

/-- The last line test (5.1); the fields a result does not have are absent. -/
structure LineTest where
  result : TestResult
  rline  : Option Nat
  vl     : Option Int
  vb     : Option Int
  stamp  : Option Stamp
  manual : Bool
deriving DecidableEq, Repr

structure Sequencer where
  state     : FeederState
  exit      : Option ExitTarget
  /-- Reclose mark: none, not reclosable, reclosable. -/
  reclose   : Option Bool
  lastCause : Option TripCause
  snapshot  : Option Snapshot
  lockout   : Option LockoutCause
  /-- Attempts used. -/
  attempts  : Nat
  manual    : Bool
  deadTimer    : Option Nat
  settleTimer  : Option Nat
  serviceTimer : Option Nat
  /-- Deferral start, an elapsed count. -/
  deferral  : Option Millis
  lastTest  : LineTest
deriving DecidableEq, Repr

/-! ### Rectifier controller and gate burst formatter (06) -/

inductive RectState
  | stopped | syncing | softStart | regulating | currentLimit | retard | blocked | tripped
deriving DecidableEq, Repr

inductive StopCause
  | none | reset | request | acbFail | settings | overcurrent | breakerFailure | acbOpened
deriving DecidableEq, Repr

inductive BlockCause
  | none | meanOvervoltage | fastOvervoltage | unlocked
deriving DecidableEq, Repr

/-- Values of the most recent regulator run (R131). -/
structure RegulatorRecord where
  vtarget : Int
  e       : Int
  step    : Int
  idc20   : Int
  vbus20  : Int
deriving DecidableEq, Repr

inductive PulseStatus
  | pending | fired | dropped
deriving DecidableEq, Repr

/-- A pulse entry of the schedule (6.1); its instant is in µs on the elapsed scale. -/
structure Pulse where
  gate     : GateId
  angle    : Nat
  position : Nat
  moment   : Nat
  status   : PulseStatus
deriving DecidableEq, Repr

structure Schedule where
  crossing : Nat
  period   : Nat
  offset   : Nat
  /-- Burst length, µs. -/
  burst    : Nat
  pulses   : List Pulse
deriving DecidableEq, Repr

/-- A running burst: its start and end instants in µs on the elapsed scale (R139). -/
structure Burst where
  starts : Nat
  ends   : Nat
deriving DecidableEq, Repr

structure Rectifier where
  state      : RectState
  stopCause  : StopCause
  blockCause : BlockCause
  /-- Firing angle, tenths of a degree. -/
  alpha      : Nat
  /-- Working reference, V. -/
  reference  : Nat
  regulator  : RegulatorRecord
  schedule   : Option Schedule
  overcurrent : Nat
  overvoltage : Nat
  limitCount  : Nat
  /-- RECT_TRIPPED condition (R126). -/
  trippedLive : Bool
  /-- One entry for each gate: none is IDLE. -/
  bursts      : Vector (Option Burst) 12
deriving DecidableEq, Repr

/-! ### Rail potential monitor (07) -/

/-- Monitor states; OPENING keeps whether Release Earthing started it (R150). -/
inductive MonitorState
  | watching | closing | holding
  | opening (released : Bool)
  | permanent | failed
deriving DecidableEq, Repr

/-- An entry of the recent-closure list (R148). -/
structure Closure where
  elapsed : Millis
  stamp   : Stamp
deriving DecidableEq, Repr

inductive FrameCause
  | rl3 | frameCurrent
deriving DecidableEq, Repr

/-- The last frame fault record (R154). -/
structure FrameRecord where
  cause : FrameCause
  value : Nat
  stamp : Stamp
deriving DecidableEq, Repr

structure RailMonitor where
  state : MonitorState
  rl1 : Nat
  rl2 : Nat
  rl3 : Nat
  frameRun : Nat
  /-- RL1 holds: the run compared with T1 at the most recent millisecond event (R143, R145). -/
  rl1Held : Bool
  /-- The frame-current condition holds: the run compared with TF at the most recent millisecond event. While it holds,
  the run has declared since it last stood below TF (R145, R153). -/
  frameHeld : Bool
  watchPeak : Nat
  /-- The sign of the watch peak: rails below earth. -/
  watchBelow : Bool
  closures : List Closure
  holdTimer : Option Nat
  frameFault : Bool
  lastFault : Option FrameRecord
deriving DecidableEq, Repr

/-! ### Energy unit (08, 8.1) -/

inductive PulseOutput
  | idle
  | on (expires : Nat)
  | gap (expires : Nat)
deriving DecidableEq, Repr

/-- Energy counters are in millijoules. -/
structure Energy where
  plus  : Six Nat
  minus : Six Nat
  rectPlus  : Nat
  rectMinus : Nat
  /-- Credited kWh. -/
  credited : Nat
  /-- Pending pulses. -/
  pulses : Nat
  output : PulseOutput
deriving DecidableEq, Repr

/-! ### Fault record store (08, 8.3) -/

/-- The content of one millisecond of one feeder (8.3). -/
structure Triple where
  current : Int
  busbar  : Int
  line    : Int
deriving DecidableEq, Repr

/-- The millisecond of triple 32 (R168). -/
structure CaptureStart where
  ms     : Millis
  unsync : Bool
  free   : Bool
deriving DecidableEq, Repr

/-- The record of one trip (8.3); "triples filled" is the length of `triples`. -/
structure FaultRecord where
  feeder   : FeederId
  cause    : TripCause
  stamp    : Stamp
  snapshot : Snapshot
  captureStart : Option CaptureStart
  triples  : List Triple
deriving DecidableEq, Repr

inductive Slot
  | free
  | filling (r : FaultRecord)
  | complete (r : FaultRecord)
  | held (r : FaultRecord)
deriving DecidableEq, Repr

structure RecordStore where
  slots  : Vector Slot 4
  /-- The claim list, oldest claim first. -/
  claims : List SlotId
  /-- The hold: the HELD slot and the tick at which its timer expires. -/
  hold   : Option (SlotId × Nat)
  /-- Pre-trip rings, 32 triples each, oldest first. -/
  rings  : Six (List Triple)
deriving DecidableEq, Repr

/-! ### Journal and alarm unit (09) -/

/-- Sources of journal entries (R174). -/
inductive Source
  | station | rectifier
  | feeder (k : FeederId)
  | rail | store | link
  | item (i : ItemId)
deriving DecidableEq, Repr

/-- The 35 kinds of journal entries, codes 0..34 in this order (9.2). -/
inductive Kind
  | startUp | timeSet | clockFallback | syncLost | syncLocked | feederTrip | feederOpened | feederClosed
  | feederClosedLocal | lineTestResult | lockout | lockoutReset | bindingChanged | bindingFault | setWritten
  | setErased | recordInvalid | mapWritten | feedState | itemPosition | itemFail | itemDiscrepant | itemUnsensed
  | rectState | rectTrip | railClose | railOpen | railPermanent | railRelease | frameFault | breakerFailure
  | thermalAlarm | energyCleared | alarmsAcked | linkReset
deriving DecidableEq, Repr

/-- A journal entry (R174). -/
structure Entry where
  index   : Word16
  stamp   : Stamp
  source  : Source
  kind    : Kind
  details : List Int
deriving DecidableEq, Repr

/-- One flag for each of the 68 alarms, grouped as the table of 9.4 numbers them. -/
structure AlarmFlags where
  supplyLost : Bool
  clockFallback : Bool
  timeUnsync : Bool
  rectTripped : Bool
  settingsInvalid : Bool
  railPermanent : Bool
  frameFault : Bool
  journalOverflow : Bool
  bindingFault : Six Bool
  lockedOut : Six Bool
  thermalAlarm : Six Bool
  itemFail : PerItem Bool
  unsensed : PerItem Bool
  discrepant : PerItem Bool
deriving DecidableEq, Repr

/-- The alarms of 9.4. -/
inductive Alarm
  | supplyLost | clockFallback | timeUnsync | rectTripped | settingsInvalid | railPermanent | frameFault
  | journalOverflow
  | bindingFault (k : FeederId)
  | lockedOut (k : FeederId)
  | thermalAlarm (k : FeederId)
  | itemFail (i : ItemId)
  | unsensed (i : ItemId)
  | discrepant (i : ItemId)
deriving DecidableEq, Repr

/-- The nine attention flags, codes 0..8 (9.5). -/
inductive AttentionFlag
  | trip | lockout | switchgear | rectifier | rail | alarm | journal | record | restart
deriving DecidableEq, Repr

/-- One bit for each attention flag. -/
structure FlagSet where
  trip : Bool
  lockout : Bool
  switchgear : Bool
  rectifier : Bool
  rail : Bool
  alarm : Bool
  journal : Bool
  record : Bool
  restart : Bool
deriving DecidableEq, Repr

/-- A notice (R188). -/
structure Notice where
  pending   : FlagSet
  attention : FlagSet
  entries   : Nat
  newest    : Word16
deriving DecidableEq, Repr

structure JournalUnit where
  /-- The journal, oldest entry first. -/
  journal : List Entry
  nextIndex : Word16
  latched : AlarmFlags
  /-- ALARM contact energised. -/
  contact : Bool
  attention : FlagSet
  mask : FlagSet
  /-- The pending set (R187). -/
  pendingFlags : FlagSet
  /-- The tick at which the holdoff timer expires. -/
  holdoff : Option Nat
  notice : Option Notice
deriving DecidableEq, Repr

/-! ### Link controller (10) -/

/-- A complete frame: kind, tag and payload (R193). -/
structure LinkFrame where
  kind    : Byte
  tag     : Byte
  payload : List Byte
deriving DecidableEq, Repr

/-- Receive assembly (R194); bytes are kept in the order received. -/
inductive Assembly
  | hunt
  | length
  | body (length : Nat) (bytes : List Byte)
  | check (length : Nat) (bytes : List Byte) (crc : List Byte)
  | lineBreak
deriving DecidableEq, Repr

/-- A request under execution: its kind byte and tag. -/
structure Executing where
  kind : Byte
  tag  : Byte
deriving DecidableEq, Repr

inductive Transmitter
  | idle
  | sendingReply (bytes : List Byte)
  | sendingNotice (bytes : List Byte)
deriving DecidableEq, Repr

structure LinkCounters where
  framing  : Nat
  gap      : Nat
  length   : Nat
  crc      : Nat
  breaks   : Nat
  overflow : Nat
deriving DecidableEq, Repr

/-- How far a taken Restart has come (R207). -/
inductive RestartPhase
  | none | taken | replySending | replySent
deriving DecidableEq, Repr

structure Link where
  /-- Rate code (R191). -/
  rate : BitVec 2
  assembly : Assembly
  /-- Inbound queue, oldest first. -/
  queue : List LinkFrame
  executing : Option Executing
  /-- Reply slot. -/
  slot : Option LinkFrame
  transmitter : Transmitter
  counters : LinkCounters
  restart : RestartPhase
deriving DecidableEq, Repr

/-! ### The whole part -/

inductive ResetCause
  | powerOn | resetPin | restartRequest
deriving DecidableEq, Repr

/-- The levels at REMOTE and ENG_KEY, as the last command that brings them has given them (R85; log 7), and what the
part keeps of its last reset (R205, R206). -/
structure Panel where
  remote : Bool
  engKey : Bool
  unit   : BitVec 4
  cause  : ResetCause
deriving DecidableEq, Repr

/-- The blocks that act on one another within an event. -/
structure Plant where
  tracker : Tracker
  items   : PerItem Item
  discs   : Six Discriminator
  feeders : Six Sequencer
  /-- The open-pending set, ascending, without repeats (R92). -/
  pendingOpen : List FeederId
  rect    : Rectifier
  rail    : RailMonitor
  records : RecordStore
  unit    : JournalUnit
deriving DecidableEq, Repr

structure State where
  /-- Commands that are waiting, first in, first out. -/
  pending : List Instr
  panel   : Panel
  time    : TimeBase
  front   : FrontEnd
  store   : Store
  plant   : Plant
  energy  : Energy
  link    : Link
deriving DecidableEq, Repr

/-! ### Reset values -/

/-- R7. -/
def FrontEnd.reset : FrontEnd where
  latest := PerChannel.all 0
  sums := PerChannel.all 0
  means := PerChannel.all (List.replicate 20 0)
  saturation := PerChannel.all 0
  history := Six.all (List.replicate 16 0)

/-- R19's table; SUPPLY_LOW as R18 evaluates it for an AC peak of 0. -/
def Tracker.reset : Tracker where
  locked := false
  lastCrossing := none
  run := 0
  periods := []
  period := 0
  peak := 0
  acPeak := 0
  previous := none
  supplyLow := true
  noCrossing := 240

/-- R89's table. -/
def Item.reset : Item where
  state := .unknown
  sensed := .unknown
  firm := none
  levels := none
  result := none
  run := 0
  operation := none
  openCoil := none
  closeCoil := none
  held := false

/-- R46's table; the last sample as log 16 says. -/
def Discriminator.reset : Discriminator where
  state := .disarmed
  instant := 0
  startRun := 0
  startBase := none
  event := none
  blocking := 0
  theta := 0
  alarm := false
  events := 0
  outcome := .none
  last := ⟨0, 0, ⟨0, 0, false, false⟩⟩

/-- R118's table: no line test yet. R118 gives the result NONE alone; the model holds the other fields absent and the
manual flag of the record clear (log 55, DESIGN CHOICE, unsafe). -/
def LineTest.reset : LineTest := ⟨.none, none, none, none, none, false⟩

/-- R118's table. -/
def Sequencer.reset : Sequencer where
  state := .unknown
  exit := none
  reclose := none
  lastCause := none
  snapshot := none
  lockout := none
  attempts := 0
  manual := false
  deadTimer := none
  settleTimer := none
  serviceTimer := none
  deferral := none
  lastTest := LineTest.reset

/-- R119, with the working reference given. -/
def Rectifier.reset (reference : Nat) : Rectifier where
  state := .stopped
  stopCause := .reset
  blockCause := .none
  alpha := 0
  reference := reference
  regulator := ⟨0, 0, 0, 0, 0⟩
  schedule := none
  overcurrent := 0
  overvoltage := 0
  limitCount := 0
  trippedLive := false
  bursts := Vector.replicate 12 none

/-- R158's table. -/
def RailMonitor.reset : RailMonitor where
  state := .watching
  rl1 := 0
  rl2 := 0
  rl3 := 0
  frameRun := 0
  rl1Held := false
  frameHeld := false
  watchPeak := 0
  watchBelow := false
  closures := []
  holdTimer := none
  frameFault := false
  lastFault := none

/-- R165: power-on reset. -/
def Energy.reset : Energy where
  plus := Six.all 0
  minus := Six.all 0
  rectPlus := 0
  rectMinus := 0
  credited := 0
  pulses := 0
  output := .idle

/-- R173: power-on reset. -/
def RecordStore.reset : RecordStore where
  slots := Vector.replicate 4 .free
  claims := []
  hold := none
  rings := Six.all (List.replicate 32 ⟨0, 0, 0⟩)

def AlarmFlags.clear : AlarmFlags :=
  ⟨false, false, false, false, false, false, false, false,
    Six.all false, Six.all false, Six.all false, PerItem.all false, PerItem.all false, PerItem.all false⟩

def FlagSet.empty : FlagSet := ⟨false, false, false, false, false, false, false, false, false⟩

/-- R190: the unit as a power-on reset leaves it, before the start-up entries. -/
def JournalUnit.reset : JournalUnit where
  journal := []
  nextIndex := 0
  latched := AlarmFlags.clear
  contact := false
  attention := { FlagSet.empty with restart := true }
  mask := FlagSet.empty
  pendingFlags := FlagSet.empty
  holdoff := none
  notice := none

/-- R203, with the rate code read from the straps. -/
def Link.reset (rate : BitVec 2) : Link where
  rate := rate
  assembly := .hunt
  queue := []
  executing := none
  slot := none
  transmitter := .idle
  counters := ⟨0, 0, 0, 0, 0, 0⟩
  restart := .none

/-- R13: the time base at the first sample instant after a power-on reset. -/
def TimeBase.reset (source : ClockSource) : TimeBase where
  clock := 0
  eighth := 0
  elapsed := 0
  unsync := true
  source := source
  crystalRun := 0
  tick := 0
  begun := true

/-- A store that has never been written (log 14): every set and the station record EMPTY, every map entry NONE, and so
(R49, R64) every feeder on the backstop with MAP_NONE. -/
def Store.reset : Store where
  sets := Vector.replicate 16 ⟨.empty, none⟩
  station := ⟨.empty, none⟩
  map := Six.all ⟨none, none, none, none⟩
  write := none
  scan := 0
  scanDue := 80
  feed := Six.all .unknown
  binding := Six.all ⟨.unknown, none, .mapNone⟩
  inUse := Vector.replicate 16 0
  cuts := 0

/-- The timestamp of the first sample instant after a power-on reset on the crystal. -/
def Stamp.powerOn : Stamp := ⟨0, 0, true, false⟩

/-- The start-up entries of R177 and R66 for a store that has never been written. -/
def startUpEntries : List Entry :=
  [⟨0, Stamp.powerOn, .station, .startUp, [0, 0]⟩,
   ⟨1, Stamp.powerOn, .feeder .f1, .bindingFault, [3, 16, 1]⟩,
   ⟨2, Stamp.powerOn, .feeder .f2, .bindingFault, [3, 16, 1]⟩,
   ⟨3, Stamp.powerOn, .feeder .f3, .bindingFault, [3, 16, 1]⟩,
   ⟨4, Stamp.powerOn, .feeder .f4, .bindingFault, [3, 16, 1]⟩,
   ⟨5, Stamp.powerOn, .feeder .f5, .bindingFault, [3, 16, 1]⟩,
   ⟨6, Stamp.powerOn, .feeder .f6, .bindingFault, [3, 16, 1]⟩]

/-- The machine right after a power-on reset, with the start-up of R49, R177 and R184 done, of a part whose store has
never been written, on the crystal, with all straps 0 (log 14, log 15). Nothing waits in the queue. -/
def State.reset : State where
  pending := []
  panel := ⟨false, false, 0, .powerOn⟩
  time := TimeBase.reset .crystal
  front := FrontEnd.reset
  store := Store.reset
  plant :=
    { tracker := Tracker.reset
      items := PerItem.all Item.reset
      discs := Six.all Discriminator.reset
      feeders := Six.all Sequencer.reset
      pendingOpen := []
      rect := Rectifier.reset 750
      rail := RailMonitor.reset
      records := RecordStore.reset
      unit :=
        { JournalUnit.reset with
          journal := startUpEntries
          nextIndex := 7
          latched :=
            { AlarmFlags.clear with supplyLost := true, timeUnsync := true, bindingFault := Six.all true }
          contact := true
          attention := { FlagSet.empty with alarm := true, journal := true, restart := true } } }
  energy := Energy.reset
  link := Link.reset 0

end Sys2Proof.Machine
end

