-- ==== Sys2Proof/Machine/Ops.lean ====
section
/-! DEFINITION. Operations that every block shares: reading and writing the fixed-size containers, the codes of the
tables, the sampling grid, the expiry of timers, and what a block of the plant can read of the rest of the part. -/

namespace Sys2Proof

/-! ### Containers -/

def Six.get {α : Type} (v : Six α) : FeederId → α
  | .f1 => v.f1 | .f2 => v.f2 | .f3 => v.f3 | .f4 => v.f4 | .f5 => v.f5 | .f6 => v.f6

def Six.set {α : Type} (v : Six α) (k : FeederId) (x : α) : Six α :=
  match k with
  | .f1 => { v with f1 := x } | .f2 => { v with f2 := x } | .f3 => { v with f3 := x }
  | .f4 => { v with f4 := x } | .f5 => { v with f5 := x } | .f6 => { v with f6 := x }

def Six.map {α β : Type} (f : α → β) (v : Six α) : Six β :=
  ⟨f v.f1, f v.f2, f v.f3, f v.f4, f v.f5, f v.f6⟩

def Six.zip {α β γ : Type} (f : α → β → γ) (v : Six α) (w : Six β) : Six γ :=
  ⟨f v.f1 w.f1, f v.f2 w.f2, f v.f3 w.f3, f v.f4 w.f4, f v.f5 w.f5, f v.f6 w.f6⟩

/-- In feeder order, feeder 1 first. -/
def Six.toList {α : Type} (v : Six α) : List α := [v.f1, v.f2, v.f3, v.f4, v.f5, v.f6]

def PerItem.get {α : Type} (v : PerItem α) : ItemId → α
  | .fb k => v.fb.get k | .tc k => v.tc.get k | .re => v.re | .acb => v.acb

def PerItem.set {α : Type} (v : PerItem α) (i : ItemId) (x : α) : PerItem α :=
  match i with
  | .fb k => { v with fb := v.fb.set k x }
  | .tc k => { v with tc := v.tc.set k x }
  | .re => { v with re := x }
  | .acb => { v with acb := x }

def PerItem.map {α β : Type} (f : α → β) (v : PerItem α) : PerItem β :=
  ⟨v.fb.map f, v.tc.map f, f v.re, f v.acb⟩

/-- In item-number order (4.1). -/
def PerItem.toList {α : Type} (v : PerItem α) : List α := v.fb.toList ++ v.tc.toList ++ [v.re, v.acb]

def PerChannel.get {α : Type} (v : PerChannel α) : Channel → α
  | .vab => v.vab | .vbc => v.vbc | .vca => v.vca | .vbus => v.vbus | .idc => v.idc
  | .feederCurrent k => v.feederCurrent.get k
  | .lineVoltage k => v.lineVoltage.get k
  | .vre => v.vre | .ire => v.ire

def PerChannel.map {α β : Type} (f : α → β) (v : PerChannel α) : PerChannel β :=
  ⟨f v.vab, f v.vbc, f v.vca, f v.vbus, f v.idc, v.feederCurrent.map f, v.lineVoltage.map f, f v.vre, f v.ire⟩

def PerChannel.zip {α β γ : Type} (f : α → β → γ) (v : PerChannel α) (w : PerChannel β) : PerChannel γ :=
  ⟨f v.vab w.vab, f v.vbc w.vbc, f v.vca w.vca, f v.vbus w.vbus, f v.idc w.idc,
    v.feederCurrent.zip f w.feederCurrent, v.lineVoltage.zip f w.lineVoltage, f v.vre w.vre, f v.ire w.ire⟩

/-! ### Numbers and codes -/

/-- Feeders are numbered 1..6. -/
def FeederId.number : FeederId → Nat
  | .f1 => 1 | .f2 => 2 | .f3 => 3 | .f4 => 4 | .f5 => 5 | .f6 => 6

/-- "In ascending feeder number". -/
def FeederId.all : List FeederId := [.f1, .f2, .f3, .f4, .f5, .f6]

def FeederId.ofNumber : Nat → Option FeederId
  | 1 => some .f1 | 2 => some .f2 | 3 => some .f3 | 4 => some .f4 | 5 => some .f5 | 6 => some .f6
  | _ => none

/-- Item numbers (4.1): FB1..FB6 0..5, TC1..TC6 6..11, RE 12, ACB 13. -/
def ItemId.number : ItemId → Nat
  | .fb k => k.number - 1
  | .tc k => k.number + 5
  | .re => 12
  | .acb => 13

/-- In item-number order. -/
def ItemId.all : List ItemId :=
  [.fb .f1, .fb .f2, .fb .f3, .fb .f4, .fb .f5, .fb .f6, .tc .f1, .tc .f2, .tc .f3, .tc .f4, .tc .f5, .tc .f6,
   .re, .acb]

/-- Every block's event of a sample instant; the order is used for blocks that the operand does not name. -/
def InstantTask.all : List InstantTask :=
  [.trackVab] ++ FeederId.all.map .feederSample ++ [.rectifierCurrent, .rectifierVoltage, .railSample]
    ++ ItemId.all.map .probe ++ FeederId.all.map .thermal ++ [.recordMean, .railMean]
    ++ FeederId.all.map .settleWatch ++ [.rectifierMean]

/-- The events of a sample instant in the order of the operand: each once, the ones it does not name at the end. -/
def InstantTask.complete (order : List InstantTask) : List InstantTask :=
  order.eraseDups ++ InstantTask.all.filter (fun t => !order.contains t)

/-- The blocks that take an event of the millisecond, which follows the samples (R1). -/
def InstantTask.ofMillisecond : InstantTask → Bool
  | .thermal _ | .settleWatch _ | .rectifierMean | .railMean | .recordMean => true
  | .trackVab | .feederSample _ | .rectifierCurrent | .rectifierVoltage | .railSample | .probe _ => false

def InstantTask.isProbe : InstantTask → Bool
  | .probe _ => true
  | _ => false

namespace Machine

/-- Position codes (4.1). -/
def Position.code : Position → Nat
  | .opened => 0 | .closed => 1 | .unsensed => 2 | .unknown => 3

/-- Item state codes (4.1). -/
def ItemState.code : ItemState → Nat
  | .unknown => 0 | .opened => 1 | .closed => 2 | .opening => 3 | .closing => 4 | .failedOpen => 5
  | .failedClose => 6 | .unsensed => 7

/-- Direction codes of ITEM_FAIL (R87). -/
def Direction.code : Direction → Nat
  | .opening => 0 | .closing => 1

/-- The position that an operation of this direction aims at. -/
def Direction.target : Direction → Position
  | .opening => .opened
  | .closing => .closed

/-- Feed-state codes (3.1). -/
def FeedState.code : FeedState → Nat
  | .double => 0 | .single => 1 | .extended => 2 | .unknown => 3

/-- Codes 0..3 give the feed states (R63). -/
def FeedState.ofCode : Nat → Option FeedState
  | 0 => some .double | 1 => some .single | 2 => some .extended | 3 => some .unknown
  | _ => none

def FaultCause.code : FaultCause → Nat
  | .none => 0 | .mapNone => 1 | .setEmpty => 2 | .setInvalid => 3

/-- Record state codes (R209, R56). -/
def RecordState.code : RecordState → Nat
  | .empty => 0 | .programming _ => 1 | .valid => 2 | .invalid => 3

/-- Feeder state codes (5.1). -/
def FeederState.code : FeederState → Nat
  | .unknown => 0 | .out => 1 | .inService => 2 | .tripping => 3 | .deadTime _ => 4 | .lineTest _ => 5
  | .closing => 6 | .lockedOut => 7

/-- Trip cause codes (5.1). -/
def TripCause.code : TripCause → Nat
  | .instant => 0 | .rise => 1 | .thermal => 2 | .directRelease => 3 | .railSubstitute => 4 | .frameFault => 5
  | .backup => 6

/-- Lockout cause codes (5.1). -/
def LockoutCause.code : LockoutCause → Nat
  | .attemptsExhausted => 0 | .lineTestFail => 1 | .deferralLimit => 2 | .testEquipment => 3 | .closeFail => 4
  | .breakerFailure => 5 | .frameFault => 6 | .backup => 7 | .tripOutOfService => 8

/-- Exit target codes (5.1): the feeder state named, with 8 for a DEAD_TIME target deferred after an abort. -/
def ExitTarget.code : ExitTarget → Nat
  | .out => 1 | .inService => 2 | .deadTime => 4 | .deadTimeDeferred => 8 | .closing => 6 | .lockedOut _ => 7

def DeadPhase.code : DeadPhase → Nat
  | .waiting => 0 | .deferred => 1

def TestPhase.code : TestPhase → Nat
  | .tcClosing => 0 | .settling => 1 | .tcOpening => 2

def TestResult.code : TestResult → Nat
  | .none => 0 | .pass => 1 | .passLive => 2 | .fail => 3 | .noBusbar => 4

/-- Discriminator codes (R44). -/
def DiscState.code : DiscState → Nat
  | .disarmed => 0 | .armed => 1 | .tripped => 2

def EventOutcome.code : EventOutcome → Nat
  | .none => 0 | .ended => 1 | .expired => 2

/-- Rectifier codes (6.1). -/
def RectState.code : RectState → Nat
  | .stopped => 0 | .syncing => 1 | .softStart => 2 | .regulating => 3 | .currentLimit => 4 | .retard => 5
  | .blocked => 6 | .tripped => 7

def StopCause.code : StopCause → Nat
  | .none => 0 | .reset => 1 | .request => 2 | .acbFail => 3 | .settings => 4 | .overcurrent => 5
  | .breakerFailure => 6 | .acbOpened => 7

def BlockCause.code : BlockCause → Nat
  | .none => 0 | .meanOvervoltage => 1 | .fastOvervoltage => 2 | .unlocked => 3

def PulseStatus.code : PulseStatus → Nat
  | .pending => 0 | .fired => 1 | .dropped => 2

/-- Monitor state codes (7.1). -/
def MonitorState.code : MonitorState → Nat
  | .watching => 0 | .closing => 1 | .holding => 2 | .opening _ => 3 | .permanent => 4 | .failed => 5

def FrameCause.code : FrameCause → Nat
  | .rl3 => 1 | .frameCurrent => 2

/-- Slot state codes (R212). -/
def Slot.code : Slot → Nat
  | .free => 0 | .filling _ => 1 | .complete _ => 2 | .held _ => 3

/-- Pulse output codes (R208). -/
def PulseOutput.code : PulseOutput → Nat
  | .idle => 0 | .on _ => 1 | .gap _ => 2

def ResetCause.code : ResetCause → Nat
  | .powerOn => 0 | .resetPin => 1 | .restartRequest => 2

def ClockSource.code : ClockSource → Nat
  | .crystal => 0 | .fallback => 1

/-- Source codes (R174). -/
def Source.code : Source → Nat
  | .station => 0 | .rectifier => 1 | .feeder k => 1 + k.number | .rail => 8 | .store => 9 | .link => 10
  | .item i => 16 + i.number

/-- Kind codes (9.2). -/
def Kind.code : Kind → Nat
  | .startUp => 0 | .timeSet => 1 | .clockFallback => 2 | .syncLost => 3 | .syncLocked => 4 | .feederTrip => 5
  | .feederOpened => 6 | .feederClosed => 7 | .feederClosedLocal => 8 | .lineTestResult => 9 | .lockout => 10
  | .lockoutReset => 11 | .bindingChanged => 12 | .bindingFault => 13 | .setWritten => 14 | .setErased => 15
  | .recordInvalid => 16 | .mapWritten => 17 | .feedState => 18 | .itemPosition => 19 | .itemFail => 20
  | .itemDiscrepant => 21 | .itemUnsensed => 22 | .rectState => 23 | .rectTrip => 24 | .railClose => 25
  | .railOpen => 26 | .railPermanent => 27 | .railRelease => 28 | .frameFault => 29 | .breakerFailure => 30
  | .thermalAlarm => 31 | .energyCleared => 32 | .alarmsAcked => 33 | .linkReset => 34

/-! ### The sampling grid (1.3) -/

/-- R8, R9: the next sample instant of the grid. -/
def TimeBase.advance (t : TimeBase) : TimeBase :=
  { t with
    clock := if t.eighth = 7 then t.clock + 1 else t.clock
    elapsed := if t.eighth = 7 then t.elapsed + 1 else t.elapsed
    eighth := t.eighth + 1
    tick := t.tick + 1 }

/-- The grid moves on by `n` instants. -/
def TimeBase.advanceBy : Nat → TimeBase → TimeBase
  | 0, t => t
  | n + 1, t => TimeBase.advanceBy n t.advance

/-- The grid stands at the next instant, before its samples are presented; it is there already when `begun`. -/
def TimeBase.begin (t : TimeBase) : TimeBase :=
  if t.begun then t else { t.advance with begun := true }

/-- R8: the timestamp of the present sample instant. -/
def TimeBase.stamp (t : TimeBase) : Stamp :=
  ⟨t.clock, t.eighth, t.unsync, decide (t.source = .fallback)⟩

/-- R14: the time of the present sample instant on the elapsed scale, µs. -/
def TimeBase.nowUs (t : TimeBase) : Nat := 1000 * t.elapsed.toNat + 125 * t.eighth.toNat

/-- R9: the tick at which a timer of `ms` milliseconds started now expires. -/
def TimeBase.after (t : TimeBase) (ms : Nat) : Nat := t.tick + 8 * ms

/-- R9: the age of a stored time. -/
def TimeBase.age (t : TimeBase) (stored : Millis) : Nat := (t.elapsed - stored).toNat

/-- Where the grid stands when a timer with this expiry expires, or none while the expiry is not due (log 3). An
expiry due at the next instant may be taken before the samples of that instant (R103, R149, log 4). -/
def TimeBase.reach (t : TimeBase) (expiry : Nat) : Option TimeBase :=
  if expiry ≤ t.tick then some t
  else if expiry = t.tick + 1 ∧ t.begun = false then some t.begin
  else none

/-- Whether a moment in microseconds has come before the next sample instant, or comes together with it (log 12). -/
def TimeBase.hasReachedUs (t : TimeBase) (moment : Nat) : Bool :=
  decide (moment ≤ t.nowUs + (if t.begun then 0 else 125))

/-- Milliseconds left until a tick, as the read requests report them (log 18). -/
def TimeBase.msLeft (t : TimeBase) (expiry : Nat) : Nat :=
  (expiry - t.tick) / 8
    + (if (expiry - t.tick) % 8 ≠ 0 ∧ Config.partialMillisecondCounts = true then 1 else 0)

/-- An expiry acts when its timer runs and it is due; otherwise nothing happens (log 3). -/
def State.atExpiry (s : State) (expiry : Option Nat) (act : State → State) : State :=
  match expiry with
  | none => s
  | some x =>
    match s.time.reach x with
    | none => s
    | some t => act { s with time := t }

/-! ### Means (1.2) -/

/-- R4: the most recent 1 ms mean. -/
def FrontEnd.mean1 (f : FrontEnd) (c : Channel) : Int := (f.means.get c).getLastD 0

/-- R5: the most recent 20 ms mean. -/
def FrontEnd.mean20 (f : FrontEnd) (c : Channel) : Int := floorDiv (f.means.get c).sum 20

/-! ### Records and bindings (3.1) -/

/-- R47: what a record presents. -/
def StoredRecord.presents {α : Type} (r : StoredRecord α) : Presented :=
  match r.state with
  | .empty => .empty
  | .programming before => before
  | .valid => .valid
  | .invalid => .invalid

/-- R47: the contents a record presents, if any. -/
def StoredRecord.contents {α : Type} (r : StoredRecord α) : Option α :=
  match r.presents with
  | .valid => r.stored
  | .empty | .invalid => none

/-- The station record's fields while it presents VALID contents (R61). -/
def Store.stationFields (st : Store) : Option StationFields := st.station.contents

def MapRow.get (m : MapRow) : FeedState → Option SetId
  | .double => m.double | .single => m.single | .extended => m.extended | .unknown => m.unknown

def MapRow.set (m : MapRow) (f : FeedState) (x : Option SetId) : MapRow :=
  match f with
  | .double => { m with double := x }
  | .single => { m with single := x }
  | .extended => { m with extended := x }
  | .unknown => { m with unknown := x }

/-- The sets in ascending number. -/
def allSets : List SetId := [0, 1, 2, 3, 4, 5, 6, 7, 8, 9, 10, 11, 12, 13, 14, 15]

/-- The slots in ascending number. -/
def allSlots : List SlotId := [0, 1, 2, 3]

/-- The gates in ascending number. -/
def allGates : List GateId := [0, 1, 2, 3, 4, 5, 6, 7, 8, 9, 10, 11]

/-- The values a binding presents to the discriminator and the sequencer (R23, 5.1). -/
structure BoundValues where
  imax : Nat
  nmax : Nat
  riseEnabled : Bool
  drise : Nat
  dfall : Nat
  nstart : Nat
  nend : Nat
  deltaI : Nat
  tmin : Nat
  tmax : Nat
  thermalEnabled : Bool
  ith : Nat
  ialarm : Nat
  ireclose : Nat
  tshift : Nat
  tcb : Nat
  rt : Nat
  rmin : Nat
  ts : Nat
  vlive : Nat
  vtest : Nat
  attempts : Nat
  tdead : Nat
deriving DecidableEq, Repr

/-- R43: the backstop. The values it does not use stand at 0. -/
def BoundValues.backstop : BoundValues where
  imax := 4000
  nmax := 2
  riseEnabled := false
  drise := 0
  dfall := 0
  nstart := 0
  nend := 0
  deltaI := 0
  tmin := 0
  tmax := 0
  thermalEnabled := false
  ith := 0
  ialarm := 3000
  ireclose := 0
  tshift := 12
  tcb := 0
  rt := 250
  rmin := 30
  ts := 500
  vlive := 600
  vtest := 500
  attempts := 0
  tdead := 2000

/-- 3.2: a binding that names a set presents its fields, with the rise function and the thermal trip enabled. -/
def BoundValues.ofSet (f : SetFields) : BoundValues where
  imax := f.imax.toNat
  nmax := f.nmax.toNat
  riseEnabled := true
  drise := f.drise.toNat
  dfall := f.dfall.toNat
  nstart := f.nstart.toNat
  nend := f.nend.toNat
  deltaI := f.deltaI.toNat
  tmin := f.tmin.toNat
  tmax := f.tmax.toNat
  thermalEnabled := true
  ith := f.ith.toNat
  ialarm := f.ialarm.toNat
  ireclose := f.ireclose.toNat
  tshift := f.tshift.toNat
  tcb := f.tcb.toNat
  rt := f.rt.toNat
  rmin := f.rmin.toNat
  ts := f.ts.toNat
  vlive := f.vlive.toNat
  vtest := f.vtest.toNat
  attempts := f.attempts.toNat
  tdead := f.tdead.toNat

/-- R64: what feeder k's binding presents: the contents of the set it names, or the backstop. (A binding names a set
only while that set presents VALID contents, R67; where it does not, the backstop stands in, log 27.) -/
def Store.values (st : Store) (k : FeederId) : BoundValues :=
  match (st.binding.get k).set with
  | none => .backstop
  | some n =>
    match (st.sets[n]).contents with
    | some f => .ofSet f
    | none => .backstop

/-! ### What a block of the plant reads of the rest of the part -/

/-- The time base, the front end and the store, which the plant's blocks read and never write. -/
structure Env where
  time  : TimeBase
  front : FrontEnd
  store : Store
deriving DecidableEq, Repr

def State.env (s : State) : Env := ⟨s.time, s.front, s.store⟩

/-- An event of the plant's blocks. -/
def State.onPlant (s : State) (f : Env → Plant → Plant) : State := { s with plant := f s.env s.plant }

def Plant.item (p : Plant) (i : ItemId) : Item := p.items.get i
def Plant.setItem (p : Plant) (i : ItemId) (it : Item) : Plant := { p with items := p.items.set i it }
def Plant.disc (p : Plant) (k : FeederId) : Discriminator := p.discs.get k
def Plant.setDisc (p : Plant) (k : FeederId) (d : Discriminator) : Plant := { p with discs := p.discs.set k d }
def Plant.feeder (p : Plant) (k : FeederId) : Sequencer := p.feeders.get k
def Plant.setFeeder (p : Plant) (k : FeederId) (f : Sequencer) : Plant := { p with feeders := p.feeders.set k f }

end Machine

end Sys2Proof
end

