-- ==== Sys2Proof/Machine/Flags.lean ====
section
/-! DEFINITION. The journal and alarm unit (09): attention flags, notices, journal entries and alarms, as one step
each. Every block posts through these operations. -/

namespace Sys2Proof.Machine

/-! ### Attention flags and notices (9.5) -/

def FlagSet.get (s : FlagSet) : AttentionFlag → Bool
  | .trip => s.trip | .lockout => s.lockout | .switchgear => s.switchgear | .rectifier => s.rectifier
  | .rail => s.rail | .alarm => s.alarm | .journal => s.journal | .record => s.record | .restart => s.restart

def FlagSet.set (s : FlagSet) (f : AttentionFlag) : FlagSet :=
  match f with
  | .trip => { s with trip := true } | .lockout => { s with lockout := true }
  | .switchgear => { s with switchgear := true } | .rectifier => { s with rectifier := true }
  | .rail => { s with rail := true } | .alarm => { s with alarm := true }
  | .journal => { s with journal := true } | .record => { s with record := true }
  | .restart => { s with restart := true }

/-- In the order of the codes 0..8. -/
def FlagSet.toList (s : FlagSet) : List Bool :=
  [s.trip, s.lockout, s.switchgear, s.rectifier, s.rail, s.alarm, s.journal, s.record, s.restart]

def FlagSet.any (s : FlagSet) : Bool := s.toList.any id

def FlagSet.inter (s t : FlagSet) : FlagSet :=
  ⟨s.trip && t.trip, s.lockout && t.lockout, s.switchgear && t.switchgear, s.rectifier && t.rectifier,
    s.rail && t.rail, s.alarm && t.alarm, s.journal && t.journal, s.record && t.record, s.restart && t.restart⟩

/-- R188: the index a notice carries: of the newest entry, or the next index while the journal is empty. -/
def JournalUnit.newestIndex (u : JournalUnit) : Word16 :=
  match u.journal.getLast? with
  | some x => x.index
  | none => u.nextIndex

/-- R188: forms a notice when a flag is pending, the holdoff timer is stopped and no notice waits. -/
def JournalUnit.tryNotice (e : Env) (u : JournalUnit) : JournalUnit :=
  if u.pendingFlags.any && u.holdoff.isNone && u.notice.isNone then
    { u with
      notice := some ⟨u.pendingFlags, u.attention, u.journal.length, u.newestIndex⟩
      pendingFlags := FlagSet.empty
      holdoff := some (e.time.after 100) }
  else u

/-- R185, R187: an attention flag sets; when that is a change and the flag is enabled, it joins the pending set, and a
notice may be formed at this event (log 20). -/
def JournalUnit.raise (e : Env) (f : AttentionFlag) (u : JournalUnit) : JournalUnit :=
  if u.attention.get f then u
  else
    let u := { u with attention := u.attention.set f }
    if u.mask.get f then JournalUnit.tryNotice e { u with pendingFlags := u.pendingFlags.set f } else u

/-! ### Alarms (9.4) -/

def AlarmFlags.get (a : AlarmFlags) : Alarm → Bool
  | .supplyLost => a.supplyLost | .clockFallback => a.clockFallback | .timeUnsync => a.timeUnsync
  | .rectTripped => a.rectTripped | .settingsInvalid => a.settingsInvalid | .railPermanent => a.railPermanent
  | .frameFault => a.frameFault | .journalOverflow => a.journalOverflow
  | .bindingFault k => a.bindingFault.get k | .lockedOut k => a.lockedOut.get k
  | .thermalAlarm k => a.thermalAlarm.get k
  | .itemFail i => a.itemFail.get i | .unsensed i => a.unsensed.get i | .discrepant i => a.discrepant.get i

def AlarmFlags.set (a : AlarmFlags) (x : Alarm) : AlarmFlags :=
  match x with
  | .supplyLost => { a with supplyLost := true } | .clockFallback => { a with clockFallback := true }
  | .timeUnsync => { a with timeUnsync := true } | .rectTripped => { a with rectTripped := true }
  | .settingsInvalid => { a with settingsInvalid := true } | .railPermanent => { a with railPermanent := true }
  | .frameFault => { a with frameFault := true } | .journalOverflow => { a with journalOverflow := true }
  | .bindingFault k => { a with bindingFault := a.bindingFault.set k true }
  | .lockedOut k => { a with lockedOut := a.lockedOut.set k true }
  | .thermalAlarm k => { a with thermalAlarm := a.thermalAlarm.set k true }
  | .itemFail i => { a with itemFail := a.itemFail.set i true }
  | .unsensed i => { a with unsensed := a.unsensed.set i true }
  | .discrepant i => { a with discrepant := a.discrepant.set i true }

/-- In alarm-number order 0..67 (9.4). -/
def AlarmFlags.toList (a : AlarmFlags) : List Bool :=
  [a.supplyLost, a.clockFallback, a.timeUnsync, a.rectTripped, a.settingsInvalid, a.railPermanent, a.frameFault,
    a.journalOverflow]
    ++ a.bindingFault.toList ++ a.lockedOut.toList ++ a.thermalAlarm.toList
    ++ a.itemFail.toList ++ a.unsensed.toList ++ a.discrepant.toList

/-- Bit by bit, in both sets. -/
def AlarmFlags.inter (a b : AlarmFlags) : AlarmFlags where
  supplyLost := a.supplyLost && b.supplyLost
  clockFallback := a.clockFallback && b.clockFallback
  timeUnsync := a.timeUnsync && b.timeUnsync
  rectTripped := a.rectTripped && b.rectTripped
  settingsInvalid := a.settingsInvalid && b.settingsInvalid
  railPermanent := a.railPermanent && b.railPermanent
  frameFault := a.frameFault && b.frameFault
  journalOverflow := a.journalOverflow && b.journalOverflow
  bindingFault := Six.zip and a.bindingFault b.bindingFault
  lockedOut := Six.zip and a.lockedOut b.lockedOut
  thermalAlarm := Six.zip and a.thermalAlarm b.thermalAlarm
  itemFail := ⟨Six.zip and a.itemFail.fb b.itemFail.fb, Six.zip and a.itemFail.tc b.itemFail.tc,
    a.itemFail.re && b.itemFail.re, a.itemFail.acb && b.itemFail.acb⟩
  unsensed := ⟨Six.zip and a.unsensed.fb b.unsensed.fb, Six.zip and a.unsensed.tc b.unsensed.tc,
    a.unsensed.re && b.unsensed.re, a.unsensed.acb && b.unsensed.acb⟩
  discrepant := ⟨Six.zip and a.discrepant.fb b.discrepant.fb, Six.zip and a.discrepant.tc b.discrepant.tc,
    a.discrepant.re && b.discrepant.re, a.discrepant.acb && b.discrepant.acb⟩

def AlarmFlags.any (a : AlarmFlags) : Bool := a.toList.any id

def AlarmFlags.count (a : AlarmFlags) : Nat := (a.toList.filter id).length

/-- The numbers of the alarms whose flags are set, ascending (R182). -/
def AlarmFlags.numbers (a : AlarmFlags) : List Nat :=
  (List.range 68).filter (fun n => a.toList.getD n false)

/-- R180, R181, R185: a condition goes live, or a latched-only alarm occurs. A flag that changes from clear to set
energises the ALARM contact and sets the attention flag ALARM. -/
def JournalUnit.latch (e : Env) (a : Alarm) (u : JournalUnit) : JournalUnit :=
  if u.latched.get a then u
  else JournalUnit.raise e .alarm { u with latched := u.latched.set a, contact := true }

/-- R180: the alarm latches where its condition has changed from not live to live. -/
def JournalUnit.latchIfNew (e : Env) (a : Alarm) (before now : Bool) (u : JournalUnit) : JournalUnit :=
  if !before && now then JournalUnit.latch e a u else u

/-! ### Journal (9.2) -/

/-- R175, R176, R185: appends an entry; a full journal loses its oldest entry and latches JOURNAL_OVERFLOW; an append
to an empty journal, or one that leaves 192 entries or more, sets the attention flag JOURNAL. -/
def JournalUnit.post (e : Env) (source : Source) (kind : Kind) (details : List Int) (u : JournalUnit) :
    JournalUnit :=
  let full := Config.journalCapacity ≤ u.journal.length
  let kept := if full then u.journal.drop (u.journal.length + 1 - Config.journalCapacity) else u.journal
  let journal := kept ++ [⟨u.nextIndex, e.time.stamp, source, kind, details⟩]
  let appended := { u with journal := journal, nextIndex := u.nextIndex + 1 }
  let latched := if full then JournalUnit.latch e .journalOverflow appended else appended
  if u.journal.isEmpty || decide (Config.journalHigh ≤ journal.length) then JournalUnit.raise e .journal latched
  else latched

/-! ### Conditions (R180): the live part of each alarm, kept by the block that owns it -/

/-- R18: SUPPLY_LOST. -/
def Tracker.supplyLost (t : Tracker) : Bool := !t.locked || t.supplyLow

/-- R48: a record that is INVALID, or is being programmed and presented INVALID before. -/
def StoredRecord.isInvalid {α : Type} (r : StoredRecord α) : Bool := decide (r.presents = .invalid)

/-- R48: SETTINGS_INVALID. -/
def Store.settingsInvalid (st : Store) : Bool :=
  allSets.any (fun n => (st.sets[n]).isInvalid) || st.station.isInvalid

/-- R79: ITEM_FAIL(item). -/
def Item.failLive (it : Item) : Bool := decide (it.state = .failedOpen) || decide (it.state = .failedClose)

/-- R75: UNSENSED(item). -/
def Item.unsensedLive (it : Item) : Bool := decide (it.sensed = .unsensed)

/-- R64: BINDING_FAULT(k). -/
def Binding.faultLive (b : Binding) : Bool := decide (b.fault ≠ .none)

/-- R115: LOCKED_OUT(k). -/
def Sequencer.lockedOutLive (f : Sequencer) : Bool := decide (f.state = .lockedOut)

/-- R156: RAIL_PERMANENT. -/
def RailMonitor.permanentLive (r : RailMonitor) : Bool := decide (r.state = .permanent)

/-- The live part of every alarm (R183); a latched-only alarm is never live. -/
def Plant.live (e : Env) (p : Plant) : AlarmFlags where
  supplyLost := p.tracker.supplyLost
  clockFallback := decide (e.time.source = .fallback)
  timeUnsync := e.time.unsync
  rectTripped := p.rect.trippedLive
  settingsInvalid := e.store.settingsInvalid
  railPermanent := p.rail.permanentLive
  frameFault := p.rail.frameFault
  journalOverflow := false
  bindingFault := e.store.binding.map Binding.faultLive
  lockedOut := p.feeders.map Sequencer.lockedOutLive
  thermalAlarm := p.discs.map Discriminator.alarm
  itemFail := p.items.map Item.failLive
  unsensed := p.items.map Item.unsensedLive
  discrepant := PerItem.all false

/-! ### The unit's operations, as events of the plant -/

def Plant.post (e : Env) (source : Source) (kind : Kind) (details : List Int) (p : Plant) : Plant :=
  { p with unit := JournalUnit.post e source kind details p.unit }

def Plant.raise (e : Env) (f : AttentionFlag) (p : Plant) : Plant :=
  { p with unit := JournalUnit.raise e f p.unit }

def Plant.latch (e : Env) (a : Alarm) (p : Plant) : Plant :=
  { p with unit := JournalUnit.latch e a p.unit }

def Plant.latchIfNew (e : Env) (a : Alarm) (before now : Bool) (p : Plant) : Plant :=
  { p with unit := JournalUnit.latchIfNew e a before now p.unit }

end Sys2Proof.Machine
end

