-- ==== Sys2Proof/Machine/Records.lean ====
section
/-! DEFINITION. The fault record store (08, 8.3): pre-trip rings, claims, capture and the hold. -/

namespace Sys2Proof.Machine

def Slot.record : Slot → Option FaultRecord
  | .free => none
  | .filling r | .complete r | .held r => some r

def Slot.isFree : Slot → Bool
  | .free => true
  | .filling _ | .complete _ | .held _ => false

def Slot.isComplete : Slot → Bool
  | .complete _ => true
  | .free | .filling _ | .held _ => false

/-- A HELD slot returns to COMPLETE (R169, R170). -/
def Slot.unhold : Slot → Slot
  | .held r => .complete r
  | .free => .free | .filling r => .filling r | .complete r => .complete r

/-- R167: the slot chosen for a claim: the lowest FREE slot, else the COMPLETE slot that stands first in the claim list. -/
def RecordStore.choose (r : RecordStore) : Option SlotId :=
  match allSlots.find? (fun n => (r.slots[n]).isFree) with
  | some n => some n
  | none => r.claims.find? (fun n => (r.slots[n]).isComplete)

/-- R167: the record as a claim starts it, with the feeder's pre-trip ring. -/
def RecordStore.newRecord (r : RecordStore) (k : FeederId) (snap : Snapshot) : FaultRecord where
  feeder := k
  cause := snap.cause
  stamp := snap.stamp
  snapshot := snap
  captureStart := none
  triples := r.rings.get k

/-- R167: a slot is claimed for a trip; the store answers with its number, or with none. -/
def RecordStore.claim (k : FeederId) (snap : Snapshot) (r : RecordStore) : RecordStore × Option SlotId :=
  match r.choose with
  | none => (r, none)
  | some n =>
    ({ r with
       slots := r.slots.set n (.filling (r.newRecord k snap))
       claims := r.claims.filter (· ≠ n) ++ [n] }, some n)

/-- R166: the triple of this millisecond. -/
def FrontEnd.triple (f : FrontEnd) (k : FeederId) : Triple :=
  ⟨f.mean1 (.feederCurrent k), f.mean1 .vbus, f.mean1 (.lineVoltage k)⟩

/-- R168: a FILLING record appends its feeder's triple; the first one sets the capture start; at 128 triples the
record is complete. The clock count, UNSYNC and FREE of the capture start are those of the eighth-7 instant that forms
the mean, also where its eight samples do not share them (R4; log 40, DESIGN CHOICE, unsafe). -/
def Slot.capture (e : Env) : Slot → Slot
  | .filling r =>
    let grown : FaultRecord :=
      { r with
        captureStart :=
          match r.captureStart with
          | some c => some c
          | none => some ⟨e.time.clock, e.time.unsync, decide (e.time.source = .fallback)⟩
        triples := r.triples ++ [e.front.triple r.feeder] }
    if 128 ≤ grown.triples.length then .complete grown else .filling grown
  | .free => .free | .complete r => .complete r | .held r => .held r

/-- R168: the slot becomes COMPLETE at this millisecond event. -/
def Slot.completesNow (e : Env) (s : Slot) : Bool := !s.isComplete && (s.capture e).isComplete

/-- R166: the new triple joins each ring and the oldest leaves it. -/
def RecordStore.updateRings (e : Env) (r : RecordStore) : Six (List Triple) :=
  Six.zip (fun (ring : List Triple) (k : FeederId) => ring.drop 1 ++ [e.front.triple k]) r.rings
    ⟨.f1, .f2, .f3, .f4, .f5, .f6⟩

/-- The millisecond event at the fault record store: rings (R166) and capture (R168). -/
def Plant.recordMean (e : Env) (p : Plant) : Plant :=
  let r := p.records
  let completed := allSlots.any (fun n => (r.slots[n]).completesNow e)
  let r' : RecordStore :=
    { r with
      slots := #v[(r.slots[0]).capture e, (r.slots[1]).capture e, (r.slots[2]).capture e, (r.slots[3]).capture e]
      rings := r.updateRings e }
  let p := { p with records := r' }
  if completed then p.raise e .record else p

/-- R167, as an event of the plant. -/
def Plant.claimRecord (k : FeederId) (snap : Snapshot) (p : Plant) : Plant × Option SlotId :=
  ({ p with records := (p.records.claim k snap).1 }, (p.records.claim k snap).2)

/-- R170: the hold ends; the HELD slot returns to COMPLETE and keeps its place in the claim list. -/
def RecordStore.releaseHold (r : RecordStore) : RecordStore :=
  match r.hold with
  | none => r
  | some (n, _) => { r with slots := r.slots.set n (r.slots[n]).unhold, hold := none }

/-- R169: what reading a piece does to the hold; the slot read is COMPLETE or HELD. -/
def RecordStore.readPiece (e : Env) (n : SlotId) (last : Bool) (r : RecordStore) : RecordStore :=
  let r := match r.hold with
    | some (m, _) => if m = n then r else r.releaseHold
    | none => r
  match r.slots[n] with
  | .complete x | .held x =>
    if last then { r with slots := r.slots.set n (.complete x), hold := none }
    else { r with slots := r.slots.set n (.held x), hold := some (n, e.time.after 2000) }
  | .free | .filling _ => r

/-- R171: a slot is freed and leaves the claim list; a hold on it ends. -/
def RecordStore.freeSlot (n : SlotId) (r : RecordStore) : RecordStore :=
  { r with
    slots := r.slots.set n .free
    claims := r.claims.filter (· ≠ n)
    hold := match r.hold with
      | some (m, x) => if m = n then none else some (m, x)
      | none => none }

/-- R173: pin reset and Restart. A FILLING record is discarded, a HELD one returns to COMPLETE, the rings are zeroed. -/
def RecordStore.afterReset (r : RecordStore) : RecordStore :=
  let keep : Slot → Slot := fun s =>
    match s with
    | .free => .free
    | .filling _ => .free
    | .complete x | .held x => .complete x
  { slots := #v[keep r.slots[0], keep r.slots[1], keep r.slots[2], keep r.slots[3]]
    claims := r.claims.filter (fun n => !(keep r.slots[n]).isFree)
    hold := none
    rings := Six.all (List.replicate 32 ⟨0, 0, 0⟩) }

end Sys2Proof.Machine
end

