-- ==== Sys2Proof/Machine/Energy.lean ====
section
/-! DEFINITION. The energy unit (08, 8.1 and 8.2): the counters, the kWh credit and the pulse output. -/

namespace Sys2Proof.Machine

/-- R160: the value at which an energy counter stays. -/
def energyTop : Nat := 2 ^ 64 - 1

/-- R160: a saturating addition. -/
def addEnergy (counter added : Nat) : Nat := min energyTop (counter + added)

/-- R61, R159: Icreep in use. -/
def Store.icreep (st : Store) : Nat :=
  match st.stationFields with
  | some f => f.icreep.toNat
  | none => 5

/-- R159: what a millisecond of busbar voltage and current adds to the counter of positive current. -/
def energyPlus (icreep : Nat) (v i : Int) : Nat := if (icreep : Int) ≤ i then (v * i).toNat else 0

/-- R159: what it adds to the counter of negative current. -/
def energyMinus (icreep : Nat) (v i : Int) : Nat := if i ≤ -(icreep : Int) then (v * -i).toNat else 0

/-- R159: the counter updates of a millisecond event. -/
def Energy.accumulate (icreep : Nat) (f : FrontEnd) (en : Energy) : Energy :=
  let v := f.mean1 .vbus
  let currents : Six Int :=
    ⟨f.mean1 (.feederCurrent .f1), f.mean1 (.feederCurrent .f2), f.mean1 (.feederCurrent .f3),
      f.mean1 (.feederCurrent .f4), f.mean1 (.feederCurrent .f5), f.mean1 (.feederCurrent .f6)⟩
  { en with
    plus := Six.zip (fun c i => addEnergy c (energyPlus icreep v i)) en.plus currents
    minus := Six.zip (fun c i => addEnergy c (energyMinus icreep v i)) en.minus currents
    rectPlus := addEnergy en.rectPlus (energyPlus icreep v (f.mean1 .idc))
    rectMinus := addEnergy en.rectMinus (energyMinus icreep v (f.mean1 .idc)) }

/-- 8.2: millijoules in one kilowatt-hour. -/
def mjPerKwh : Nat := 3600000000

/-- R162: the kilowatt-hours newly completed join the pending pulses. -/
def Energy.credit (en : Energy) : Energy :=
  let whole := en.rectPlus / mjPerKwh
  if en.credited < whole then
    { en with pulses := min 65535 (en.pulses + (whole - en.credited)), credited := whole }
  else en

/-- R163: a pulse starts. -/
def Energy.startPulse (t : TimeBase) (en : Energy) : Energy :=
  { en with pulses := en.pulses - 1, output := .on (t.after 20) }

/-- R163: a millisecond event that leaves pending pulses above 0 starts a pulse in IDLE. -/
def Energy.startFromIdle (t : TimeBase) (en : Energy) : Energy :=
  match en.output with
  | .idle => if 0 < en.pulses then en.startPulse t else en
  | .on _ | .gap _ => en

/-- R159, R162, R163: the millisecond event at the energy unit. -/
def Energy.millisecond (e : Env) (en : Energy) : Energy :=
  ((en.accumulate e.store.icreep e.front).credit).startFromIdle e.time

/-- R163: the expiry of the running pulse, if the output is ON. -/
def PulseOutput.onExpiry : PulseOutput → Option Nat
  | .on x => some x
  | .idle | .gap _ => none

/-- R163: the expiry of the gap, if the output is in GAP. -/
def PulseOutput.gapExpiry : PulseOutput → Option Nat
  | .gap x => some x
  | .idle | .on _ => none

/-- R163: the expiry in ON. -/
def Energy.pulseEnds (t : TimeBase) (en : Energy) : Energy := { en with output := .gap (t.after 20) }

/-- R163: the expiry in GAP. -/
def Energy.gapEnds (t : TimeBase) (en : Energy) : Energy :=
  if 0 < en.pulses then en.startPulse t else { en with output := .idle }

/-- R164 step 1: the clear. The pulse output goes on as it is. -/
def Energy.clear (en : Energy) : Energy :=
  { en with
    plus := Six.all 0, minus := Six.all 0, rectPlus := 0, rectMinus := 0, credited := 0, pulses := 0 }

/-- R165: pin reset and Restart. -/
def Energy.afterReset (en : Energy) : Energy := { en with output := .idle }

/-- ENERGY_PULSE_ON_EXPIRY (R163): the ON time expires. -/
def execEnergyPulseOnExpiry (s : State) : Host.Outcome State Fault Refusal :=
  .next (s.atExpiry s.energy.output.onExpiry (fun s => { s with energy := s.energy.pulseEnds s.time }))

/-- ENERGY_PULSE_GAP_EXPIRY (R163): the GAP expires. -/
def execEnergyPulseGapExpiry (s : State) : Host.Outcome State Fault Refusal :=
  .next (s.atExpiry s.energy.output.gapExpiry (fun s => { s with energy := s.energy.gapEnds s.time }))

end Sys2Proof.Machine
end

