-- ==== Sys2Proof/Machine/Operands.lean ====
section
/-! DEFINITION. Operand forms: the byte layouts of fields, frames, field blocks and journal entries (R193, R195, R204,
R213), the request kinds with the lengths they accept (11.1), the range checks and the check-word rule of the stored
records (3.2, 3.5, R51), and the channels' ranges and clamping (R2). -/

namespace Sys2Proof.Machine

/-! ### Bytes (R204: low byte first, two's complement) -/

/-- The `width` low bytes of an integer, low byte first. -/
def leBytes : (width : Nat) → Int → List Byte
  | 0, _ => []
  | n + 1, x => BitVec.ofInt 8 x :: leBytes n (x / 256)

/-- The unsigned value of bytes sent low byte first. -/
def leValue : List Byte → Nat
  | [] => 0
  | b :: l => b.toNat + 256 * leValue l

/-- The value of flags packed one per bit, the first in the lowest bit. -/
def flagsValue : List Bool → Nat
  | [] => 0
  | b :: l => (if b then 1 else 0) + 2 * flagsValue l

/-- R204: flags packed into the fewest whole bytes. -/
def packFlags (l : List Bool) : List Byte := leBytes ((l.length + 7) / 8) (flagsValue l)

/-- R204: a field reported as "none" is sent with all bits set, a present one as its value. -/
def noneOr (width : Nat) : Option Nat → List Byte
  | none => List.replicate width 0xFF
  | some x => leBytes width x

/-- R204: a field that may be absent and whose range has no pattern to spare: a presence flag, then the value or 0. -/
def presentOr (width : Nat) : Option Int → List Byte
  | none => 0 :: leBytes width 0
  | some x => 1 :: leBytes width x

/-- One flag in one byte. -/
def flagByte (b : Bool) : List Byte := packFlags [b]

/-! ### Frames (R193, R195) -/

/-- R195: one shift of the cyclic redundancy check. -/
def crcShift (v : BitVec 16) : BitVec 16 := if v.getLsbD 0 then (v >>> 1) ^^^ 0x8408#16 else v >>> 1

/-- R195: one byte. -/
def crcByte (v : BitVec 16) (b : Byte) : BitVec 16 :=
  crcShift (crcShift (crcShift (crcShift (crcShift (crcShift (crcShift (crcShift (v ^^^ b.zeroExtend 16))))))))

/-- R195: the check of the length byte and the body. -/
def crc (l : List Byte) : BitVec 16 := l.foldl crcByte 0

/-- R193: the length byte, kind, tag and payload. -/
def LinkFrame.checked (f : LinkFrame) : List Byte :=
  BitVec.ofNat 8 (f.payload.length + 2) :: f.kind :: f.tag :: f.payload

/-- R193: a frame as it stands on the line. -/
def LinkFrame.bytes (f : LinkFrame) : List Byte := 0xA5 :: f.checked ++ leBytes 2 (crc f.checked).toNat

/-! ### Request kinds and the payload lengths they accept (11.1, R204) -/

/-- The 38 requests of the catalogue. -/
inductive RequestKind
  | identify | echo | readStatus | readAttention | noticeMask | setTime | restart | readMeasurements | readEnergy
  | clearEnergy | writeSet | readSet | eraseSet | writeMapEntry | readMap | writeStationRecord | readStationRecord
  | setFeedState | readFeeder | feederClose | feederOpen | resetLockout | clearFeederCounters | readItems
  | rectifierStart | rectifierStop | setVoltageReference | readRectifier | readRail | releaseEarthing
  | clearFrameFault | fetchJournal | releaseJournal | readAlarms | acknowledgeAlarms | listRecords
  | readRecordPiece | freeRecord
deriving DecidableEq, Repr

/-- The kind bytes of 11.1. -/
def RequestKind.code : RequestKind → Byte
  | .identify => 0x01 | .echo => 0x02 | .readStatus => 0x03 | .readAttention => 0x04 | .noticeMask => 0x05
  | .setTime => 0x06 | .restart => 0x07 | .readMeasurements => 0x08 | .readEnergy => 0x09 | .clearEnergy => 0x0A
  | .writeSet => 0x10 | .readSet => 0x11 | .eraseSet => 0x12 | .writeMapEntry => 0x13 | .readMap => 0x14
  | .writeStationRecord => 0x15 | .readStationRecord => 0x16 | .setFeedState => 0x17 | .readFeeder => 0x18
  | .feederClose => 0x19 | .feederOpen => 0x1A | .resetLockout => 0x1B | .clearFeederCounters => 0x1C
  | .readItems => 0x20 | .rectifierStart => 0x21 | .rectifierStop => 0x22 | .setVoltageReference => 0x23
  | .readRectifier => 0x24 | .readRail => 0x28 | .releaseEarthing => 0x29 | .clearFrameFault => 0x2A
  | .fetchJournal => 0x30 | .releaseJournal => 0x31 | .readAlarms => 0x32 | .acknowledgeAlarms => 0x33
  | .listRecords => 0x38 | .readRecordPiece => 0x39 | .freeRecord => 0x3A

def RequestKind.all : List RequestKind :=
  [.identify, .echo, .readStatus, .readAttention, .noticeMask, .setTime, .restart, .readMeasurements, .readEnergy,
    .clearEnergy, .writeSet, .readSet, .eraseSet, .writeMapEntry, .readMap, .writeStationRecord,
    .readStationRecord, .setFeedState, .readFeeder, .feederClose, .feederOpen, .resetLockout,
    .clearFeederCounters, .readItems, .rectifierStart, .rectifierStop, .setVoltageReference, .readRectifier,
    .readRail, .releaseEarthing, .clearFrameFault, .fetchJournal, .releaseJournal, .readAlarms,
    .acknowledgeAlarms, .listRecords, .readRecordPiece, .freeRecord]

/-- R198 step 1: the request kind of a kind byte, if it is one of the catalogue. -/
def RequestKind.ofByte (b : Byte) : Option RequestKind := RequestKind.all.find? (fun r => decide (r.code = b))

/-- R204: whether the kind accepts a payload of this length. -/
def RequestKind.accepts (r : RequestKind) (n : Nat) : Bool :=
  match r with
  | .echo => decide (n ≤ 237)
  | .identify | .readStatus | .readAttention | .restart | .readMeasurements | .readEnergy | .clearEnergy | .readMap
  | .readStationRecord | .readItems | .rectifierStart | .rectifierStop | .readRectifier | .readRail
  | .releaseEarthing | .clearFrameFault | .readAlarms | .acknowledgeAlarms | .listRecords => decide (n = 0)
  | .readSet | .eraseSet | .readFeeder | .feederClose | .feederOpen | .resetLockout | .clearFeederCounters
  | .fetchJournal | .freeRecord => decide (n = 1)
  | .noticeMask | .setFeedState | .setVoltageReference | .releaseJournal | .readRecordPiece => decide (n = 2)
  | .writeMapEntry => decide (n = 3)
  | .setTime => decide (n = 6)
  | .writeSet => decide (n = 45)
  | .writeStationRecord => decide (n = 56)

/-- R199: the kind of the reply to a request of this kind. -/
def replyKind (kind : Byte) : Byte := if kind.toNat < 0x7F then kind + 0x80 else 0xFE

/-- R199: the status codes. -/
inductive Status
  | ok | unknownKind | badLength | badValue | notPermitted | wrongState | inUse | notFound | notReady | storeFail
deriving DecidableEq, Repr

def Status.code : Status → Byte
  | .ok => 0 | .unknownKind => 1 | .badLength => 2 | .badValue => 3 | .notPermitted => 4 | .wrongState => 5
  | .inUse => 6 | .notFound => 7 | .notReady => 8 | .storeFail => 9

end Sys2Proof.Machine

namespace Sys2Proof

open Machine (leBytes)

/-! ### Field blocks and range checks (3.2, 3.5, R50, R51, R59, R213) -/

/-- The fields in position order. -/
def SetFields.toList (f : SetFields) : List Word16 :=
  [f.imax, f.nmax, f.drise, f.dfall, f.nstart, f.nend, f.deltaI, f.tmin, f.tmax, f.ith, f.ialarm, f.ireclose,
    f.tshift, f.tcb, f.rt, f.rmin, f.ts, f.vlive, f.vtest, f.attempts, f.tdead, f.check]

def StationFields.toList (f : StationFields) : List Word16 :=
  [f.offset, f.alphaMin, f.alphaMax, f.alphaRetard, f.ki, f.kc, f.vref, f.rdroop, f.vblock, f.vhys, f.ilimit,
    f.irectTrip, f.burst, f.vacMin, f.u1, f.t1, f.u2, f.u3, f.th, f.nrep, f.w, f.ireopen, f.iframe, f.tf,
    f.topenLim, f.tcloseLim, f.icreep, f.check]

/-- The fields given by position, 1 for the first. -/
def SetFields.ofPositions (g : Nat → Word16) : SetFields :=
  ⟨g 1, g 2, g 3, g 4, g 5, g 6, g 7, g 8, g 9, g 10, g 11, g 12, g 13, g 14, g 15, g 16, g 17, g 18, g 19, g 20,
    g 21, g 22⟩

def StationFields.ofPositions (g : Nat → Word16) : StationFields :=
  ⟨g 1, g 2, g 3, g 4, g 5, g 6, g 7, g 8, g 9, g 10, g 11, g 12, g 13, g 14, g 15, g 16, g 17, g 18, g 19, g 20,
    g 21, g 22, g 23, g 24, g 25, g 26, g 27, g 28⟩

/-- R213: the field at a position of a block, two bytes at offset 2(n − 1), low byte first. -/
def blockField (l : List Byte) (position : Nat) : Word16 :=
  BitVec.ofNat 16 ((l.getD (2 * position - 2) 0).toNat + 256 * (l.getD (2 * position - 1) 0).toNat)

/-- R213: a field block. -/
def blockBytes (l : List Word16) : List Byte := (l.map (fun w => leBytes 2 w.toNat)).flatten

def SetFields.block (f : SetFields) : List Byte := blockBytes f.toList
def StationFields.block (f : StationFields) : List Byte := blockBytes f.toList
def SetFields.ofBlock (l : List Byte) : SetFields := .ofPositions (blockField l)
def StationFields.ofBlock (l : List Byte) : StationFields := .ofPositions (blockField l)

/-- R51: the sum of every field, the check word with them, modulo 65536, equals 65535. -/
def checkWordRule (l : List Word16) : Bool := decide ((l.map BitVec.toNat).sum % 65536 = 65535)

/-- A field's position, value and range. -/
structure RangeCheck where
  position : Nat
  value : Word16
  lo : Nat
  hi : Nat
deriving DecidableEq, Repr

def RangeCheck.fails (r : RangeCheck) : Bool := decide (r.value.toNat < r.lo) || decide (r.hi < r.value.toNat)

/-- 3.2: fields 1 to 21 of a setting set with their ranges. -/
def SetFields.ranges (f : SetFields) : List RangeCheck :=
  [⟨1, f.imax, 100, 32000⟩, ⟨2, f.nmax, 1, 16⟩, ⟨3, f.drise, 1, 4000⟩, ⟨4, f.dfall, 1, f.drise.toNat⟩,
    ⟨5, f.nstart, 1, 16⟩, ⟨6, f.nend, 1, 64⟩, ⟨7, f.deltaI, 50, 32000⟩, ⟨8, f.tmin, 0, 799⟩,
    ⟨9, f.tmax, f.tmin.toNat + 1, 8000⟩, ⟨10, f.ith, 100, 32000⟩, ⟨11, f.ialarm, 100, f.ith.toNat⟩,
    ⟨12, f.ireclose, 0, f.ialarm.toNat⟩, ⟨13, f.tshift, 8, 16⟩, ⟨14, f.tcb, 0, 2000⟩, ⟨15, f.rt, 50, 2000⟩,
    ⟨16, f.rmin, 1, 5000⟩, ⟨17, f.ts, 100, 2000⟩, ⟨18, f.vlive, 100, 2000⟩, ⟨19, f.vtest, 200, 1000⟩,
    ⟨20, f.attempts, 0, 3⟩, ⟨21, f.tdead, 500, 60000⟩]

/-- 3.5: fields 1 to 27 of the station record with their ranges. -/
def StationFields.ranges (f : StationFields) : List RangeCheck :=
  [⟨1, f.offset, 0, 3599⟩, ⟨2, f.alphaMin, 50, 300⟩, ⟨3, f.alphaMax, max 600 (f.alphaMin.toNat + 1), 1500⟩,
    ⟨4, f.alphaRetard, f.alphaMin.toNat, f.alphaMax.toNat⟩, ⟨5, f.ki, 0, 255⟩, ⟨6, f.kc, 0, 255⟩,
    ⟨7, f.vref, 600, 900⟩, ⟨8, f.rdroop, 0, 200⟩, ⟨9, f.vblock, 800, 1100⟩, ⟨10, f.vhys, 10, 200⟩,
    ⟨11, f.ilimit, 100, 32000⟩, ⟨12, f.irectTrip, f.ilimit.toNat, 32000⟩, ⟨13, f.burst, 100, 1200⟩,
    ⟨14, f.vacMin, 50, 1000⟩, ⟨15, f.u1, 50, 300⟩, ⟨16, f.t1, 100, 10000⟩,
    ⟨17, f.u2, max 100 (f.u1.toNat + 1), 600⟩, ⟨18, f.u3, max 200 (f.u2.toNat + 1), 1000⟩, ⟨19, f.th, 1, 600⟩,
    ⟨20, f.nrep, 2, 8⟩, ⟨21, f.w, 1, 60⟩, ⟨22, f.ireopen, 10, 2000⟩, ⟨23, f.iframe, 100, 8000⟩,
    ⟨24, f.tf, 10, 200⟩, ⟨25, f.topenLim, 10, 200⟩, ⟨26, f.tcloseLim, 50, 1000⟩, ⟨27, f.icreep, 1, 100⟩]

/-- R50 steps 3 and 4: the position of the first failing field of a setting set. -/
def SetFields.firstFailing (f : SetFields) : Option Nat :=
  match f.ranges.find? RangeCheck.fails with
  | some r => some r.position
  | none => if checkWordRule f.toList then none else some 22

/-- R59: the same for the station record. -/
def StationFields.firstFailing (f : StationFields) : Option Nat :=
  match f.ranges.find? RangeCheck.fails with
  | some r => some r.position
  | none => if checkWordRule f.toList then none else some 28

end Sys2Proof

namespace Sys2Proof.Machine

/-- The set a number byte names (R50 step 2). -/
def setOfByte (b : Byte) : Option SetId := if h : b.toNat < 16 then some ⟨b.toNat, h⟩ else none

/-- The slot a byte names (R169, R171). -/
def slotOfByte (b : Byte) : Option SlotId := if h : b.toNat < 4 then some ⟨b.toNat, h⟩ else none

/-- The value of a Write Map Entry (R62 step 4, R209): a set, or NONE carried as 255. -/
def mapValueOfByte (b : Byte) : Option (Option SetId) :=
  if b = 0xFF then some none else (setOfByte b).map some

/-- 3.1: a map value as it is carried, NONE as 255. -/
def mapValueCode : Option SetId → Nat
  | none => 255
  | some n => n.val

/-- 3.1: a binding's set as it is carried, BACKSTOP as 16. -/
def bindingCode : Option SetId → Nat
  | none => 16
  | some n => n.val

/-- 3.1: the number of a map entry. -/
def entryNumber (k : FeederId) (f : FeedState) : Nat := 4 * (k.number - 1) + f.code

/-! ### Journal entries (R213) -/

/-- R213: the byte of an entry with eighth, number of details, UNSYNC and FREE. -/
def Stamp.flagsByte (s : Stamp) (details : Nat) : Byte :=
  BitVec.ofNat 8
    (s.eighth.toNat + 8 * details + (if s.unsync then 64 else 0) + (if s.free then 128 else 0))

/-- R213: the 29 bytes of a journal entry. -/
def Entry.bytes (x : Entry) : List Byte :=
  leBytes 2 x.index.toNat ++ leBytes 6 x.stamp.ms.toNat ++ [x.stamp.flagsByte x.details.length,
    BitVec.ofNat 8 x.source.code, BitVec.ofNat 8 x.kind.code]
    ++ leBytes 6 (x.details.getD 0 0) ++ leBytes 6 (x.details.getD 1 0) ++ leBytes 6 (x.details.getD 2 0)

end Sys2Proof.Machine

namespace Sys2Proof

/-! ### Channels (1.1, R2) -/

/-- The lower limit of a channel's range. -/
def Channel.lower : Channel → Int
  | .vab | .vbc | .vca | .vre => -1000
  | .vbus | .lineVoltage _ => 0
  | .idc | .feederCurrent _ => -32000
  | .ire => -8000

/-- The upper limit of a channel's range. -/
def Channel.upper : Channel → Int
  | .vab | .vbc | .vca | .vre => 1000
  | .vbus | .lineVoltage _ => 2000
  | .idc | .feederCurrent _ => 32000
  | .ire => 8000

/-- R2: what the front end presents for a converted value, with the saturation flag of the sample. -/
def Channel.present (c : Channel) : Conversion → Int × Bool
  | .scaled num den =>
    let v := floorDiv num den
    if c.upper < v then (c.upper, true)
    else if v < c.lower then (c.lower, decide (c.lower < 0))
    else (v, false)
  | .spanLow => (c.lower, decide (c.lower < 0))
  | .spanHigh => (c.upper, true)

/-- The channels in the order of 11.3. -/
def Channel.all : PerChannel Channel where
  vab := .vab
  vbc := .vbc
  vca := .vca
  vbus := .vbus
  idc := .idc
  feederCurrent :=
    ⟨.feederCurrent .f1, .feederCurrent .f2, .feederCurrent .f3, .feederCurrent .f4, .feederCurrent .f5,
      .feederCurrent .f6⟩
  lineVoltage :=
    ⟨.lineVoltage .f1, .lineVoltage .f2, .lineVoltage .f3, .lineVoltage .f4, .lineVoltage .f5, .lineVoltage .f6⟩
  vre := .vre
  ire := .ire

/-- In the order of 11.3: VAB, VBC, VCA, VBUS, IDC, IF1..IF6, VL1..VL6, VRE, IRE. -/
def channelList {α : Type} (v : PerChannel α) : List α :=
  [v.vab, v.vbc, v.vca, v.vbus, v.idc] ++ v.feederCurrent.toList ++ v.lineVoltage.toList ++ [v.vre, v.ire]

end Sys2Proof
end

