-- ==== Sys2Proof/Machine/Link.lean ====
section
/-! DEFINITION. The link controller's line, queue, execution and transmission (10, 10.1, 10.3 and 10.4). The meanings of
the requests stand in StationRequests, SettingsRequests, PlantRequests and JournalRequests; Execution.lean picks among
them for a received frame. -/

namespace Sys2Proof.Machine

/-! ### The line (R191, R192) -/

/-- R191: the bit rate of both directions for a rate code, in bit/s. -/
def bitRate (code : BitVec 2) : Nat :=
  match code.toNat with
  | 0 => 19200
  | 1 => 38400
  | 2 => 57600
  | _ => 115200

/-- R191: the nominal bit time and character time in nanoseconds, rounded down. -/
def bitTimeNs (code : BitVec 2) : Nat := 1000000000 / bitRate code
def characterTimeNs (code : BitVec 2) : Nat := 10 * 1000000000 / bitRate code

/-- R191: the ten bit times of a character on the line, first to last: a start bit at space, eight data bits with the
least significant first, a stop bit at mark, and no parity bit. -/
def characterLevels (b : Byte) : List LineLevel :=
  .space :: ((List.range 8).map (fun i => LineLevel.ofBit (b.getLsbD i)) ++ [.mark])

/-- R192: the byte whose data bits the receiver has sampled, least significant first. -/
def sampledByte (data : List LineLevel) : Byte := BitVec.ofNat 8 (data.foldr (fun l n => 2 * n + l.bit.toNat) 0)

/-- R192: what the ten levels sampled from a start bit on give: a byte with its stop bit at mark, or a character with its
stop bit at space, which is a framing error once the line is back at mark (a line that stays at space for 20 bit times
is a break, R196). Any other levels are no character: the receiver takes one at a start bit only. -/
def sampledCharacter (levels : List LineLevel) : Option LineCharacter :=
  match levels with
  | [.space, a, b, c, d, e, f, g, h, stop] =>
    some (match stop with
      | .mark => .byte (sampledByte [a, b, c, d, e, f, g, h])
      | .space => .framingError)
  | _ => none

/-- R191, R203: the level of the transmit line, `bits` bit times after the frame on it has begun: the characters of the
frame stand back to back, and after them, and while the transmitter is IDLE, the line is at mark. -/
def Transmitter.lineLevel (t : Transmitter) (bits : Nat) : LineLevel :=
  match t with
  | .idle => .mark
  | .sendingReply bytes | .sendingNotice bytes => ((bytes.map characterLevels).flatten).getD bits .mark

/-! ### Replies (R198, R199) -/

/-- What serving a request gives: the state, and the payload of the reply; none while a store write is programmed. -/
abbrev Served := State × Option (List Byte)

/-- R199: a reply with status OK and its fields. -/
def okReply (fields : List Byte) : List Byte := Status.ok.code :: fields

/-- R204: a refusal carries the status alone. -/
def refusal (st : Status) : List Byte := [st.code]

/-- R199, R204: a BAD_VALUE that names the position of the failing field. -/
def badPosition (position : Nat) : List Byte := Status.badValue.code :: leBytes 1 position

/-- A request that changes nothing and is answered at once. -/
def answered (payload : List Byte) (s : State) : Served := (s, some payload)

/-- R198, R199: the reply is formed and placed in the reply slot; the request is no longer under execution. -/
def Link.reply (payload : List Byte) (l : Link) : Link :=
  match l.executing with
  | none => l
  | some x => { l with slot := some ⟨replyKind x.kind, x.tag, payload⟩, executing := none }

def State.reply (payload : List Byte) (s : State) : State := { s with link := s.link.reply payload }

/-! ### Execution (R197, R198) -/

/-- R198, R207: no request is under execution, the reply slot is empty and no Restart has been taken. -/
def Link.free (l : Link) : Bool := l.executing.isNone && l.slot.isNone && decide (l.restart = .none)

/-- REMOTE and ENG_KEY stand at the levels that a command brings (log 7). -/
def State.setPins (pins : Pins) (s : State) : State :=
  { s with panel := { s.panel with remote := pins.remote, engKey := pins.engKey } }

/-- The levels at which REMOTE and ENG_KEY stand. -/
def Panel.pins (p : Panel) : Pins := ⟨p.remote, p.engKey⟩

/-- R85, R198: REMOTE and ENG_KEY are read, and the request is under execution. -/
def State.begin (pins : Pins) (kind tag : Byte) (s : State) : State :=
  { s with
    panel := { s.panel with remote := pins.remote, engKey := pins.engKey }
    link := { s.link with executing := some ⟨kind, tag⟩ } }

/-- The reply of a served request, if it is answered now. -/
def State.finish (r : Served) : State :=
  match r.2 with
  | some payload => r.1.reply payload
  | none => r.1

/-- R198: a request is executed. -/
def State.execute (pins : Pins) (kind tag : Byte) (serve : State → Served) (s : State) : State :=
  State.finish (serve (s.begin pins kind tag))

/-- R197: a complete frame that cannot be executed at once joins the queue, or is lost as overflow. -/
def Link.enqueue (f : LinkFrame) (l : Link) : Link :=
  if l.queue.length < 2 then { l with queue := l.queue ++ [f] }
  else { l with counters := { l.counters with overflow := saturatingSucc 65535 l.counters.overflow } }

/-- R197: whether a complete frame is taken for execution at once. -/
def Link.takesAtOnce (l : Link) : Bool := l.free && l.queue.isEmpty

/-- R197: a complete frame is offered; `serve` is the meaning of the request that it carries. -/
def State.offer (pins : Pins) (f : LinkFrame) (serve : State → Served) (s : State) : State :=
  if s.link.takesAtOnce then s.execute pins f.kind f.tag serve
  else { s with link := s.link.enqueue f }

/-- A request command (log 8): the completion of a frame that carries this request. -/
def State.request (head : RequestHead) (kind : RequestKind) (payload : List Byte) (serve : State → Served)
    (s : State) : State :=
  s.offer head.pins ⟨kind.code, head.tag, payload⟩ serve

/-! ### Permissions (R85, R204) -/

/-- A request that needs REMOTE. -/
def needsRemote (serve : State → Served) (s : State) : Served :=
  if s.panel.remote then serve s else answered (refusal .notPermitted) s

/-- A request that needs ENG_KEY. -/
def needsKey (serve : State → Served) (s : State) : Served :=
  if s.panel.engKey then serve s else answered (refusal .notPermitted) s

/-- A request that names a feeder: outside 1..6 it is refused with BAD_VALUE. -/
def withFeeder (b : Byte) (serve : FeederId → State → Served) (s : State) : Served :=
  match FeederId.ofNumber b.toNat with
  | some k => serve k s
  | none => answered (refusal .badValue) s

/-! ### Transmission (R201, R205, R207) -/

/-- R205: the frame of a notice. -/
def Notice.frame (n : Notice) : LinkFrame :=
  ⟨0xFF, 0, packFlags n.pending.toList ++ packFlags n.attention.toList ++ leBytes 2 n.entries
    ++ leBytes 2 n.newest.toNat⟩

/-- R201, R207: the reply in the slot leaves it for the line; the reply of a Restart is known by the mark. -/
def Link.beginReply (f : LinkFrame) (l : Link) : Link :=
  { l with
    slot := none
    transmitter := .sendingReply f.bytes
    restart := match l.restart with
      | .taken => .replySending
      | .none => .none | .replySending => .replySending | .replySent => .replySent }

/-- R188, R201: the waiting notice leaves for the line, and the next may be formed. -/
def State.beginNotice (n : Notice) (s : State) : State :=
  State.onPlant { s with link := { s.link with transmitter := .sendingNotice n.frame.bytes } }
    (fun e p => { p with unit := JournalUnit.tryNotice e { p.unit with notice := none } })

/-- R201, R207: the last stop bit of a frame has been sent. -/
def Link.transmitEnd (l : Link) : Link :=
  { l with
    transmitter := .idle
    restart := match l.restart with
      | .replySending => .replySent
      | .none => .none | .taken => .taken | .replySent => .replySent }

end Sys2Proof.Machine
end

