-- ==== Sys2Proof/Machine/Switchgear.lean ====
section
/-! DEFINITION. The switchgear supervisor's commands (04, 4.1 and 4.3): the actions on the coils, the open and the
close command. Its own events (probes, pulse ends, limits) stand in Supervisor.lean, after the blocks that hear of them. -/

namespace Sys2Proof.Machine

/-- TC1..TC6 have one maintained coil, the other items two pulsed coils (4.1). -/
def ItemId.maintained : ItemId → Bool
  | .tc _ => true
  | .fb _ | .re | .acb => false

/-- Topen_lim in use (R61, R76). -/
def Env.openLimit (e : Env) : Nat :=
  match e.store.stationFields with
  | some r => r.topenLim.toNat
  | none => 60

/-- Tclose_lim in use (R61, R77). -/
def Env.closeLimit (e : Env) : Nat :=
  match e.store.stationFields with
  | some r => r.tcloseLim.toNat
  | none => 400

/-- The table of 4.1: who may command an item, and in which direction. -/
def Commander.mayCommand (c : Commander) (d : Direction) : ItemId → Bool
  | .fb k | .tc k => decide (c = .sequencer k)
  | .re => decide (c = .railMonitor)
  | .acb => decide (c = .rectifier) || (decide (c = .breakerFailure) && decide (d = .opening))

/-- R71, R76: an open operation starts with its action: the trip or open pulse of 40 ms, a running close pulse cut
first, or the maintained coil de-energised. -/
def Item.startOpening (e : Env) (i : ItemId) (waiting : List Commander) (it : Item) : Item :=
  { it with
    state := .opening
    openCoil := if ItemId.maintained i then none else some (e.time.after 40)
    closeCoil := none
    held := false
    operation := some ⟨.opening, e.time.tick, e.time.after e.openLimit, waiting, false⟩ }

/-- R71, R77: a close operation starts with its action: the close pulse of 200 ms, or the maintained coil energised. -/
def Item.startClosing (e : Env) (i : ItemId) (waiting : List Commander) (it : Item) : Item :=
  { it with
    state := .closing
    openCoil := none
    closeCoil := if ItemId.maintained i then none else some (e.time.after 200)
    held := ItemId.maintained i
    operation := some ⟨.closing, e.time.tick, e.time.after e.closeLimit, waiting, false⟩ }

/-- R76: a further open command joins the opening under way. -/
def Operation.join (c : Commander) (op : Operation) : Operation :=
  if op.waiting.contains c then op else { op with waiting := op.waiting ++ [c] }

/-- R76: the open command, taken in every item state. In OPENING it joins; in CLOSING it is trip-free: the close ends
with SUPERSEDED, which every commander passes over (R102, R108, R127, R147), and a new opening starts. -/
def Item.openCommand (e : Env) (c : Commander) (i : ItemId) (it : Item) : Item :=
  match it.state, it.operation with
  | .opening, some op => { it with operation := some (op.join c) }
  | _, _ => it.startOpening e i [c]

/-- R77: whether a close command starts an operation in this state. -/
def Item.mayStartClosing (it : Item) : Bool :=
  decide (it.state = .opened) || (decide (it.state = .failedClose) && decide (it.sensed = .opened))

/-- R76. A command from a block that the table of 4.1 does not list is refused (R77). -/
def Plant.openCommand (e : Env) (c : Commander) (i : ItemId) (p : Plant) : Plant :=
  if c.mayCommand .opening i then p.setItem i ((p.item i).openCommand e c i) else p

/-- R77: the close command. No outcome means that an operation has started, whose outcome comes later. -/
def Plant.closeCommand (e : Env) (c : Commander) (i : ItemId) (p : Plant) : Plant × Option CommandOutcome :=
  if c.mayCommand .closing i then
    if (p.item i).mayStartClosing then (p.setItem i ((p.item i).startClosing e i [c]), none)
    else if (p.item i).state = .closed then (p, some .completed)
    else (p, some .wrongState)
  else (p, some .wrongState)

end Sys2Proof.Machine
end

