-- ==== Sys2Proof/Machine/Rectifier.lean ====
section
/-! DEFINITION. The rectifier controller and the gate burst formatter (06). -/

namespace Sys2Proof.Machine

/-- 6.1: the firing states. -/
def RectState.firing : RectState → Bool
  | .softStart | .regulating | .currentLimit | .retard => true
  | .stopped | .syncing | .blocked | .tripped => false

/-- The states in which R124, R125 and R126 act: SYNCING, the firing states and BLOCKED. -/
def RectState.running : RectState → Bool
  | .syncing | .softStart | .regulating | .currentLimit | .retard | .blocked => true
  | .stopped | .tripped => false

/-- R140: every burst is cut. -/
def Rectifier.cutBursts (r : Rectifier) : Rectifier := { r with bursts := Vector.replicate 12 none }

/-! ### Stopping and tripping (6.2, 6.3) -/

/-- The controller's part of the stopping actions of R122 and of the entry (steps 1, 3 and 4). -/
def Rectifier.stopWith (state : RectState) (cause : StopCause) (r : Rectifier) : Rectifier :=
  { r.cutBursts with
    state := state, schedule := none, overcurrent := 0, overvoltage := 0, stopCause := cause }

/-- The ACB is commanded open if its item state is other than OPEN (R122 step 2, R123). -/
def Plant.openIncomer (e : Env) (p : Plant) : Plant :=
  if (p.item .acb).state = .opened then p else p.openCommand e .rectifier .acb

/-- R122, R141: an entry into STOPPED, with its journal entry and flag. -/
def Plant.rectStop (e : Env) (cause : StopCause) (p : Plant) : Plant :=
  let old := p.rect.state
  let p := { p with rect := p.rect.stopWith .stopped cause }
  let p := p.openIncomer e
  let p := p.post e .rectifier .rectState [old.code, RectState.stopped.code, cause.code]
  if cause = .acbFail ∨ cause = .settings then p.raise e .rectifier else p

/-- R126, R122, R141: an entry into TRIPPED. A breaker-failure notice to a TRIPPED rectifier changes nothing. -/
def Plant.rectTrip (e : Env) (cause : StopCause) (value : Int) (p : Plant) : Plant :=
  if p.rect.state = .tripped then p
  else
    let old := p.rect.state
    let p := { p with rect := { p.rect.stopWith .tripped cause with trippedLive := true } }
    let p := p.openIncomer e
    let p := p.latch e .rectTripped
    let p := p.post e .rectifier .rectTrip [cause.code, value, old.code]
    p.raise e .rectifier

/-- R137, R141: an entry into BLOCKED. -/
def Plant.rectBlock (e : Env) (cause : BlockCause) (p : Plant) : Plant :=
  let old := p.rect.state
  let p :=
    { p with rect :=
        { p.rect.cutBursts with state := .blocked, schedule := none, overvoltage := 0, blockCause := cause } }
  let p := p.post e .rectifier .rectState [old.code, RectState.blocked.code, cause.code]
  p.raise e .rectifier

/-! ### Samples and means (R125, R137) -/

/-- R125: an IDC sample. -/
def Plant.rectCurrentSample (e : Env) (p : Plant) : Plant :=
  match e.store.stationFields with
  | none => p
  | some f =>
    if p.rect.state.running then
      let idc := e.front.latest.idc
      if (f.irectTrip.toNat : Int) ≤ idc then
        let p := { p with rect := { p.rect with overcurrent := p.rect.overcurrent + 1 } }
        if 4 ≤ p.rect.overcurrent then p.rectTrip e .overcurrent idc else p
      else { p with rect := { p.rect with overcurrent := 0 } }
    else p

/-- R137: a VBUS sample. -/
def Plant.rectVoltageSample (e : Env) (p : Plant) : Plant :=
  match e.store.stationFields with
  | none => p
  | some f =>
    if p.rect.state.firing then
      if (f.vblock.toNat : Int) + 100 < e.front.latest.vbus then
        let p := { p with rect := { p.rect with overvoltage := p.rect.overvoltage + 1 } }
        if 4 ≤ p.rect.overvoltage then p.rectBlock e .fastOvervoltage else p
      else { p with rect := { p.rect with overvoltage := 0 } }
    else p

/-- R137: a millisecond event, with the 20 ms mean of VBUS. -/
def Plant.rectMean (e : Env) (p : Plant) : Plant :=
  match e.store.stationFields with
  | none => p
  | some f =>
    if p.rect.state.firing ∧ (f.vblock.toNat : Int) < e.front.mean20 .vbus then p.rectBlock e .meanOvervoltage
    else p

/-- R137: the tracker's lock state changes to UNLOCKED. -/
def Plant.rectLockLost (e : Env) (p : Plant) : Plant :=
  if p.rect.state.firing then p.rectBlock e .unlocked else p

/-! ### The schedule (6.4) -/

/-- R139: a pulse fires: a burst of the schedule's length starts on its gate; a burst still running there ends. -/
def Rectifier.startBurst (gate : GateId) (start length : Nat) (r : Rectifier) : Rectifier :=
  { r with bursts := r.bursts.set gate (some ⟨start, start + length⟩) }

/-- R129: the position of the pulse of a gate. -/
def pulsePosition (offset angle : Nat) (gate : GateId) : Nat :=
  if gate.val < 6 then (offset + angle + 600 * gate.val) % 3600
  else (offset + angle + 600 * (gate.val - 6) + 300) % 3600

/-- R129: the instant of a position. -/
def pulseMoment (crossing period position : Nat) : Nat := crossing + period * position / 3600

/-- R129: one pulse of a schedule, PENDING. -/
def newPulse (crossing period offset angle : Nat) (gate : GateId) : Pulse where
  gate := gate
  angle := angle
  position := pulsePosition offset angle gate
  moment := pulseMoment crossing period (pulsePosition offset angle gate)
  status := .pending

/-- R128 step 5, R129: the schedule of the period that a crossing begins. R129 and 6.1 give the list of its twelve
entries no order; they stand by gate number, S0 to S5 and then D0 to D5 (log 57, DESIGN CHOICE, unsafe for the order of
the entries in Read Rectifier). -/
def newSchedule (crossing period offset burst angle : Nat) : Schedule where
  crossing := crossing
  period := period
  offset := offset
  burst := period * burst / 3600
  pulses := allGates.map (newPulse crossing period offset angle)

/-- A pulse that is PENDING with its instant at or before `now`. -/
def Pulse.dueAt (now : Nat) (x : Pulse) : Bool := decide (x.status = .pending) && decide (x.moment ≤ now)

/-- R128 step 6: the pulses whose instants have passed when the schedule is built fire at once. -/
def Rectifier.fireDue (now : Nat) (sch : Schedule) (r : Rectifier) : Rectifier :=
  let started := sch.pulses.foldl
    (fun (r : Rectifier) x => if x.dueAt now then r.startBurst x.gate now sch.burst else r) r
  { started with
    schedule := some
      { sch with
        pulses := sch.pulses.map (fun x => if x.dueAt now then { x with status := .fired } else x) } }

/-- R128 steps 4 to 6: the previous schedule is discarded and the new one built and begun. -/
def Rectifier.buildSchedule (now crossing period : Nat) (f : StationFields) (r : Rectifier) : Rectifier :=
  r.fireDue now (newSchedule crossing period f.offset.toNat f.burst.toNat r.alpha)

/-- R130: the pulse of a gate fires at its instant. -/
def Rectifier.firePulse (gate : GateId) (r : Rectifier) : Rectifier :=
  match r.schedule with
  | none => r
  | some sch =>
    match sch.pulses.find? (fun x => decide (x.gate = gate) && decide (x.status = .pending)) with
    | none => r
    | some x =>
      { r.startBurst gate x.moment sch.burst with
        schedule := some
          { sch with
            pulses := sch.pulses.map (fun y =>
              if y.gate = gate ∧ y.status = .pending then { y with status := .fired } else y) } }

/-- R139: whether a gate's output is on at a moment: the first 32 µs of each 80 µs of a running burst. -/
def Rectifier.gateOutput (gate : GateId) (us : Nat) (r : Rectifier) : Bool :=
  match r.bursts[gate] with
  | none => false
  | some b => decide (b.starts ≤ us) && decide (us < b.ends) && decide ((us - b.starts) % 80 < 32)

/-! ### The regulator (6.5) -/

/-- R132: α after a step, clamped to αmin..αmax. -/
def clampAngle (f : StationFields) (x : Int) : Nat := (clamp f.alphaMin.toNat f.alphaMax.toNat x).toNat

/-- R131, R132: the voltage loop. -/
def Rectifier.voltageLoop (f : StationFields) (idc20 vbus20 : Int) (r : Rectifier) : Rectifier :=
  let vtarget := (r.reference : Int) - floorDiv (f.rdroop.toNat * idc20) 1000
  let err := vtarget - vbus20
  let limit : Int := if r.state = .softStart then 20 else 50
  let step := clamp (-limit) limit (truncDiv (f.ki.toNat * err) 16)
  { r with
    alpha := clampAngle f ((r.alpha : Int) - step)
    regulator := ⟨vtarget, err, step, idc20, vbus20⟩
    state := if r.state = .softStart ∧ -10 ≤ err ∧ err ≤ 10 then .regulating else r.state }

/-- R131, R133: the current limit. -/
def Rectifier.limitStep (f : StationFields) (idc20 vbus20 : Int) (r : Rectifier) : Rectifier :=
  let vtarget := (r.reference : Int) - floorDiv (f.rdroop.toNat * idc20) 1000
  let step := clamp 0 100 (truncDiv (f.kc.toNat * (idc20 - f.ilimit.toNat)) 16)
  { r with
    alpha := clampAngle f ((r.alpha : Int) + step)
    regulator := ⟨vtarget, vtarget - vbus20, step, idc20, vbus20⟩ }

/-- R128 step 3: the regulator run of the rectifier state (R132, R133, R136). -/
def Rectifier.regulate (f : StationFields) (idc20 vbus20 : Int) (r : Rectifier) : Rectifier :=
  match r.state with
  | .softStart | .regulating =>
    if (f.ilimit.toNat : Int) < idc20 then
      { r with state := .currentLimit, limitCount := saturatingSucc 65535 r.limitCount }.limitStep f idc20 vbus20
    else r.voltageLoop f idc20 vbus20
  | .currentLimit =>
    if (f.ilimit.toNat : Int) < idc20 then r.limitStep f idc20 vbus20
    else { r with state := .regulating }.voltageLoop f idc20 vbus20
  | .retard => { r with alpha := max r.alpha f.alphaRetard.toNat }
  | .stopped | .syncing | .blocked | .tripped => r

/-! ### Crossings (R121, R128, R138) -/

/-- R121, R138: the crossing at which a firing state is entered; no regulator run, α is αmax. -/
def Plant.rectEnterFiring (e : Env) (f : StationFields) (crossing : Nat) (p : Plant) : Plant :=
  let old := p.rect.state
  let new : RectState := if p.pendingOpen.isEmpty then .softStart else .retard
  let p := { p with rect := { p.rect with state := new, alpha := f.alphaMax.toNat, overvoltage := 0 } }
  let p := p.post e .rectifier .rectState [old.code, new.code, 0]
  { p with rect := p.rect.buildSchedule e.time.nowUs crossing p.tracker.period f }

/-- R19, R121, R128, R138: a crossing event. Without a VALID station record the rectifier is STOPPED or TRIPPED (R124)
and the crossing changes nothing. -/
def Plant.rectCrossing (e : Env) (crossing : Nat) (p : Plant) : Plant :=
  match e.store.stationFields with
  | none => p
  | some f =>
    let low : Bool := decide (e.front.mean20 .vbus < (f.vblock.toNat : Int) - f.vhys.toNat)
    match p.rect.state with
    | .syncing =>
      if p.tracker.locked && decide ((p.item .acb).state = .closed) && low then p.rectEnterFiring e f crossing
      else p
    | .blocked => if p.tracker.locked && low then p.rectEnterFiring e f crossing else p
    | .softStart | .regulating | .currentLimit | .retard =>
      if p.tracker.locked then
        let r := { p.rect with alpha := clampAngle f p.rect.alpha }
        let r := r.regulate f (e.front.mean20 .idc) (e.front.mean20 .vbus)
        { p with rect := r.buildSchedule e.time.nowUs crossing p.tracker.period f }
      else p.rectBlock e .unlocked
    | .stopped | .tripped => p

/-! ### Retard (6.6) -/

/-- R135 steps 2 to 5: one pulse at an entry into RETARD. -/
def Schedule.retardPulse (sch : Schedule) (now retardAngle : Nat) (x : Pulse) : Pulse :=
  if x.status = .pending ∧ x.angle < retardAngle then
    let q := pulsePosition sch.offset retardAngle x.gate
    let moment := pulseMoment sch.crossing sch.period q
    if q < x.position then { x with status := .dropped }
    else if moment ≤ now then { x with status := .dropped }
    else { x with position := q, angle := retardAngle, moment := moment }
  else x

/-- R135: the open-pending set has become non-empty. -/
def Plant.retardEntry (e : Env) (p : Plant) : Plant :=
  match e.store.stationFields, p.rect.state with
  | some f, .softStart | some f, .regulating | some f, .currentLimit =>
    let old := p.rect.state
    let r :=
      { p.rect with
        state := .retard
        alpha := max p.rect.alpha f.alphaRetard.toNat
        schedule := p.rect.schedule.map (fun sch =>
          { sch with pulses := sch.pulses.map (sch.retardPulse e.time.nowUs f.alphaRetard.toNat) }) }
    { p with rect := r }.post e .rectifier .rectState [old.code, RectState.retard.code, 0]
  | _, _ => p

/-- R136: the open-pending set has become empty. -/
def Plant.retardExit (e : Env) (p : Plant) : Plant :=
  if p.rect.state = .retard then
    { p with rect := { p.rect with state := .regulating } }.post e .rectifier .rectState
      [RectState.retard.code, RectState.regulating.code, 0]
  else p

/-! ### The open-pending set (R92) -/

/-- The set as a list in ascending feeder number. -/
def pendingWith (k : FeederId) (l : List FeederId) : List FeederId :=
  FeederId.all.filter (fun j => decide (j = k) || l.contains j)

/-- R92, R135: feeder k joins the open-pending set; a set that was empty retards the rectifier. -/
def Plant.joinPending (e : Env) (k : FeederId) (p : Plant) : Plant :=
  let was := p.pendingOpen.isEmpty
  let p := { p with pendingOpen := pendingWith k p.pendingOpen }
  if was then p.retardEntry e else p

/-- R92, R136: feeder k leaves the open-pending set; a set that becomes empty ends the retard. -/
def Plant.leavePending (e : Env) (k : FeederId) (p : Plant) : Plant :=
  let was := p.pendingOpen.isEmpty
  let p := { p with pendingOpen := p.pendingOpen.filter (· ≠ k) }
  if !was && p.pendingOpen.isEmpty then p.retardExit e else p

/-! ### Outcomes and reports of the ACB (R126, R127) -/

/-- The outcome of a command the controller sent. -/
def Plant.rectOutcome (e : Env) (d : Direction) (o : CommandOutcome) (p : Plant) : Plant :=
  match d, o with
  | .closing, .failed | .closing, .wrongState =>
    if p.rect.state = .syncing then p.rectStop e .acbFail else p
  | .closing, .completed | .closing, .superseded => p
  | .opening, _ => p

/-- A report of the ACB (R126): an uncommanded opening trips a running rectifier. -/
def Plant.rectReport (e : Env) (new : ItemState) (reason : ReportReason) (p : Plant) : Plant :=
  if new = .opened ∧ reason = .discrepancy ∧ p.rect.state.running = true then p.rectTrip e .acbOpened 0 else p

/-! ### The station record (R124) -/

/-- R124: the station record has ceased to be VALID. -/
def Plant.rectSettingsLost (e : Env) (p : Plant) : Plant :=
  if p.rect.state.running then p.rectStop e .settings else p

/-- R124, R131: new contents of the station record have verified. -/
def Plant.rectNewSettings (f : StationFields) (p : Plant) : Plant :=
  { p with rect := { p.rect with reference := f.vref.toNat } }

end Sys2Proof.Machine
end

