-- ==== Sys2Proof/Machine/Tracker.lean ====
section
/-! DEFINITION. The phase tracker (01, 1.4): crossings, lock, the AC peak, and what the rectifier controller hears. -/

namespace Sys2Proof.Machine

/-- R61: the level below which the supply is low, in volts: Vac_min, or 300 without a VALID station record. -/
def Env.supplyLevel (e : Env) : Nat :=
  match e.store.stationFields with
  | some f => f.vacMin.toNat
  | none => 300

/-- R14: the time of a positive-going crossing between two samples. -/
def crossingTime (t0 : Nat) (v0 v : Int) : Nat := t0 + (floorDiv (125 * -v0) (v - v0)).toNat

/-- R15: a valid period. -/
def validPeriod (p : Nat) : Bool := decide (18182 ≤ p) && decide (p ≤ 22222)

/-- R15 step 1: the list of valid periods after one more. -/
def periodsWith (p : Nat) (l : List Nat) : List Nat := (if 4 ≤ l.length then l.drop (l.length - 3) else l) ++ [p]

/-- R15 steps 1 to 4: the record after a valid period. -/
def Tracker.takePeriod (period : Nat) (t : Tracker) : Tracker :=
  let l := periodsWith period t.periods
  let run := min 8 (t.run + 1)
  { t with
    periods := l
    run := run
    period := if l.length = 4 then l.sum / 4 else 0
    locked := t.locked || decide (run = 8) }

/-- R16: the record after an invalid period or an expiry without a crossing. -/
def Tracker.loseRun (t : Tracker) : Tracker := { t with run := 0, periods := [], period := 0, locked := false }

/-- R17: the AC peak is refreshed, and the running peak restarts at the value given; R18: SUPPLY_LOW is evaluated. -/
def Tracker.refreshPeak (level restart : Nat) (t : Tracker) : Tracker :=
  { t with acPeak := t.peak, peak := restart, supplyLow := decide (t.peak < level) }

/-- R18: SUPPLY_LOW evaluated again without a refresh. -/
def Tracker.reevaluate (level : Nat) (t : Tracker) : Tracker := { t with supplyLow := decide (t.acPeak < level) }

/-- A change of the tracker's record, with SUPPLY_LOST latched where it goes live (R18, R180). -/
def Plant.setTracker (e : Env) (t : Tracker) (p : Plant) : Plant :=
  Plant.latchIfNew e .supplyLost p.tracker.supplyLost t.supplyLost { p with tracker := t }

/-- R16: lock is lost: SYNC_LOST is journalled and the rectifier controller told. -/
def Plant.loseSync (e : Env) (reason period : Nat) (p : Plant) : Plant :=
  let was := p.tracker.locked
  let p := p.setTracker e p.tracker.loseRun
  if was then (p.post e .station .syncLost [reason, period]).rectLockLost e else p

/-- R15, R16: what the period measured at a crossing does. -/
def Plant.takeCrossingPeriod (e : Env) (crossing : Nat) (p : Plant) : Plant :=
  match p.tracker.lastCrossing with
  | none => p
  | some last =>
    if validPeriod (crossing - last) then
      let was := p.tracker.locked
      let p := p.setTracker e (p.tracker.takePeriod (crossing - last))
      if !was && p.tracker.locked then p.post e .station .syncLocked [p.tracker.period] else p
    else p.loseSync e 1 (crossing - last)

/-- R15 to R19: a crossing, detected at the sample `v`. -/
def Plant.crossing (e : Env) (crossing : Nat) (v : Int) (p : Plant) : Plant :=
  let p := p.takeCrossingPeriod e crossing
  let p := p.setTracker e
    { p.tracker.refreshPeak e.supplyLevel v.natAbs with
      lastCrossing := some crossing, noCrossing := e.time.after 30 }
  p.rectCrossing e crossing

/-- R14, R17: VAB of one sample instant. -/
def Plant.trackVab (e : Env) (p : Plant) : Plant :=
  let v := e.front.latest.vab
  let taken := { p with tracker := { p.tracker with previous := some (v, e.time.nowUs) } }
  match p.tracker.previous with
  | some (v0, t0) =>
    if v0 < 0 ∧ 0 ≤ v then taken.crossing e (crossingTime t0 v0 v) v
    else { taken with tracker := { taken.tracker with peak := max taken.tracker.peak v.natAbs } }
  | none => { taken with tracker := { taken.tracker with peak := max taken.tracker.peak v.natAbs } }

/-- R16, R17: the no-crossing timer expires. -/
def Plant.noCrossing (e : Env) (p : Plant) : Plant :=
  let p := p.loseSync e 2 0
  p.setTracker e
    { p.tracker.refreshPeak e.supplyLevel 0 with lastCrossing := none, noCrossing := e.time.after 30 }

/-- R18, R61: the station record's presented contents have changed. -/
def Plant.supplySettings (e : Env) (p : Plant) : Plant := p.setTracker e (p.tracker.reevaluate e.supplyLevel)

/-- NO_CROSSING_EXPIRY (R16, R17). -/
def execNoCrossingExpiry (s : State) : Host.Outcome State Fault Refusal :=
  .next (s.atExpiry (some s.plant.tracker.noCrossing) (fun s => s.onPlant Plant.noCrossing))

end Sys2Proof.Machine
end

