-- ==== Sys2Proof/Machine/StationRequests.lean ====
section
/-! DEFINITION. The station requests (11.2, 11.3): identity, echo, status, attention, notices, time, restart,
measurements and energy. A `reply…` gives the payload of a request that changes nothing, a `serve…` the effect and the
reply of one that does. -/

namespace Sys2Proof.Machine

/-- R8, R213: the parts of a timestamp where the catalogue fixes no format: count, eighth, and UNSYNC and FREE packed. -/
def Stamp.fields (x : Stamp) : List Byte :=
  leBytes 6 x.ms.toNat ++ leBytes 1 x.eighth.toNat ++ packFlags [x.unsync, x.free]

/-! ### Identify, Echo, Read Status (R205, R206) -/

/-- R205. -/
def replyIdentify (s : State) : List Byte :=
  okReply (leBytes 2 Config.vendorCode ++ leBytes 2 Config.partCode ++ leBytes 1 Config.revision
    ++ leBytes 1 s.panel.unit.toNat ++ leBytes 1 s.link.rate.toNat)

def serveIdentify (s : State) : Served := answered (replyIdentify s) s

/-- IDENTIFY (R205). -/
def execIdentify (head : RequestHead) (s : State) : Host.Outcome State Fault Refusal :=
  .next (s.request head .identify [] serveIdentify)

def serveEcho (payload : List Byte) (s : State) : Served := answered (okReply payload) s

/-- ECHO (R205). -/
def execEcho (head : RequestHead) (payload : List Byte) (s : State) : Host.Outcome State Fault Refusal :=
  .next (s.request head .echo payload (serveEcho payload))

/-- R202, R206: the six counters, in the order of the rule. -/
def LinkCounters.fields (c : LinkCounters) : List Byte :=
  leBytes 2 c.framing ++ leBytes 2 c.gap ++ leBytes 2 c.length ++ leBytes 2 c.crc ++ leBytes 2 c.breaks
    ++ leBytes 2 c.overflow

/-- R206. REMOTE and ENG_KEY are flags that are set while the input is active (log 54, DESIGN CHOICE, unsafe). -/
def replyReadStatus (s : State) : List Byte :=
  okReply (leBytes 1 s.panel.cause.code ++ packFlags [s.panel.remote, s.panel.engKey]
    ++ leBytes 6 s.time.clock.toNat ++ leBytes 1 s.time.eighth.toNat
    ++ flagByte s.time.unsync ++ leBytes 1 s.time.source.code
    ++ leBytes 1 s.plant.rect.state.code
    ++ (s.plant.feeders.toList.map (fun f => leBytes 1 f.state.code)).flatten
    ++ packFlags s.plant.unit.attention.toList ++ s.link.counters.fields)

def serveReadStatus (s : State) : Served := answered (replyReadStatus s) s

/-- READ_STATUS (R206). -/
def execReadStatus (head : RequestHead) (s : State) : Host.Outcome State Fault Refusal :=
  .next (s.request head .readStatus [] serveReadStatus)

/-! ### Attention and notices (R186, R189) -/

/-- R186: the flags are cleared; mask, pending set and holdoff stay. -/
def JournalUnit.clearAttention (u : JournalUnit) : JournalUnit := { u with attention := FlagSet.empty }

def serveReadAttention (s : State) : Served :=
  (s.onPlant (fun _ p => { p with unit := p.unit.clearAttention }),
    some (okReply (packFlags s.plant.unit.attention.toList)))

/-- READ_ATTENTION (R186). -/
def execReadAttention (head : RequestHead) (s : State) : Host.Outcome State Fault Refusal :=
  .next (s.request head .readAttention [] serveReadAttention)

/-- R189, R200: the enables of a mask value; bits beyond code 8 are ignored. -/
def FlagSet.ofMask (m : Word16) : FlagSet :=
  ⟨m.getLsbD 0, m.getLsbD 1, m.getLsbD 2, m.getLsbD 3, m.getLsbD 4, m.getLsbD 5, m.getLsbD 6, m.getLsbD 7,
    m.getLsbD 8⟩

/-- R189: the mask takes the new value, and flags it disables leave the pending set. -/
def JournalUnit.setMask (m : FlagSet) (u : JournalUnit) : JournalUnit :=
  { u with mask := m, pendingFlags := u.pendingFlags.inter m }

def serveNoticeMask (m : Word16) (s : State) : Served :=
  (s.onPlant (fun _ p => { p with unit := p.unit.setMask (FlagSet.ofMask m) }),
    some (okReply (packFlags (FlagSet.ofMask m).toList)))

/-- NOTICE_MASK (R189). -/
def execNoticeMask (head : RequestHead) (m : Word16) (s : State) : Host.Outcome State Fault Refusal :=
  .next (s.request head .noticeMask (leBytes 2 m.toNat) (serveNoticeMask m))

/-! ### Set Time, Restart (R10, R207) -/

/-- R10: the station clock is loaded and UNSYNC cleared; the eighth and the elapsed count stay. -/
def TimeBase.load (count : Millis) (t : TimeBase) : TimeBase := { t with clock := count, unsync := false }

def serveSetTime (count : Millis) (s : State) : Served :=
  (State.onPlant { s with time := s.time.load count }
    (fun e p => p.post e .station .timeSet [s.time.clock.toNat, count.toNat]), some (okReply []))

/-- SET_TIME (R10). -/
def execSetTime (head : RequestHead) (count : Millis) (s : State) : Host.Outcome State Fault Refusal :=
  .next (s.request head .setTime (leBytes 6 count.toNat) (serveSetTime count))

def serveRestart (s : State) : Served :=
  needsRemote (fun s => ({ s with link := { s.link with restart := .taken } }, some (okReply []))) s

/-- RESTART (R207). -/
def execRestart (head : RequestHead) (s : State) : Host.Outcome State Fault Refusal :=
  .next (s.request head .restart [] serveRestart)

/-! ### Measurements and energy (R208, R161, R164) -/

/-- R208: the latest sample and the two means of one channel, each two bytes signed. -/
def FrontEnd.channelFields (f : FrontEnd) (c : Channel) : List Byte :=
  leBytes 2 (f.latest.get c) ++ leBytes 2 (f.mean1 c) ++ leBytes 2 (f.mean20 c)

/-- R3: the saturation indications, in channel order. -/
def FrontEnd.saturated (f : FrontEnd) : List Bool := (channelList f.saturation).map (fun n => decide (0 < n))

/-- R208. -/
def replyReadMeasurements (s : State) : List Byte :=
  let t := s.plant.tracker
  okReply (((channelList Channel.all).map s.front.channelFields).flatten ++ packFlags s.front.saturated
    ++ leBytes 1 (if t.locked then 1 else 0) ++ leBytes 1 t.run ++ leBytes 2 t.period ++ leBytes 2 t.acPeak
    ++ packFlags [t.supplyLow, t.supplyLost])

def serveReadMeasurements (s : State) : Served := answered (replyReadMeasurements s) s

/-- READ_MEASUREMENTS (R208). -/
def execReadMeasurements (head : RequestHead) (s : State) : Host.Outcome State Fault Refusal :=
  .next (s.request head .readMeasurements [] serveReadMeasurements)

/-- R161: a counter in watt-hours. -/
def wattHours (mj : Nat) : Nat := mj / 3600000

/-- R161, R208. -/
def replyReadEnergy (s : State) : List Byte :=
  let en := s.energy
  let pair : Nat → Nat → List Byte := fun a b => leBytes 6 (wattHours a) ++ leBytes 6 (wattHours b)
  okReply ((Six.zip pair en.plus en.minus).toList.flatten ++ pair en.rectPlus en.rectMinus
    ++ leBytes 6 en.credited ++ leBytes 2 en.pulses ++ leBytes 1 en.output.code ++ leBytes 1 s.store.icreep
    ++ flagByte s.store.stationFields.isSome)

def serveReadEnergy (s : State) : Served := answered (replyReadEnergy s) s

/-- READ_ENERGY (R161). -/
def execReadEnergy (head : RequestHead) (s : State) : Host.Outcome State Fault Refusal :=
  .next (s.request head .readEnergy [] serveReadEnergy)

def serveClearEnergy (s : State) : Served :=
  needsKey (fun s =>
    (State.onPlant { s with energy := s.energy.clear }
      (fun e p => p.post e .station .energyCleared [(s.energy.rectPlus / mjPerKwh : Nat)]), some (okReply []))) s

/-- CLEAR_ENERGY (R164). -/
def execClearEnergy (head : RequestHead) (s : State) : Host.Outcome State Fault Refusal :=
  .next (s.request head .clearEnergy [] serveClearEnergy)

end Sys2Proof.Machine
end

