-- ==== Sys2Proof/Machine/JournalRequests.lean ====
section
/-! DEFINITION. The journal, alarm and record requests (11.6). -/

namespace Sys2Proof.Machine

/-! ### Journal (R178, R179) -/

/-- R178: the count applied. -/
def clampCount (n : Byte) : Nat := min 8 (max 1 n.toNat)

/-- R178, R211. -/
def replyFetchJournal (n : Byte) (s : State) : List Byte :=
  let u := s.plant.unit
  let entries := u.journal.take (clampCount n)
  okReply (leBytes 2 u.journal.length ++ leBytes 2 u.nextIndex.toNat ++ leBytes 1 entries.length
    ++ (entries.map Entry.bytes).flatten)

def serveFetchJournal (n : Byte) (s : State) : Served := answered (replyFetchJournal n s) s

/-- FETCH_JOURNAL (R178). -/
def execFetchJournal (head : RequestHead) (n : Byte) (s : State) : Host.Outcome State Fault Refusal :=
  .next (s.request head .fetchJournal [n] (serveFetchJournal n))

/-- R179: how many entries a release of index X removes: the entry with that index and every older one. -/
def releaseCount (x : Word16) (journal : List Entry) : Option Nat :=
  (journal.findIdx? (fun y => decide (y.index = x))).map (· + 1)

/-- R179: the journal after a release. -/
def JournalUnit.release (n : Nat) (u : JournalUnit) : JournalUnit := { u with journal := u.journal.drop n }

def serveReleaseJournal (x : Word16) (s : State) : Served :=
  match releaseCount x s.plant.unit.journal with
  | none => answered (refusal .notFound) s
  | some n =>
    (s.onPlant (fun _ p => { p with unit := p.unit.release n }),
      some (okReply (leBytes 2 n ++ leBytes 1 ((s.plant.unit.journal.length - n : Nat)))))

/-- RELEASE_JOURNAL (R179). -/
def execReleaseJournal (head : RequestHead) (x : Word16) (s : State) : Host.Outcome State Fault Refusal :=
  .next (s.request head .releaseJournal (leBytes 2 x.toNat) (serveReleaseJournal x))

/-! ### Alarms (R182, R183) -/

/-- R183, R211. No rule gives the values of the ALARM contact; the model sends one byte, 1 for energised and 0 for
de-energised (log 54, DESIGN CHOICE, unsafe). -/
def replyReadAlarms (s : State) : List Byte :=
  okReply (packFlags (s.plant.live s.env).toList ++ packFlags s.plant.unit.latched.toList
    ++ flagByte s.plant.unit.contact)

def serveReadAlarms (s : State) : Served := answered (replyReadAlarms s) s

/-- READ_ALARMS (R183). -/
def execReadAlarms (head : RequestHead) (s : State) : Host.Outcome State Fault Refusal :=
  .next (s.request head .readAlarms [] serveReadAlarms)

/-- R182 steps 1 and 2: the flags whose conditions are live stay, and the contact follows. -/
def JournalUnit.acknowledge (live : AlarmFlags) (u : JournalUnit) : JournalUnit :=
  { u with latched := u.latched.inter live, contact := (u.latched.inter live).any }

/-- R182 steps 1 to 3. -/
def Plant.acknowledge (e : Env) (p : Plant) : Plant :=
  let held := p.unit.latched.count
  let p := { p with unit := p.unit.acknowledge (p.live e) }
  let still := p.unit.latched.count
  p.post e .station .alarmsAcked [((held - still : Nat)), still]

/-- R182 step 4, R211: the alarms still latched. -/
def acknowledgeReply (latched : AlarmFlags) : List Byte :=
  okReply (leBytes 1 latched.numbers.length ++ (latched.numbers.map (fun n => leBytes 1 n)).flatten)

def serveAcknowledgeAlarms (s : State) : Served :=
  let s := s.onPlant Plant.acknowledge
  (s, some (acknowledgeReply s.plant.unit.latched))

/-- ACKNOWLEDGE_ALARMS (R182). -/
def execAcknowledgeAlarms (head : RequestHead) (s : State) : Host.Outcome State Fault Refusal :=
  .next (s.request head .acknowledgeAlarms [] serveAcknowledgeAlarms)

/-! ### Records (R169, R171, R172) -/

/-- R172, R212: one slot. That a FREE slot is its state byte alone, with the fields that R212 names "for a slot not
FREE" left out and not sent as none or absent under R204, is the model's reading (log 59, DEDUCED). -/
def slotFields (x : Slot) : List Byte :=
  leBytes 1 x.code ++ (match x.record with
    | none => []
    | some r =>
      leBytes 1 r.feeder.number ++ leBytes 1 r.cause.code ++ r.stamp.fields ++ leBytes 1 r.triples.length)

/-- R172, R212: the held slot and the milliseconds left. -/
def holdFields (t : TimeBase) (hold : Option (SlotId × Nat)) : List Byte :=
  noneOr 1 (hold.map (fun h => h.1.val)) ++ noneOr 2 (hold.map (fun h => t.msLeft h.2))

/-- R172, R212. The widths are log 23, the hold log 22 and a FREE slot log 59 (DEDUCED). -/
def replyListRecords (s : State) : List Byte :=
  let r := s.plant.records
  okReply ((r.slots.toList.map slotFields).flatten ++ leBytes 1 r.claims.length
    ++ (r.claims.map (fun n => leBytes 1 n.val)).flatten ++ holdFields s.time r.hold)

def serveListRecords (s : State) : Served := answered (replyListRecords s) s

/-- LIST_RECORDS (R172). -/
def execListRecords (head : RequestHead) (s : State) : Host.Outcome State Fault Refusal :=
  .next (s.request head .listRecords [] serveListRecords)

/-- R213: a triple. -/
def Triple.bytes (x : Triple) : List Byte := leBytes 2 x.current ++ leBytes 2 x.busbar ++ leBytes 2 x.line

/-- R213: the header of piece 0. -/
def FaultRecord.header (r : FaultRecord) : List Byte :=
  let x := r.snapshot
  leBytes 1 r.feeder.number ++ leBytes 1 r.cause.code ++ leBytes 6 r.stamp.ms.toNat ++ [r.stamp.flagsByte 0]
    ++ flagByte x.rise.isSome ++ leBytes 2 x.i ++ leBytes 4 x.d
    ++ leBytes 2 ((x.rise.map RiseValues.ib).getD 0) ++ leBytes 4 ((x.rise.map RiseValues.deltaI).getD 0)
    ++ leBytes 2 ((x.rise.map RiseValues.age).getD 0) ++ leBytes 4 x.theta ++ leBytes 1 (bindingCode x.binding)
    ++ (match r.captureStart with
        | some c => leBytes 6 c.ms.toNat ++ [(⟨c.ms, 0, c.unsync, c.free⟩ : Stamp).flagsByte 0]
        | none => List.replicate 7 0)
    ++ leBytes 2 r.triples.length

/-- R169: the triples of a piece. -/
def FaultRecord.piece (n : Nat) (r : FaultRecord) : List Triple := (r.triples.drop (16 * n)).take 16

/-- R213: the payload of a Read Record Piece. -/
def pieceReply (slot : SlotId) (n : Nat) (after : Slot) (r : FaultRecord) : List Byte :=
  okReply (leBytes 1 slot.val ++ leBytes 1 n ++ leBytes 1 after.code ++ (if n = 0 then r.header else [])
    ++ ((r.piece n).map Triple.bytes).flatten)

/-- R169: a piece of a COMPLETE or HELD slot is returned, and the request acts on the hold. -/
def State.readPiece (slot : SlotId) (n : Nat) (r : FaultRecord) (s : State) : Served :=
  let records := s.plant.records.readPiece s.env slot (decide (n = 7))
  (s.onPlant (fun _ p => { p with records := records }), some (pieceReply slot n records.slots[slot] r))

def serveReadRecordPiece (slot piece : Byte) (s : State) : Served :=
  match slotOfByte slot with
  | none => answered (refusal .badValue) s
  | some n =>
    if 7 < piece.toNat then answered (refusal .badValue) s
    else
      match s.plant.records.slots[n] with
      | .free | .filling _ => answered (refusal .notReady) s
      | .complete r | .held r => s.readPiece n piece.toNat r

/-- READ_RECORD_PIECE (R169). -/
def execReadRecordPiece (head : RequestHead) (slot piece : Byte) (s : State) : Host.Outcome State Fault Refusal :=
  .next (s.request head .readRecordPiece [slot, piece] (serveReadRecordPiece slot piece))

/-- R171, R212: the slot number, and its state, which is FREE. -/
def freeReply (n : SlotId) : List Byte := okReply (leBytes 1 n.val ++ leBytes 1 Slot.free.code)

def serveFreeRecord (slot : Byte) (s : State) : Served :=
  match slotOfByte slot with
  | none => answered (refusal .badValue) s
  | some n =>
    match s.plant.records.slots[n] with
    | .filling _ => answered (refusal .wrongState) s
    | .free => answered (freeReply n) s
    | .complete _ | .held _ =>
      (s.onPlant (fun _ p => { p with records := p.records.freeSlot n }), some (freeReply n))

/-- FREE_RECORD (R171). -/
def execFreeRecord (head : RequestHead) (slot : Byte) (s : State) : Host.Outcome State Fault Refusal :=
  .next (s.request head .freeRecord [slot] (serveFreeRecord slot))

end Sys2Proof.Machine
end

