-- ==== Sys2Proof/Machine/Discriminator.lean ====
section
/-! DEFINITION. The feeder fault discriminator (02): its samples, the thermal image, arming and snapshots. A trip is
answered as a snapshot, which the feeder sequencer then takes (R40). -/

namespace Sys2Proof.Machine

/-- R40 step 3, R21: instant counter 0, evaluation context cleared, close blocking 0. -/
def Discriminator.clearRun (d : Discriminator) : Discriminator :=
  { d with instant := 0, startRun := 0, startBase := none, event := none, blocking := 0 }

/-- R20: FBk is accepted CLOSED. In ARMED and TRIPPED the case is not reached and changes nothing. -/
def Discriminator.arm (v : BoundValues) (d : Discriminator) : Discriminator :=
  match d.state with
  | .disarmed => { d.clearRun with state := .armed, blocking := 8 * v.tcb }
  | .armed | .tripped => d

/-- R21: the accepted position of FBk leaves CLOSED. -/
def Discriminator.disarm (d : Discriminator) : Discriminator :=
  match d.state with
  | .armed | .tripped => { d.clearRun with state := .disarmed }
  | .disarmed => d

/-- R41, R42: a snapshot formed from the last sample taken. -/
def Discriminator.snapshot (binding : Option SetId) (cause : TripCause) (rise : Option RiseValues)
    (d : Discriminator) : Snapshot :=
  ⟨cause, d.last.stamp, d.last.i, d.last.d, rise, d.theta, binding⟩

/-- R40 steps 2 and 3. -/
def Discriminator.trip (d : Discriminator) : Discriminator := { d.clearRun with state := .tripped }

/-- R42: a request for a snapshot; an ARMED discriminator enters TRIPPED. -/
def Discriminator.onRequest (d : Discriminator) : Discriminator :=
  match d.state with
  | .armed => d.trip
  | .tripped | .disarmed => d

/-! ### The instant function (2.2) -/

/-- R24: the instant counter after a sample. -/
def instantCount (v : BoundValues) (i : Int) (n : Nat) : Nat := if (v.imax : Int) ≤ i then n + 1 else 0

/-- R24: the instant function trips. A sample below Imax never trips. -/
def instantTrips (v : BoundValues) (i : Int) (n : Nat) : Bool :=
  decide ((v.imax : Int) ≤ i) && decide (v.nmax ≤ instantCount v i n)

/-! ### The rise function (2.3) -/

/-- R27: whether a start run is held at 0. -/
def Discriminator.startBlocked (v : BoundValues) (d : Discriminator) : Bool :=
  decide (0 < d.blocking) || !v.riseEnabled

/-- R27: the start run and start base after a sample in IDLE. -/
def Discriminator.startStep (v : BoundValues) (d : Discriminator) : Discriminator :=
  if d.startBlocked v then { d with startRun := 0, startBase := none }
  else if d.last.d < (v.drise : Int) then { d with startRun := 0, startBase := none }
  else if d.startRun = 0 then { d with startRun := 1, startBase := some (d.last.i - d.last.d) }
  else { d with startRun := d.startRun + 1 }

/-- R28: entry into RISING. -/
def Discriminator.enterRising (v : BoundValues) (d : Discriminator) : Discriminator :=
  { d with
    startRun := 0
    startBase := none
    event := some
      { ib := d.startBase.getD (d.last.i - d.last.d)
        age := 0
        endCount := 0
        dfall := v.dfall
        nend := v.nend
        deltaI := v.deltaI
        tmin := v.tmin
        tmax := v.tmax } }

/-- R32: an event ends without a trip. -/
def Discriminator.endEvent (o : EventOutcome) (d : Discriminator) : Discriminator :=
  { d with event := none, startRun := 0, startBase := none,
           events := saturatingSucc 65535 d.events, outcome := o }

/-- R29: the trip test of an event. -/
def RiseEvent.trips (i : Int) (ev : RiseEvent) : Bool :=
  decide ((ev.deltaI : Int) ≤ i - ev.ib) && decide (ev.tmin ≤ ev.age)

/-- R30: the end counter after a sample. -/
def RiseEvent.endStep (d : Int) (ev : RiseEvent) : Nat := if d < (ev.dfall : Int) then ev.endCount + 1 else 0

/-- R29 to R31: one step of an event. The values of a RISE trip are answered when the event trips. -/
def Discriminator.eventStep (ev : RiseEvent) (d : Discriminator) : Discriminator × Option RiseValues :=
  if ev.trips d.last.i then (d, some ⟨ev.ib, d.last.i - ev.ib, ev.age⟩)
  else
    let n := ev.endStep d.last.d
    if ev.nend ≤ n then (d.endEvent .ended, none)
    else if ev.age = ev.tmax then (d.endEvent .expired, none)
    else ({ d with event := some { ev with endCount := n, age := ev.age + 1 } }, none)

/-- R22 step 3: the rise function on one sample. -/
def Discriminator.riseStep (v : BoundValues) (d : Discriminator) : Discriminator × Option RiseValues :=
  match d.event with
  | some ev => d.eventStep ev
  | none =>
    let d := d.startStep v
    if !d.startBlocked v && decide (0 < d.startRun) && decide (v.nstart ≤ d.startRun) then
      let d := d.enterRising v
      match d.event with
      | some ev => d.eventStep ev
      | none => (d, none)
    else (d, none)

/-- R22: an evaluated sample in ARMED. A trip is answered with its cause and the values of a RISE trip. -/
def Discriminator.evaluate (v : BoundValues) (d : Discriminator) :
    Discriminator × Option (TripCause × Option RiseValues) :=
  if instantTrips v d.last.i d.instant then (d, some (.instant, none))
  else
    let d := { d with instant := instantCount v d.last.i d.instant }
    match d.riseStep v with
    | (d, some r) => (d, some (.rise, some r))
    | (d, none) => ({ d with blocking := d.blocking - 1 }, none)

/-- R26: the sample taken, with its rise over one millisecond. -/
def lastSampleOf (e : Env) (k : FeederId) : LastSample :=
  let h := e.front.history.get k
  let i := h.getLastD 0
  ⟨i, i - h.getD (h.length - 9) 0, e.time.stamp⟩

/-- R22, R40: an IFk sample. A trip is answered as a snapshot. -/
def Discriminator.sample (e : Env) (k : FeederId) (d : Discriminator) : Discriminator × Option Snapshot :=
  let d := { d with last := lastSampleOf e k }
  match d.state with
  | .disarmed | .tripped => (d, none)
  | .armed =>
    match d.evaluate (e.store.values k) with
    | (d, none) => (d, none)
    | (d, some (cause, rise)) => (d.trip, some (d.snapshot (e.store.binding.get k).set cause rise))

/-! ### The thermal image (2.5) -/

/-- R35: θ after a millisecond event. -/
def thermalStep (tshift : Nat) (mean theta : Int) : Int :=
  theta + floorDiv (mean * mean - theta) (2 ^ tshift)

/-- R37: the THERMAL_ALARM condition. -/
def thermalAlarmAt (v : BoundValues) (theta : Int) : Bool := decide ((v.ialarm : Int) * v.ialarm ≤ theta)

/-- R38: the thermal trip test. -/
def thermalTrips (v : BoundValues) (d : Discriminator) : Bool :=
  decide (d.state = .armed) && v.thermalEnabled && decide ((v.ith : Int) * v.ith ≤ d.theta)

/-- R35 and R37: the discriminator after the update and the alarm evaluation. -/
def Discriminator.heat (v : BoundValues) (mean : Int) (d : Discriminator) : Discriminator :=
  let theta := thermalStep v.tshift mean d.theta
  { d with theta := theta, alarm := thermalAlarmAt v theta }

/-- R35, R37, R38, R40: the millisecond event at discriminator k, with the alarm's journal entry. A trip is answered
as a snapshot. -/
def Plant.thermalEvent (e : Env) (k : FeederId) (p : Plant) : Plant × Option Snapshot :=
  let v := e.store.values k
  let old := p.disc k
  let new := old.heat v (e.front.mean1 (.feederCurrent k))
  let p := p.setDisc k new
  let p :=
    if old.alarm = new.alarm then p
    else
      let p := p.latchIfNew e (.thermalAlarm k) old.alarm new.alarm
      p.post e (.feeder k) .thermalAlarm [if new.alarm then 1 else 0]
  if thermalTrips v new then
    (p.setDisc k new.trip, some (new.snapshot (e.store.binding.get k).set .thermal none))
  else (p, none)

/-- R42: the sequencer asks for a snapshot with a cause of its own. -/
def Plant.requestSnapshot (e : Env) (k : FeederId) (cause : TripCause) (p : Plant) : Plant × Snapshot :=
  (p.setDisc k (p.disc k).onRequest, (p.disc k).snapshot (e.store.binding.get k).set cause none)

/-- R74 step 3, R20, R21: a change of FBk's sensed position reaches the discriminator. -/
def Plant.presentBreaker (e : Env) (k : FeederId) (before now : Position) (p : Plant) : Plant :=
  if now = .closed ∧ before ≠ .closed then p.setDisc k ((p.disc k).arm (e.store.values k))
  else if before = .closed ∧ now ≠ .closed then p.setDisc k (p.disc k).disarm
  else p

end Sys2Proof.Machine
end

