-- ==== Sys2Proof/Machine/Sequencer.lean ====
section
/-! DEFINITION. The feeder sequencer (05): trips, breaker failure, dead time, line test, closing, and what the
supervisor's outcomes and reports and the station-wide orders do to a feeder. -/

namespace Sys2Proof.Machine

def Plant.onFeeder (k : FeederId) (g : Sequencer → Sequencer) (p : Plant) : Plant := p.setFeeder k (g (p.feeder k))

def Sequencer.stopTimers (f : Sequencer) : Sequencer :=
  { f with deadTimer := none, settleTimer := none, serviceTimer := none }

/-! ### Entries into states -/

/-- R97: IN_SERVICE, with the service timer at 60 s; the manual flag is cleared (R109). -/
def Sequencer.enterInService (e : Env) (f : Sequencer) : Sequencer :=
  { f.stopTimers with
    state := .inService, exit := none, reclose := none, manual := false, serviceTimer := some (e.time.after 60000) }

/-- OUT: the deferral start is none (R100) and the manual flag cleared (R109). -/
def Sequencer.enterOut (f : Sequencer) : Sequencer :=
  { f.stopTimers with state := .out, exit := none, reclose := none, manual := false, deferral := none }

/-- R115: the record at an entry into LOCKED_OUT. -/
def Sequencer.enterLockedOut (cause : LockoutCause) (f : Sequencer) : Sequencer :=
  { f.stopTimers with
    state := .lockedOut, exit := none, reclose := none, manual := false, deferral := none, lockout := some cause }

/-- R116: the cause code of a LOCKOUT entry, 255 for NONE. -/
def lastCauseCode (c : Option TripCause) : Nat :=
  match c with
  | some c => c.code
  | none => 255

/-- R115: an entry into LOCKED_OUT. -/
def Plant.lockOut (e : Env) (k : FeederId) (cause : LockoutCause) (p : Plant) : Plant :=
  let old := p.feeder k
  let p := p.onFeeder k (Sequencer.enterLockedOut cause)
  let p := p.latchIfNew e (.lockedOut k) old.lockedOutLive true
  let p := p.post e (.feeder k) .lockout [cause.code, old.attempts, lastCauseCode old.lastCause]
  p.raise e .lockout

/-- R99: DEAD_TIME in phase WAITING. -/
def Sequencer.enterWaiting (e : Env) (tdead : Nat) (f : Sequencer) : Sequencer :=
  { f.stopTimers with
    state := .deadTime .waiting, exit := none, reclose := none, deadTimer := some (e.time.after tdead)
    deferral := none }

/-- R99: DEAD_TIME in phase WAITING, with the binding's Tdead. -/
def Plant.enterDeadTime (e : Env) (k : FeederId) (p : Plant) : Plant :=
  p.onFeeder k (Sequencer.enterWaiting e (e.store.values k).tdead)

/-- R96, last two rows: the reaction to a reclosable trip once the breaker is open. -/
def Plant.reactReclosable (e : Env) (k : FeederId) (p : Plant) : Plant :=
  if (p.feeder k).attempts < (e.store.values k).attempts then p.enterDeadTime e k
  else p.lockOut e k .attemptsExhausted

/-- R100: the record of a deferral that stays within its limit. -/
def Sequencer.enterDeferred (e : Env) (start : Millis) (f : Sequencer) : Sequencer :=
  { f.stopTimers with
    state := .deadTime .deferred, exit := none, deadTimer := some (e.time.after 1000), deferral := some start }

/-- R100: to defer. -/
def Plant.defer (e : Env) (k : FeederId) (p : Plant) : Plant :=
  let start := (p.feeder k).deferral.getD e.time.elapsed
  if 120000 < e.time.age start then p.lockOut e k .deferralLimit
  else p.onFeeder k (Sequencer.enterDeferred e start)

/-! ### Trips (5.3) -/

/-- R93 step 3: which causes are reclosable. -/
def TripCause.reclosable : TripCause → Bool
  | .instant | .rise | .thermal | .railSubstitute => true
  | .directRelease | .frameFault | .backup => false

/-- R93 step 3: the lockout cause of a cause that is not reclosable. -/
def TripCause.lockoutCause : TripCause → LockoutCause
  | .backup => .backup
  | .frameFault => .frameFault
  | .instant | .rise | .thermal | .railSubstitute | .directRelease => .tripOutOfService

/-- R93 step 3, and the manual opening that a trip supersedes: the exit target of a trip in IN_SERVICE. -/
def tripExit (cause : TripCause) (held : Option ExitTarget) : Option ExitTarget :=
  if cause.reclosable then
    match held with
    | some .out => some .out
    | _ => none
  else some (.lockedOut cause.lockoutCause)

/-- R93 step 3: the record at an entry into TRIPPING. -/
def Sequencer.enterTripping (reclose : Bool) (exit : Option ExitTarget) (f : Sequencer) : Sequencer :=
  { f.stopTimers with state := .tripping, reclose := some reclose, exit := exit }

/-- R93 steps 4 to 6, R95 step 2: the trip is recorded, a record slot asked for, and the trip journalled. -/
def Plant.recordTrip (e : Env) (k : FeederId) (snap : Snapshot) (p : Plant) : Plant :=
  let p := p.onFeeder k (fun f => { f with lastCause := some snap.cause, snapshot := some snap })
  let c := p.claimRecord k snap
  let slot : Int := match c.2 with
    | some n => n.val
    | none => 255
  let p := c.1.post e (.feeder k) .feederTrip [snap.cause.code, snap.i, slot]
  p.raise e .trip

/-- R93 steps 2 to 6. Nothing reads the state between them, and the trip's own entry of step 6 comes before the entry
that the join of step 3 causes at the rectifier (R141, R175; log 43). -/
def Plant.beginTrip (e : Env) (k : FeederId) (snap : Snapshot) (reclose : Bool) (exit : Option ExitTarget)
    (p : Plant) : Plant :=
  let p := p.openCommand e (.sequencer k) (.fb k)
  let p := p.recordTrip e k snap
  let p := p.onFeeder k (Sequencer.enterTripping reclose exit)
  p.joinPending e k

/-- R93: a trip taken in IN_SERVICE. -/
def Plant.tripInService (e : Env) (k : FeederId) (snap : Snapshot) (p : Plant) : Plant :=
  p.beginTrip e k snap snap.cause.reclosable (tripExit snap.cause (p.feeder k).exit)

/-- TCk is commanded open (R103, R105, R110, R113). -/
def Plant.openTc (e : Env) (k : FeederId) (p : Plant) : Plant := p.openCommand e (.sequencer k) (.tc k)

/-- TCk is commanded open unless its item state is OPEN (R111; R94's cancelling of a line test, log 24). -/
def Plant.openTcUnlessOpen (e : Env) (k : FeederId) (p : Plant) : Plant :=
  if (p.item (.tc k)).state = .opened then p else p.openTc e k

/-- R94: a discriminator trip in a state other than IN_SERVICE and TRIPPING. -/
def Plant.tripOutOfService (e : Env) (k : FeederId) (snap : Snapshot) (p : Plant) : Plant :=
  let p := match (p.feeder k).state with
    | .lineTest _ => p.openTcUnlessOpen e k
    | _ => p
  p.beginTrip e k snap false (some (.lockedOut .tripOutOfService))

/-- R40 step 4, R93, R94: the discriminator presents a trip. -/
def Plant.discTrip (e : Env) (k : FeederId) (snap : Snapshot) (p : Plant) : Plant :=
  match (p.feeder k).state with
  | .inService => p.tripInService e k snap
  | .tripping => p
  | .unknown | .out | .deadTime _ | .lineTest _ | .closing | .lockedOut => p.tripOutOfService e k snap

/-- R93 for a cause of the sequencer's own, in IN_SERVICE; in other states nothing (R96, R98, R114). -/
def Plant.ownTrip (e : Env) (k : FeederId) (cause : TripCause) (p : Plant) : Plant :=
  match (p.feeder k).state with
  | .inService =>
    let r := p.requestSnapshot e k cause
    r.1.tripInService e k r.2
  | .unknown | .out | .tripping | .deadTime _ | .lineTest _ | .closing | .lockedOut => p

/-- R95: a direct release. -/
def Plant.directRelease (e : Env) (k : FeederId) (p : Plant) : Plant :=
  let r := p.requestSnapshot e k .directRelease
  let p := r.1.recordTrip e k r.2
  p.reactReclosable e k

/-! ### The outcome of a trip's opening (R96, R98) -/

/-- R96: COMPLETED. The state changes first, and then the departure is presented (R92). -/
def Plant.trippingCompleted (e : Env) (k : FeederId) (p : Plant) : Plant :=
  let p := match (p.feeder k).exit with
    | some (.lockedOut c) => p.lockOut e k c
    | some .out =>
      let old := (p.feeder k).state
      (p.onFeeder k Sequencer.enterOut).post e (.feeder k) .feederOpened [old.code]
    | none | some .inService | some .deadTime | some .deadTimeDeferred | some .closing => p.reactReclosable e k
  p.leavePending e k

/-- The feeders other than k that are IN_SERVICE, ascending (R98). -/
def Plant.othersInService (k : FeederId) (p : Plant) : List FeederId :=
  FeederId.all.filter (fun j => decide (j ≠ k) && decide ((p.feeder j).state = .inService))

/-- R98: the breaker-failure backup. -/
def Plant.breakerFailure (e : Env) (k : FeederId) (p : Plant) : Plant :=
  let others := p.othersInService k
  let p := p.post e (.feeder k) .breakerFailure [k.number, others.length]
  let p := p.openCommand e .breakerFailure .acb
  let p := p.rectTrip e .breakerFailure k.number
  let p := p.lockOut e k .breakerFailure
  let p := p.leavePending e k
  others.foldl (fun p j => p.ownTrip e j .backup) p

/-! ### Closing (5.7) -/

/-- R107: the outcome of the close command of FBk. -/
def Plant.fbCloseOutcome (e : Env) (k : FeederId) (o : CommandOutcome) (p : Plant) : Plant :=
  match (p.feeder k).state, o with
  | .closing, .completed =>
    let old := p.feeder k
    (p.onFeeder k (Sequencer.enterInService e)).post e (.feeder k) .feederClosed
      [if old.manual then 1 else 0, old.attempts]
  | .closing, .failed | .closing, .wrongState => p.lockOut e k .closeFail
  | _, _ => p

/-- R107: entry into CLOSING. -/
def Plant.enterClosing (e : Env) (k : FeederId) (p : Plant) : Plant :=
  let p := p.onFeeder k (fun f => { f.stopTimers with state := .closing, exit := none, deferral := none })
  if (p.item (.fb k)).state = .opened ∧ (p.item (.tc k)).state = .opened then
    let r := p.closeCommand e (.sequencer k) (.fb k)
    match r.2 with
    | none => r.1
    | some o => r.1.fbCloseOutcome e k o
  else p.lockOut e k .testEquipment

/-- R108: a closing is abandoned. A LOCKED_OUT target is not replaced by OUT. -/
def Plant.abandonClosing (e : Env) (k : FeederId) (target : ExitTarget) (p : Plant) : Plant :=
  let p := p.openCommand e (.sequencer k) (.fb k)
  p.onFeeder k (fun f =>
    { f with exit :=
        match f.exit, target with
        | some (.lockedOut c), .out => some (.lockedOut c)
        | _, t => some t })

/-! ### The line test (5.6) -/

/-- R104: the line resistance in tenths of an ohm. -/
def lineResistance (rt : Nat) (vl vb : Int) : Nat :=
  if vb ≤ vl then 65535 else (min 65535 (floorDiv (rt * vl) (vb - vl))).toNat

/-- R105, R106: the feeder goes to its exit target. After a settle abort the deferral starts here, when TCk has completed
its opening, and not at the event that aborts the settle (R100, R103; log 42, DESIGN CHOICE, unsafe). -/
def Plant.takeTarget (e : Env) (k : FeederId) (t : ExitTarget) (p : Plant) : Plant :=
  match t with
  | .closing => p.enterClosing e k
  | .deadTime => p.enterDeadTime e k
  | .deadTimeDeferred => p.defer e k
  | .out => p.onFeeder k Sequencer.enterOut
  | .lockedOut c => p.lockOut e k c
  | .inService => p

/-- R103, R105, R110, R113: TCk is commanded open, and the phase becomes TC_OPENING with an exit target. -/
def Plant.beginTcOpening (e : Env) (k : FeederId) (t : ExitTarget) (p : Plant) : Plant :=
  (p.openTc e k).onFeeder k (fun f => { f.stopTimers with state := .lineTest .tcOpening, exit := some t })

/-- R105: the exit target and the attempts used after a result. -/
def testTarget (manual : Bool) (result : TestResult) (used allowed : Nat) : ExitTarget × Nat :=
  let passed := decide (result = .pass) || decide (result = .passLive)
  if manual then (if passed then .closing else .out, used)
  else if allowed ≤ used then (.lockedOut .attemptsExhausted, used)
  else if passed then (.closing, used + 1)
  else if used + 1 = allowed then (.lockedOut .lineTestFail, used + 1)
  else (.deadTime, used + 1)

/-- R105: a line test reaches a result. -/
def Plant.lineTestResult (e : Env) (k : FeederId) (result : TestResult) (rline : Nat) (vl vb : Int) (p : Plant) :
    Plant :=
  let old := p.feeder k
  let choice := testTarget old.manual result old.attempts (e.store.values k).attempts
  let p := p.onFeeder k (fun f =>
    { f with lastTest := ⟨result, some rline, some vl, some vb, some e.time.stamp, f.manual⟩ })
  let p := p.post e (.feeder k) .lineTestResult [rline, vl, vb]
  let p := p.onFeeder k (fun f => { f with attempts := choice.2 })
  if result = .passLive then p.takeTarget e k choice.1 else p.beginTcOpening e k choice.1

/-- R101, R103: the last line test of a test that ends for lack of busbar. -/
def Plant.recordNoBusbar (e : Env) (k : FeederId) (p : Plant) : Plant :=
  p.onFeeder k (fun f =>
    { f with lastTest :=
        ⟨.noBusbar, none, some (e.front.mean20 (.lineVoltage k)), some (e.front.mean20 .vbus), some e.time.stamp,
          f.manual⟩ })

/-- R102: the outcome of the TC close command. -/
def Plant.tcCloseOutcome (e : Env) (k : FeederId) (o : CommandOutcome) (p : Plant) : Plant :=
  match (p.feeder k).state, o with
  | .lineTest .tcClosing, .completed =>
    p.onFeeder k (fun f =>
      { f with state := .lineTest .settling, settleTimer := some (e.time.after (e.store.values k).ts) })
  | .lineTest .tcClosing, .failed | .lineTest .tcClosing, .wrongState => p.lockOut e k .testEquipment
  | _, _ => p

/-- R101: entry into LINE_TEST. -/
def Plant.enterLineTest (e : Env) (k : FeederId) (p : Plant) : Plant :=
  let v := e.store.values k
  let vl := e.front.mean20 (.lineVoltage k)
  let vb := e.front.mean20 .vbus
  let p := p.onFeeder k (fun f => { f.stopTimers with state := .lineTest .tcClosing, exit := none })
  if (v.vlive : Int) ≤ vl then p.lineTestResult e k .passLive 65535 vl vb
  else if vb < (v.vtest : Int) then
    let p := p.recordNoBusbar e k
    if (p.feeder k).manual then p.onFeeder k Sequencer.enterOut else p.defer e k
  else
    let r := p.closeCommand e (.sequencer k) (.tc k)
    match r.2 with
    | none => r.1
    | some o => r.1.tcCloseOutcome e k o

/-- R103: the busbar watch of the settle, at a millisecond event. -/
def Plant.settleWatch (e : Env) (k : FeederId) (p : Plant) : Plant :=
  match (p.feeder k).state with
  | .lineTest .settling =>
    if e.front.mean20 .vbus < ((e.store.values k).vtest : Int) then
      let p := p.recordNoBusbar e k
      p.beginTcOpening e k (if (p.feeder k).manual then .out else .deadTimeDeferred)
    else p
  | _ => p

/-- R104: the settle timer expires. -/
def Plant.settleExpires (e : Env) (k : FeederId) (p : Plant) : Plant :=
  match (p.feeder k).state with
  | .lineTest .settling =>
    let v := e.store.values k
    let vl := e.front.mean20 (.lineVoltage k)
    let vb := e.front.mean20 .vbus
    let rline := lineResistance v.rt vl vb
    p.lineTestResult e k (if v.rmin ≤ rline then .pass else .fail) rline vl vb
  | _ => p

/-- R106: the outcome of the TC open command. -/
def Plant.tcOpenOutcome (e : Env) (k : FeederId) (o : CommandOutcome) (p : Plant) : Plant :=
  match (p.feeder k).state, (p.feeder k).exit, o with
  | .lineTest .tcOpening, some t, .completed => p.takeTarget e k t
  | .lineTest .tcOpening, some (.lockedOut c), .failed => p.lockOut e k c
  | .lineTest .tcOpening, _, .failed => p.lockOut e k .testEquipment
  | _, _, _ => p

/-! ### Dead time (5.5) -/

/-- R99: the reclose check. -/
def Plant.recloseCheck (e : Env) (k : FeederId) (p : Plant) : Plant :=
  let v := e.store.values k
  if v.attempts ≤ (p.feeder k).attempts then p.lockOut e k .attemptsExhausted
  else if (v.ireclose : Int) * v.ireclose ≤ (p.disc k).theta then p.defer e k
  else if (p.item (.fb k)).state ≠ .opened ∨ (p.item (.tc k)).state ≠ .opened then p.defer e k
  else p.enterLineTest e k

/-- R99: the dead-time or recheck timer expires. -/
def Plant.deadTimeExpires (e : Env) (k : FeederId) (p : Plant) : Plant :=
  match (p.feeder k).state with
  | .deadTime _ => p.recloseCheck e k
  | _ => p

/-- R97: the service timer expires. -/
def Sequencer.serviceExpires (f : Sequencer) : Sequencer := { f with attempts := 0, serviceTimer := none }

/-- R69: attempts used never exceeds the Attempts now presented. -/
def Plant.cutAttempts (e : Env) (k : FeederId) (p : Plant) : Plant :=
  p.onFeeder k (fun f => { f with attempts := min f.attempts (e.store.values k).attempts })

/-! ### Outcomes and reports from the supervisor -/

/-- The outcome of the open command of FBk (R96, R98, R108, R110, R111). -/
def Plant.fbOpenOutcome (e : Env) (k : FeederId) (o : CommandOutcome) (p : Plant) : Plant :=
  let old := (p.feeder k).state
  match old, (p.feeder k).exit, o with
  | .tripping, _, .completed => p.trippingCompleted e k
  | .tripping, _, .failed => p.breakerFailure e k
  | .inService, some .out, .completed =>
    (p.onFeeder k Sequencer.enterOut).post e (.feeder k) .feederOpened [old.code]
  | .inService, some .out, .failed => p.onFeeder k (fun f => { f with exit := none })
  | .closing, some .out, .completed =>
    (p.onFeeder k Sequencer.enterOut).post e (.feeder k) .feederOpened [old.code]
  | .closing, some (.lockedOut c), .completed => p.lockOut e k c
  | .closing, some _, .failed => p.lockOut e k .breakerFailure
  | .lockedOut, _, .failed => p.onFeeder k (fun f => { f with lockout := some .breakerFailure })
  | _, _, _ => p

/-- The outcome of a command that sequencer k sent. -/
def Plant.seqOutcome (e : Env) (k : FeederId) (i : ItemId) (d : Direction) (o : CommandOutcome) (p : Plant) : Plant :=
  match i, d with
  | .fb _, .opening => p.fbOpenOutcome e k o
  | .fb _, .closing => p.fbCloseOutcome e k o
  | .tc _, .opening => p.tcOpenOutcome e k o
  | .tc _, .closing => p.tcCloseOutcome e k o
  | .re, _ | .acb, _ => p

/-- R111: a breaker closed at its cabinet is taken into service. -/
def Plant.closedLocally (e : Env) (k : FeederId) (p : Plant) : Plant :=
  let old := (p.feeder k).state
  let p := match old with
    | .lineTest _ => p.openTcUnlessOpen e k
    | _ => p
  (p.onFeeder k (Sequencer.enterInService e)).post e (.feeder k) .feederClosedLocal [old.code]

/-- R91, R95, R111: a report of FBk. -/
def Plant.fbReport (e : Env) (k : FeederId) (new : ItemState) (reason : ReportReason) (p : Plant) : Plant :=
  match (p.feeder k).state, new, reason with
  | .unknown, .closed, .initial | .unknown, .closed, .resensed => p.onFeeder k (Sequencer.enterInService e)
  | .unknown, .opened, .initial | .unknown, .opened, .resensed => p.onFeeder k Sequencer.enterOut
  | .inService, .opened, .discrepancy | .inService, .opened, .late => p.directRelease e k
  | .out, .closed, .discrepancy => p.closedLocally e k
  | .lockedOut, .closed, .discrepancy => p.closedLocally e k
  | .deadTime _, .closed, .discrepancy => p.closedLocally e k
  | .lineTest _, .closed, .discrepancy => p.closedLocally e k
  | .lockedOut, .closed, .late => p.openCommand e (.sequencer k) (.fb k)
  | _, _, _ => p

/-- Whether a report says that the contactor left a state without a command of the sequencer (R103, R107). -/
def leavesUncommanded (left old new : ItemState) (reason : ReportReason) : Bool :=
  decide (old = left) && decide (new ≠ left)
    && (decide (reason = .discrepancy) || decide (reason = .unsensed) || decide (reason = .supervision))

/-- R103, R107: a report of TCk. -/
def Plant.tcReport (e : Env) (k : FeederId) (old new : ItemState) (reason : ReportReason) (p : Plant) : Plant :=
  match (p.feeder k).state with
  | .lineTest .tcClosing | .lineTest .settling =>
    if leavesUncommanded .closed old new reason then p.beginTcOpening e k (.lockedOut .testEquipment) else p
  | .closing =>
    if leavesUncommanded .opened old new reason then p.abandonClosing e k (.lockedOut .testEquipment) else p
  | _ => p

/-! ### Station-wide orders (5.9) -/

/-- R113: the declaration of a frame fault at one sequencer. -/
def Plant.frameFaultAt (e : Env) (k : FeederId) (p : Plant) : Plant :=
  let target : ExitTarget := .lockedOut .frameFault
  match (p.feeder k).state with
  | .unknown | .out | .lockedOut => p
  | .inService => p.ownTrip e k .frameFault
  | .tripping => p.onFeeder k (fun f => { f with reclose := some false, exit := some target })
  | .deadTime _ => p.lockOut e k .frameFault
  | .lineTest .tcClosing | .lineTest .settling => p.beginTcOpening e k target
  | .lineTest .tcOpening => p.onFeeder k (fun f => { f with exit := some target })
  | .closing => p.abandonClosing e k target

/-- R113: the declaration is presented to the six sequencers in ascending feeder number. -/
def Plant.frameFaultOrder (e : Env) (p : Plant) : Plant :=
  FeederId.all.foldl (fun p k => p.frameFaultAt e k) p

/-- R114: the substitute order is presented to the six sequencers in ascending feeder number. -/
def Plant.substituteOrder (e : Env) (p : Plant) : Plant :=
  FeederId.all.foldl (fun p k => p.ownTrip e k .railSubstitute) p

end Sys2Proof.Machine
end

