-- ==== Sys2Proof/Machine/Store.lean ====
section
/-! DEFINITION. The settings store and binding unit (03): bindings, the completions of writes, the background scan and
erase. -/

namespace Sys2Proof.Machine

/-! ### Bindings (3.8) -/

/-- R64: the binding that a map entry gives for a feed state. -/
def Store.bindingFor (st : Store) (f : FeedState) (entry : Option SetId) : Binding :=
  match entry with
  | none => ⟨f, none, .mapNone⟩
  | some n =>
    match (st.sets[n]).presents with
    | .empty => ⟨f, none, .setEmpty⟩
    | .invalid => ⟨f, none, .setInvalid⟩
    | .valid => ⟨f, some n, .none⟩

/-- R64: the map entry of a feeder for its present feed state. -/
def Store.entryOf (st : Store) (k : FeederId) : Option SetId := (st.map.get k).get (st.feed.get k)

/-- R64: the binding of a feeder as it is resolved now. -/
def Store.resolved (st : Store) (k : FeederId) : Binding := st.bindingFor (st.feed.get k) (st.entryOf k)

/-- R67: one fewer feeder names the set. -/
def releaseUse (old : Option SetId) (counts : Vector Nat 16) : Vector Nat 16 :=
  match old with
  | none => counts
  | some n => counts.set n (counts[n] - 1)

/-- R67: one more feeder names the set. -/
def takeUse (new : Option SetId) (counts : Vector Nat 16) : Vector Nat 16 :=
  match new with
  | none => counts
  | some n => counts.set n (counts[n] + 1)

/-- R65 steps 1 and 2: the binding is replaced and the in-use counts adjusted. -/
def Store.replaceBinding (k : FeederId) (new : Binding) (st : Store) : Store :=
  { st with
    binding := st.binding.set k new
    inUse := takeUse new.set (releaseUse (st.binding.get k).set st.inUse) }

/-- R65 step 3, R66: the entry of a resolution. -/
def Plant.postBinding (e : Env) (k : FeederId) (b : Binding) (p : Plant) : Plant :=
  p.post e (.feeder k) (if b.faultLive then .bindingFault else .bindingChanged)
    [b.feed.code, bindingCode b.set, b.fault.code]

/-- R65, R69: the binding of a feeder is resolved. -/
def State.resolve (k : FeederId) (s : State) : State :=
  let old := s.store.binding.get k
  let new := s.store.resolved k
  if old = new then s
  else
    State.onPlant { s with store := s.store.replaceBinding k new }
      (fun e p =>
        ((p.postBinding e k new).latchIfNew e (.bindingFault k) old.faultLive new.faultLive).cutAttempts e k)

/-- R65: the feeders whose map entry for the present feed state names a set, ascending. -/
def Store.feedersNaming (st : Store) (n : SetId) : List FeederId :=
  FeederId.all.filter (fun k => decide (st.entryOf k = some n))

/-- R65: every feeder that names a set is resolved, ascending. -/
def State.resolveNaming (n : SetId) (s : State) : State :=
  (s.store.feedersNaming n).foldl (fun s k => s.resolve k) s

/-- R69: the feeders whose binding names a set keep their attempts used within its Attempts. -/
def State.cutNaming (n : SetId) (s : State) : State :=
  s.onPlant (fun e p =>
    FeederId.all.foldl (fun p k => if (e.store.binding.get k).set = some n then p.cutAttempts e k else p) p)

/-- R48, R180: SETTINGS_INVALID after a change of record state; `before` is the condition before it. -/
def State.settingsCondition (before : Bool) (s : State) : State :=
  s.onPlant (fun e p => p.latchIfNew e .settingsInvalid before e.store.settingsInvalid)

/-! ### Records -/

def Store.setRecord (n : SetId) (r : StoredRecord SetFields) (st : Store) : Store :=
  { st with sets := st.sets.set n r }

/-- R58: a RECORD_INVALID entry. -/
def State.postRecordInvalid (record reason entry : Nat) (s : State) : State :=
  s.onPlant (fun e p => p.post e .store .recordInvalid [record, reason, entry])

/-- R61: a change of what the station record presents reaches the phase tracker and the rectifier controller; the
other users read it at their next use. -/
def State.presentStation (s : State) : State :=
  s.onPlant (fun e p =>
    let p := p.supplySettings e
    match e.store.stationFields with
    | some f => p.rectNewSettings f
    | none => p.rectSettingsLost e)

/-! ### Completions (R53, R54, R59, R62) -/

/-- The tick at which the programming timer expires. -/
def Store.writeExpiry (st : Store) : Option Nat := st.write.map WriteInProgress.expires

/-- R53, R54: the completion of a Write Set. -/
def State.completeSet (n : SetId) (fields readBack : SetFields) (s : State) : State :=
  let before := s.store.settingsInvalid
  let passes := decide (readBack = fields) && checkWordRule readBack.toList
  let s := { s with
    store := { s.store.setRecord n ⟨if passes then .valid else .invalid, some readBack⟩ with write := none } }
  if passes then
    let s := s.onPlant (fun e p => p.post e .store .setWritten [n.val, readBack.check.toNat])
    let s := (s.resolveNaming n).cutNaming n
    (s.settingsCondition before).reply (okReply (leBytes 1 n.val))
  else
    let s := s.postRecordInvalid n.val 3 0
    let s := s.resolveNaming n
    (s.settingsCondition before).reply (Status.storeFail.code :: leBytes 1 n.val)

/-- R59, R61: the completion of a Write Station Record. -/
def State.completeStation (fields readBack : StationFields) (s : State) : State :=
  let before := s.store.settingsInvalid
  let passes := decide (readBack = fields) && checkWordRule readBack.toList
  let s := { s with
    store := { s.store with station := ⟨if passes then .valid else .invalid, some readBack⟩, write := none } }
  if passes then
    let s := s.onPlant (fun e p => p.post e .store .setWritten [16, readBack.check.toNat])
    ((s.settingsCondition before).presentStation).reply (okReply [])
  else
    let s := s.postRecordInvalid 16 3 0
    ((s.settingsCondition before).presentStation).reply (refusal .storeFail)

/-- The store with one map entry changed. -/
def Store.setEntry (k : FeederId) (f : FeedState) (x : Option SetId) (st : Store) : Store :=
  { st with map := st.map.set k ((st.map.get k).set f x) }

/-- R62: the completion of a Write Map Entry. -/
def State.completeEntry (k : FeederId) (f : FeedState) (value readBack : Option SetId) (s : State) : State :=
  let old := (s.store.map.get k).get f
  if readBack = value then
    let s := { s with store := { s.store.setEntry k f value with write := none } }
    let s := s.onPlant (fun e p =>
      p.post e .store .mapWritten [entryNumber k f, mapValueCode old, mapValueCode value])
    (s.resolve k).reply (okReply (leBytes 1 (entryNumber k f) ++ leBytes 1 (mapValueCode value)))
  else
    let s := { s with store := { s.store.setEntry k f none with write := none } }
    ((s.postRecordInvalid 17 3 (entryNumber k f)).resolve k).reply (refusal .storeFail)

/-- SET_WRITE_COMPLETION (R53, R54); `readBack` is what the read-back finds (log 11). -/
def execSetWriteCompletion (readBack : SetFields) (s : State) : Host.Outcome State Fault Refusal :=
  .next (match s.store.write with
    | some ⟨.set n fields, x⟩ => s.atExpiry (some x) (fun s => s.completeSet n fields readBack)
    | some ⟨.station _, _⟩ | some ⟨.mapEntry _ _ _, _⟩ | none => s)

/-- STATION_RECORD_WRITE_COMPLETION (R59). -/
def execStationRecordWriteCompletion (readBack : StationFields) (s : State) : Host.Outcome State Fault Refusal :=
  .next (match s.store.write with
    | some ⟨.station fields, x⟩ => s.atExpiry (some x) (fun s => s.completeStation fields readBack)
    | some ⟨.set _ _, _⟩ | some ⟨.mapEntry _ _ _, _⟩ | none => s)

/-- MAP_ENTRY_WRITE_COMPLETION (R62). -/
def execMapEntryWriteCompletion (readBack : Option SetId) (s : State) : Host.Outcome State Fault Refusal :=
  .next (match s.store.write with
    | some ⟨.mapEntry k f value, x⟩ => s.atExpiry (some x) (fun s => s.completeEntry k f value readBack)
    | some ⟨.set _ _, _⟩ | some ⟨.station _, _⟩ | none => s)

/-! ### The background scan (R57) -/

/-- The contents of a set as the visit finds them: as stored, unless the operand says what they have become. -/
def foundSet (n : SetId) (found : Option FoundRecord) (stored : SetFields) : SetFields :=
  match found with
  | some (.set m fields) => if m = n then fields else stored
  | some (.station _) | none => stored

/-- The contents of the station record as the visit finds them. -/
def foundStation (found : Option FoundRecord) (stored : StationFields) : StationFields :=
  match found with
  | some (.station fields) => fields
  | some (.set _ _) | none => stored

/-- R57: the visit to a set. Contents that meet the rule change nothing (log 26). -/
def State.visitSet (n : SetId) (found : Option FoundRecord) (s : State) : State :=
  match s.store.sets[n] with
  | ⟨.valid, some stored⟩ =>
    let now := foundSet n found stored
    if checkWordRule now.toList then s
    else
      let before := s.store.settingsInvalid
      let s := { s with store := s.store.setRecord n ⟨.invalid, some now⟩ }
      ((s.postRecordInvalid n.val 2 0).settingsCondition before).resolveNaming n
  | _ => s

/-- R57, R61: the visit to the station record. -/
def State.visitStation (found : Option FoundRecord) (s : State) : State :=
  match s.store.station with
  | ⟨.valid, some stored⟩ =>
    let now := foundStation found stored
    if checkWordRule now.toList then s
    else
      let before := s.store.settingsInvalid
      let s := { s with store := { s.store with station := ⟨.invalid, some now⟩ } }
      ((s.postRecordInvalid 16 2 0).settingsCondition before).presentStation
  | _ => s

/-- R57: the visit to the record at the scan position. -/
def State.visit (found : Option FoundRecord) (s : State) : State :=
  if h : s.store.scan.val < 16 then s.visitSet ⟨s.store.scan.val, h⟩ found else s.visitStation found

/-- R57: the scan position advances and the next visit is due 10 ms after this one. -/
def Store.nextVisit (st : Store) : Store := { st with scan := st.scan + 1, scanDue := st.scanDue + 80 }

/-- SCAN_VISIT (R57). -/
def execScanVisit (found : Option FoundRecord) (s : State) : Host.Outcome State Fault Refusal :=
  .next (s.atExpiry (some s.store.scanDue)
    (fun s => let s := s.visit found; { s with store := s.store.nextVisit }))

end Sys2Proof.Machine
end

