-- ==== Sys2Proof/Machine/SettingsRequests.lean ====
section
/-! DEFINITION. The settings requests (03, 11.4). -/

namespace Sys2Proof.Machine

/-- R52: a record enters PROGRAMMING and keeps what it presented. -/
def StoredRecord.program {α : Type} (r : StoredRecord α) : StoredRecord α := { r with state := .programming r.presents }

/-! ### Setting sets (R50, R52, R56, R70) -/

/-- R52: a Write Set is taken. No reply is formed yet. -/
def takeSetWrite (n : SetId) (fields : SetFields) (s : State) : Served :=
  ({ s with
     store :=
      { s.store.setRecord n (s.store.sets[n]).program with
        write := some ⟨.set n fields, s.time.after 20⟩ } }, none)

/-- R50: the checks of a Write Set in their order. -/
def serveWriteSet (number : Byte) (fields : SetFields) (s : State) : Served :=
  needsKey (fun s =>
    match setOfByte number with
    | none => answered (badPosition 0) s
    | some n =>
      match fields.firstFailing with
      | some position => answered (badPosition position) s
      | none => takeSetWrite n fields s) s

/-- WRITE_SET (R50, R52). -/
def execWriteSet (head : RequestHead) (number : Byte) (fields : SetFields) (s : State) :
    Host.Outcome State Fault Refusal :=
  .next (s.request head .writeSet (number :: fields.block) (serveWriteSet number fields))

/-- R209: whether a reply carries the stored fields. That a record EMPTY or PROGRAMMING is sent without the field block,
and not with an absent one, is the model's reading (log 59, DEDUCED). -/
def RecordState.showsFields : RecordState → Bool
  | .valid | .invalid => true
  | .empty | .programming _ => false

/-- R70, R209. -/
def replyReadSet (n : SetId) (s : State) : List Byte :=
  let r := s.store.sets[n]
  okReply (leBytes 1 n.val ++ leBytes 1 r.state.code ++ leBytes 1 s.store.inUse[n]
    ++ (match r.stored with
        | some f => if r.state.showsFields then f.block else []
        | none => []))

def serveReadSet (number : Byte) (s : State) : Served :=
  match setOfByte number with
  | none => answered (refusal .badValue) s
  | some n => answered (replyReadSet n s) s

/-- READ_SET (R70). -/
def execReadSet (head : RequestHead) (number : Byte) (s : State) : Host.Outcome State Fault Refusal :=
  .next (s.request head .readSet [number] (serveReadSet number))

/-- R56: the erase takes effect. -/
def State.eraseSet (n : SetId) (s : State) : State :=
  let before := s.store.settingsInvalid
  let old := (s.store.sets[n]).state
  let s := { s with store := s.store.setRecord n ⟨.empty, none⟩ }
  let s := s.onPlant (fun e p => p.post e .store .setErased [n.val, old.code])
  (s.settingsCondition before).resolveNaming n

def serveEraseSet (number : Byte) (s : State) : Served :=
  needsKey (fun s =>
    match setOfByte number with
    | none => answered (refusal .badValue) s
    | some n =>
      if 0 < s.store.inUse[n] then answered (refusal .inUse) s
      else (s.eraseSet n, some (okReply (leBytes 1 n.val)))) s

/-- ERASE_SET (R56). -/
def execEraseSet (head : RequestHead) (number : Byte) (s : State) : Host.Outcome State Fault Refusal :=
  .next (s.request head .eraseSet [number] (serveEraseSet number))

/-! ### The map and the feed states (R62, R63, R70) -/

/-- R62: a Write Map Entry is taken. No reply is formed yet. -/
def takeMapWrite (k : FeederId) (f : FeedState) (value : Option SetId) (s : State) : Served :=
  ({ s with store := { s.store with write := some ⟨.mapEntry k f value, s.time.after 5⟩ } }, none)

/-- R62: the checks of a Write Map Entry in their order. -/
def serveWriteMapEntry (feeder feedState value : Byte) (s : State) : Served :=
  needsKey (withFeeder feeder (fun k s =>
    match FeedState.ofCode feedState.toNat with
    | none => answered (refusal .badValue) s
    | some f =>
      match mapValueOfByte value with
      | none => answered (refusal .badValue) s
      | some v => takeMapWrite k f v s)) s

/-- WRITE_MAP_ENTRY (R62). -/
def execWriteMapEntry (head : RequestHead) (feeder feedState value : Byte) (s : State) :
    Host.Outcome State Fault Refusal :=
  .next (s.request head .writeMapEntry [feeder, feedState, value] (serveWriteMapEntry feeder feedState value))

/-- One row of the map, in the order of the feed-state codes. -/
def MapRow.fields (m : MapRow) : List Byte :=
  leBytes 1 (mapValueCode m.double) ++ leBytes 1 (mapValueCode m.single) ++ leBytes 1 (mapValueCode m.extended)
    ++ leBytes 1 (mapValueCode m.unknown)

/-- R209: a binding as feed-state code, set number or 16, and fault cause. -/
def Binding.fields (b : Binding) : List Byte :=
  leBytes 1 b.feed.code ++ leBytes 1 (bindingCode b.set) ++ leBytes 1 b.fault.code

/-- R70, R209. R209 does not say in which order the six feeders stand; feeder 1 comes first (log 58, DEDUCED, unsafe). -/
def replyReadMap (s : State) : List Byte :=
  okReply ((s.store.map.toList.map MapRow.fields).flatten
    ++ (s.store.feed.toList.map (fun f => leBytes 1 f.code)).flatten
    ++ (s.store.binding.toList.map Binding.fields).flatten)

def serveReadMap (s : State) : Served := answered (replyReadMap s) s

/-- READ_MAP (R70). -/
def execReadMap (head : RequestHead) (s : State) : Host.Outcome State Fault Refusal :=
  .next (s.request head .readMap [] serveReadMap)

/-- R63: the feed state that a code gives; codes above 3 are taken as UNKNOWN. -/
def feedStateOfByte (b : Byte) : FeedState := (FeedState.ofCode b.toNat).getD .unknown

/-- R63: a feed state is applied. -/
def State.applyFeedState (k : FeederId) (f : FeedState) (s : State) : State :=
  let old := s.store.feed.get k
  if old = f then s
  else
    let s := { s with store := { s.store with feed := s.store.feed.set k f } }
    (s.onPlant (fun e p => p.post e (.feeder k) .feedState [old.code, f.code])).resolve k

def serveSetFeedState (feeder feedState : Byte) (s : State) : Served :=
  withFeeder feeder (fun k s =>
    (s.applyFeedState k (feedStateOfByte feedState),
      some (okReply (leBytes 1 k.number ++ leBytes 1 (feedStateOfByte feedState).code)))) s

/-- SET_FEED_STATE (R63). -/
def execSetFeedState (head : RequestHead) (feeder feedState : Byte) (s : State) :
    Host.Outcome State Fault Refusal :=
  .next (s.request head .setFeedState [feeder, feedState] (serveSetFeedState feeder feedState))

/-! ### The station record (R59, R60) -/

/-- R52, R59: a Write Station Record is taken. No reply is formed yet. -/
def takeStationWrite (fields : StationFields) (s : State) : Served :=
  ({ s with
     store :=
      { s.store with
        station := s.store.station.program
        write := some ⟨.station fields, s.time.after 30⟩ } }, none)

/-- R59: the checks of a Write Station Record in their order. -/
def serveWriteStationRecord (fields : StationFields) (s : State) : Served :=
  needsKey (fun s =>
    match fields.firstFailing with
    | some position => answered (badPosition position) s
    | none => takeStationWrite fields s) s

/-- WRITE_STATION_RECORD (R59). -/
def execWriteStationRecord (head : RequestHead) (fields : StationFields) (s : State) :
    Host.Outcome State Fault Refusal :=
  .next (s.request head .writeStationRecord fields.block (serveWriteStationRecord fields))

/-- R60, R209. -/
def replyReadStationRecord (s : State) : List Byte :=
  let r := s.store.station
  okReply (leBytes 1 r.state.code
    ++ (match r.stored with
        | some f => if r.state.showsFields then f.block else []
        | none => []))

def serveReadStationRecord (s : State) : Served := answered (replyReadStationRecord s) s

/-- READ_STATION_RECORD (R60). -/
def execReadStationRecord (head : RequestHead) (s : State) : Host.Outcome State Fault Refusal :=
  .next (s.request head .readStationRecord [] serveReadStationRecord)

end Sys2Proof.Machine
end

