-- ==== Sys2Proof/Machine/Rail.lean ====
section
/-! DEFINITION. The rail potential monitor (07). -/

namespace Sys2Proof.Machine

/-! ### Levels (R145) -/

/-- The ten levels in use. -/
structure RailLevels where
  u1 : Nat
  t1 : Nat
  u2 : Nat
  u3 : Nat
  th : Nat
  nrep : Nat
  w : Nat
  ireopen : Nat
  iframe : Nat
  tf : Nat
deriving DecidableEq, Repr

/-- R145's backstop column. -/
def RailLevels.backstop : RailLevels := ⟨120, 1000, 250, 600, 10, 3, 10, 50, 1500, 50⟩

/-- R145: the station record's levels, or the backstop's while it presents nothing. -/
def Env.railLevels (e : Env) : RailLevels :=
  match e.store.stationFields with
  | some f =>
    ⟨f.u1.toNat, f.t1.toNat, f.u2.toNat, f.u3.toNat, f.th.toNat, f.nrep.toNat, f.w.toNat, f.ireopen.toNat,
      f.iframe.toNat, f.tf.toNat⟩
  | none => .backstop

/-- 7.1: RL2 holds. -/
def RailMonitor.rl2Holds (r : RailMonitor) : Bool := decide (8 ≤ r.rl2)
/-- 7.1: RL3 holds. -/
def RailMonitor.rl3Holds (r : RailMonitor) : Bool := decide (8 ≤ r.rl3)

def Plant.onRail (g : RailMonitor → RailMonitor) (p : Plant) : Plant := { p with rail := g p.rail }

/-! ### Entries into states -/

/-- R151: every entry into WATCHING sets the watch peak to 0. -/
def RailMonitor.enterWatching (r : RailMonitor) : RailMonitor :=
  { r with state := .watching, watchPeak := 0, watchBelow := false, holdTimer := none }

/-- HOLDING, with the hold timer at Th (R148, R151). -/
def RailMonitor.enterHolding (e : Env) (r : RailMonitor) : RailMonitor :=
  { r with state := .holding, holdTimer := some (e.time.after (1000 * e.railLevels.th)) }

/-- R156: the RAIL_OPEN entry of an entry into WATCHING. -/
def Plant.postRailOpen (e : Env) (reason : Nat) (p : Plant) : Plant :=
  p.post e .rail .railOpen [reason, p.rail.closures.length]

/-- R156: the RAIL_CLOSE entry. -/
def Plant.postRailClose (e : Env) (level : Nat) (p : Plant) : Plant :=
  p.post e .rail .railClose [level, if p.rail.watchBelow then 1 else 0, p.rail.watchPeak]

/-- R148 steps 1 to 3: the closure joins the recent-closure list and the entries past the window leave it. -/
def closuresAfter (e : Env) (l : List Closure) : List Closure :=
  let kept := if 8 ≤ l.length then l.drop (l.length - 7) else l
  (kept ++ [(⟨e.time.elapsed, e.time.stamp⟩ : Closure)]).filter
    (fun (c : Closure) => decide (e.time.age c.elapsed ≤ e.railLevels.w * 60000))

/-- R148: a counted closure. -/
def Plant.countedClosure (e : Env) (p : Plant) : Plant :=
  let p := p.onRail (fun r => { r with closures := closuresAfter e r.closures })
  let n := p.rail.closures.length
  if e.railLevels.nrep ≤ n then
    let was := p.rail.permanentLive
    let p := p.onRail (fun r => { r with state := .permanent, holdTimer := none })
    let p := p.latchIfNew e .railPermanent was true
    let p := p.post e .rail .railPermanent [n, e.railLevels.w]
    p.raise e .rail
  else p.onRail (RailMonitor.enterHolding e)

/-! ### Closing and opening RE -/

/-- R147: FAILED or WRONG_STATE of a close: FAILED, with substitute tripping while RL2 holds. -/
def Plant.railCloseFailed (e : Env) (p : Plant) : Plant :=
  let p := if p.rail.rl2Holds then p.substituteOrder e else p
  let p := p.onRail (fun r => { r with state := .failed, holdTimer := none })
  p.raise e .rail

/-- R147, R150: the outcome of a command of the monitor. -/
def Plant.railOutcome (e : Env) (d : Direction) (o : CommandOutcome) (p : Plant) : Plant :=
  match p.rail.state, d, o with
  | .closing, .closing, .completed => p.countedClosure e
  | .closing, .closing, .failed | .closing, .closing, .wrongState => p.railCloseFailed e
  | .opening released, .opening, .completed =>
    let p := p.onRail RailMonitor.enterWatching
    p.postRailOpen e (if released then 1 else 0)
  | .opening _, .opening, .failed =>
    let p := p.onRail (fun r => { r with state := .failed, holdTimer := none })
    p.raise e .rail
  | _, _, _ => p

/-- The monitor commands RE closed and enters CLOSING; an outcome given at once acts within the event (R77, R147). -/
def Plant.commandRailClose (e : Env) (level : Nat) (p : Plant) : Plant :=
  let r := p.closeCommand e .railMonitor .re
  let p := r.1.onRail (fun r => { r with state := .closing })
  let p := p.postRailClose e level
  let p := p.raise e .rail
  match r.2 with
  | none => p
  | some o => p.railOutcome e .closing o

/-- R149, R152: RE is commanded open and the monitor enters OPENING. -/
def Plant.commandRailOpen (e : Env) (released : Bool) (p : Plant) : Plant :=
  let p := p.openCommand e .railMonitor .re
  p.onRail (fun r => { r with state := .opening released, holdTimer := none })

/-- R146: the test of RL2 and RL1 in WATCHING. -/
def Plant.railLevelTest (e : Env) (p : Plant) : Plant :=
  match p.rail.state with
  | .watching =>
    if p.rail.rl2Holds then p.commandRailClose e 2
    else if p.rail.rl1Held then p.commandRailClose e 1
    else p
  | .closing | .holding | .opening _ | .permanent | .failed => p

/-! ### Frame faults (7.4) -/

/-- R154 step 4: an RL3 declaration closes RE if it can be closed. -/
def Plant.closeForFrameFault (e : Env) (p : Plant) : Plant :=
  match p.rail.state with
  | .watching => p.commandRailClose e 3
  | .failed => if (p.item .re).mayStartClosing then p.commandRailClose e 3 else p
  | .closing | .holding | .opening _ | .permanent => p

/-- R154: a frame fault declaration. -/
def Plant.declareFrameFault (e : Env) (cause : FrameCause) (value : Nat) (p : Plant) : Plant :=
  let was := p.rail.frameFault
  let p := p.onRail (fun r => { r with frameFault := true })
  let p := p.latchIfNew e .frameFault was true
  let p := p.onRail (fun r => { r with lastFault := some ⟨cause, value, e.time.stamp⟩ })
  let p := p.post e .rail .frameFault [cause.code, value]
  let p := p.raise e .rail
  let p := match cause with
    | .rl3 => p.closeForFrameFault e
    | .frameCurrent => p
  p.frameFaultOrder e

/-! ### Samples (R144) -/

/-- R144: the RL2 and RL3 runs and the watch peak after a VRE sample. -/
def RailMonitor.sampleRuns (lv : RailLevels) (vre : Int) (r : RailMonitor) : RailMonitor :=
  let v := vre.natAbs
  { r with
    rl2 := if lv.u2 ≤ v ∨ lv.u3 ≤ v then min 8 (r.rl2 + 1) else 0
    rl3 := if lv.u3 ≤ v then min 8 (r.rl3 + 1) else 0
    watchPeak := if r.watchPeak < v then v else r.watchPeak
    watchBelow := if r.watchPeak < v then decide (vre < 0) else r.watchBelow }

/-- R144, R146, R154: a VRE sample. -/
def Plant.railSample (e : Env) (p : Plant) : Plant :=
  let old := p.rail
  let p := p.onRail (RailMonitor.sampleRuns e.railLevels e.front.latest.vre)
  let p :=
    if !old.rl3Holds && p.rail.rl3Holds then p.declareFrameFault e .rl3 e.front.latest.vre.natAbs else p
  p.railLevelTest e

/-! ### Millisecond events (R143, R153) -/

/-- R143, R153: the RL1 run and the frame-current run after a millisecond event, RE being sensed OPEN or not, and
whether RL1 and the frame-current condition hold from this event to the next: each run is compared with its T1 or TF
here and nowhere else. -/
def RailMonitor.meanRuns (lv : RailLevels) (vre ire : Int) (reOpen : Bool) (r : RailMonitor) : RailMonitor :=
  let rl1 := if lv.u1 ≤ vre.natAbs then min 10000 (r.rl1 + 1) else 0
  let frameRun := if reOpen then 0 else if lv.iframe ≤ ire.natAbs then min 200 (r.frameRun + 1) else 0
  { r with
    rl1 := rl1, frameRun := frameRun, rl1Held := decide (lv.t1 ≤ rl1), frameHeld := decide (lv.tf ≤ frameRun) }

/-- R143, R146, R153, R154: the millisecond event at the monitor. The frame-current run declares when it stands at or
above TF and stood below it at the event before. No rule orders the declaration and the close that RL1 or RL2 commands
at one event in WATCHING; the declaration, with the order to the feeders, comes first (log 46, DESIGN CHOICE, unsafe). -/
def Plant.railMean (e : Env) (p : Plant) : Plant :=
  let ire := e.front.mean1 .ire
  let reOpen := decide ((p.item .re).sensed = .opened)
  let old := p.rail
  let p := p.onRail (RailMonitor.meanRuns e.railLevels (e.front.mean1 .vre) ire reOpen)
  let p := if !old.frameHeld && p.rail.frameHeld then p.declareFrameFault e .frameCurrent ire.natAbs else p
  p.railLevelTest e

/-! ### Reports and the hold timer -/

/-- R151: a report of RE that is not an outcome of the monitor's own command. RESENSED acts as INITIAL in WATCHING and
in FAILED. -/
def Plant.railReport (e : Env) (new : ItemState) (reason : ReportReason) (p : Plant) : Plant :=
  match p.rail.state, new, reason with
  | .watching, .closed, .discrepancy =>
    let p := p.postRailClose e 0
    p.onRail (RailMonitor.enterHolding e)
  | .watching, .closed, .initial | .watching, .closed, .resensed => p.onRail (RailMonitor.enterHolding e)
  | .holding, .opened, .discrepancy | .permanent, .opened, .discrepancy =>
    let p := p.onRail RailMonitor.enterWatching
    p.postRailOpen e 2
  | .failed, .closed, .discrepancy | .failed, .closed, .initial | .failed, .closed, .resensed
  | .failed, .closed, .late => p.countedClosure e
  | .failed, .opened, .discrepancy | .failed, .opened, .late =>
    let p := p.onRail RailMonitor.enterWatching
    p.postRailOpen e 3
  | .failed, .opened, .initial | .failed, .opened, .resensed => p.onRail RailMonitor.enterWatching
  | _, _, _ => p

/-- R149: the hold timer expires. -/
def Plant.holdExpires (e : Env) (p : Plant) : Plant :=
  match p.rail.state with
  | .holding =>
    if (e.front.mean20 .ire).natAbs < e.railLevels.ireopen then p.commandRailOpen e false
    else p.onRail (RailMonitor.enterHolding e)
  | _ => p

end Sys2Proof.Machine
end

