-- ==== Sys2Proof/Machine/Supervisor.lean ====
section
/-! DEFINITION. The switchgear supervisor's own events (04): probes and acceptance, the completion and the failure of
operations, the ends of coil pulses, and the supervision opening of a test contactor. -/

namespace Sys2Proof.Machine

/-! ### Who hears of what (R74, R77, R86) -/

/-- The outcome of an operation reaches one waiting commander. The breaker-failure path takes no further action (R98). -/
def Plant.deliver (e : Env) (i : ItemId) (d : Direction) (o : CommandOutcome) (c : Commander) (p : Plant) : Plant :=
  match c with
  | .sequencer k => p.seqOutcome e k i d o
  | .rectifier => p.rectOutcome e d o
  | .railMonitor => p.railOutcome e d o
  | .breakerFailure => p

/-- The outcome reaches every waiting commander of an operation. -/
def Plant.deliverAll (e : Env) (i : ItemId) (op : Operation) (o : CommandOutcome) (p : Plant) : Plant :=
  op.waiting.foldl (fun p c => p.deliver e i op.direction o c) p

/-- R86: the report of a change of item state reaches the item's owner. -/
def Plant.report (e : Env) (i : ItemId) (old new : ItemState) (reason : ReportReason) (p : Plant) : Plant :=
  match i with
  | .fb k => p.fbReport e k new reason
  | .tc k => p.tcReport e k old new reason
  | .re => p.railReport e new reason
  | .acb => p.rectReport e new reason

/-! ### Probes (R72, R73) -/

/-- R72: the result of a probe; none is INDETERMINATE. -/
def probeResult (l : LineLevels) : Option Position :=
  match l.pullDown, l.pullUp with
  | true, true => some .closed
  | false, false => some .opened
  | false, true => some .unsensed
  | true, false => none

/-- R73: the probe history after a probe; an operation under way has now seen a probe end (R78). -/
def Item.probeStep (l : LineLevels) (it : Item) : Item :=
  { it with
    levels := some l
    operation := it.operation.map (fun op => { op with probed := true })
    result := match probeResult l with
      | none => it.result
      | some r => some r
    run := match probeResult l with
      | none => it.run
      | some r => if it.result = some r then min 3 (it.run + 1) else 1 }

/-- R73: the position accepted after a probe, if any. -/
def Item.newPosition (it : Item) : Option Position :=
  match it.result with
  | some r => if it.run = 3 ∧ r ≠ it.sensed then some r else none
  | none => none

/-! ### Acceptance in each item state (R80 to R82) -/

/-- What an acceptance does to the item state. -/
inductive Acceptance
  | noChange
  /-- The item becomes UNSENSED (R75). -/
  | unsensed
  | initial
  | discrepancy
  | completes
  | late
  | resensed
  /-- UNSENSED to a position other than the last firm one (R82). -/
  | moved
deriving DecidableEq, Repr

/-- R80's table. -/
def acceptanceOf (st : ItemState) (firm : Option Position) (r : Position) : Acceptance :=
  match r, st with
  | .unsensed, .unknown | .unsensed, .opened | .unsensed, .closed => .unsensed
  | .unsensed, _ => .noChange
  | .opened, .unknown | .closed, .unknown => .initial
  | .opened, .closed | .closed, .opened => .discrepancy
  | .opened, .opening | .closed, .closing => .completes
  | .opened, .failedOpen | .closed, .failedClose => .late
  | .opened, .unsensed | .closed, .unsensed =>
    match firm with
    | none => .resensed
    | some f => if f = r then .resensed else .moved
  | _, _ => .noChange

/-- The item state that shows a firm position. -/
def stateOfPosition : Position → ItemState
  | .opened => .opened
  | .closed => .closed
  | .unsensed => .unsensed
  | .unknown => .unknown

/-- R73, R80, R78: the item after an acceptance. -/
def Item.accept (a : Acceptance) (r : Position) (it : Item) : Item :=
  let it : Item :=
    { it with
      sensed := r
      firm := if r = .opened ∨ r = .closed then some r else it.firm }
  match a with
  | .noChange => it
  | .completes =>
    { it with state := stateOfPosition r, operation := none, openCoil := none, closeCoil := none }
  | .unsensed | .initial | .discrepancy | .late | .resensed | .moved => { it with state := stateOfPosition r }

/-- R75, R82, R87: the journal entries and alarms of an acceptance; `sensed` and `firm` stood before it (log 25). -/
def Plant.postAcceptance (e : Env) (i : ItemId) (a : Acceptance) (sensed : Position) (firm : Option Position)
    (r : Position) (p : Plant) : Plant :=
  if r = .unsensed then
    let p := p.latch e (.unsensed i)
    let p := p.post e (.item i) .itemUnsensed [sensed.code]
    p.raise e .switchgear
  else
    match a with
    | .initial => p.post e (.item i) .itemPosition [r.code, 0]
    | .late => p.post e (.item i) .itemPosition [r.code, 2]
    | .resensed => p.post e (.item i) .itemPosition [r.code, 3]
    | .discrepancy | .moved =>
      let p := p.latch e (.discrepant i)
      let p := p.post e (.item i) .itemDiscrepant [(firm.getD sensed).code, r.code]
      p.raise e .switchgear
    | .noChange | .completes | .unsensed => p

/-- R82, R86: the reason of the report of an acceptance; none where no report is due. -/
def Acceptance.reason : Acceptance → Option ReportReason
  | .noChange => none
  | .unsensed => some .unsensed
  | .initial => some .initial
  | .discrepancy | .moved => some .discrepancy
  | .completes => some .completed
  | .late => some .late
  | .resensed => some .resensed

/-- R83: a test contactor found CLOSED with its coil off and no operation under way is opened. -/
def Plant.superviseTc (e : Env) (i : ItemId) (p : Plant) : Plant :=
  let it := p.item i
  if ItemId.maintained i ∧ it.state = .closed ∧ it.held = false ∧ it.operation = none then
    (p.setItem i (it.startOpening e i [])).report e i .closed .opening .supervision
  else p

/-- R74 step 3: a feeder breaker's change of sensed position reaches its discriminator. -/
def Plant.presentPosition (e : Env) (i : ItemId) (before now : Position) (p : Plant) : Plant :=
  match i with
  | .fb k => p.presentBreaker e k before now
  | .tc _ | .re | .acb => p

/-- R74: an acceptance and everything handed on within its event. -/
def Plant.accept (e : Env) (i : ItemId) (r : Position) (p : Plant) : Plant :=
  let old := p.item i
  let a := acceptanceOf old.state old.firm r
  let p := p.setItem i (old.accept a r)
  let p := p.postAcceptance e i a old.sensed old.firm r
  let p := p.presentPosition e i old.sensed r
  let p := match a.reason with
    | some reason => p.report e i old.state (stateOfPosition r) reason
    | none => p
  match a, old.operation with
  | .completes, some op => p.deliverAll e i op .completed
  | .initial, _ | .discrepancy, _ | .late, _ | .resensed, _ | .moved, _ => p.superviseTc e i
  | _, _ => p

/-! ### The end of an operation (R78, R79) -/

/-- R78: an operation completes at an event that is no acceptance. -/
def Plant.completeOperation (e : Env) (i : ItemId) (op : Operation) (p : Plant) : Plant :=
  let old := p.item i
  let new := stateOfPosition op.direction.target
  let p := p.setItem i { old with state := new, operation := none, openCoil := none, closeCoil := none }
  let p := p.report e i old.state new .completed
  p.deliverAll e i op .completed

/-- R78: the operation completes if the sensed position is at its target. -/
def Plant.completeIfAtTarget (e : Env) (i : ItemId) (p : Plant) : Plant :=
  match (p.item i).operation with
  | some op => if (p.item i).sensed = op.direction.target then p.completeOperation e i op else p
  | none => p

/-- R79: the item after its operation has failed. -/
def Item.failOperation (op : Operation) (it : Item) : Item :=
  { it with
    state := match op.direction with
      | .opening => .failedOpen
      | .closing => .failedClose
    operation := none
    openCoil := none
    closeCoil := none
    held := false }

/-- R79, R87: an operation fails. The limit time used is that of the running timer (R90). -/
def Plant.failOperation (e : Env) (i : ItemId) (op : Operation) (p : Plant) : Plant :=
  let old := p.item i
  let p := p.setItem i (old.failOperation op)
  let p := p.latchIfNew e (.itemFail i) old.failLive true
  let p := p.post e (.item i) .itemFail [op.direction.code, ((op.limit - op.start) / 8 : Nat)]
  let p := p.raise e .switchgear
  let p := p.report e i old.state (old.failOperation op).state .failed
  p.deliverAll e i op .failed

/-! ### Events -/

/-- R72, R73, R78: the probe of one item ends. R78 asks of a test contactor the first probe that ends after its action
started, and does not say whether one that ends at the very instant of the start is that probe; the model counts it where
the supervisor takes its task later in that instant than the start (log 49, DESIGN CHOICE, unsafe). -/
def Plant.probeEnds (e : Env) (i : ItemId) (l : LineLevels) (p : Plant) : Plant :=
  let old := p.item i
  let first : Bool :=
    ItemId.maintained i && (match old.operation with
      | some op => !op.probed
      | none => false)
  let p := p.setItem i (old.probeStep l)
  match (old.probeStep l).newPosition with
  | some r => p.accept e i r
  | none => if first then p.completeIfAtTarget e i else p

/-- R71: the tick at which the running pulse of an item ends; at most one of its coils is on. -/
def Item.pulseEnd (it : Item) : Option Nat :=
  match it.openCoil with
  | some x => some x
  | none => it.closeCoil

/-- R71, R78: a pulse has run out its length. -/
def Plant.pulseEnds (e : Env) (i : ItemId) (p : Plant) : Plant :=
  let p := p.setItem i { p.item i with openCoil := none, closeCoil := none }
  p.completeIfAtTarget e i

/-- The expiry of an item's limit timer, if an operation is under way. -/
def Item.limitEnd (it : Item) : Option Nat := it.operation.map Operation.limit

/-- R78, R79: the limit timer of an operation expires. -/
def Plant.limitEnds (e : Env) (i : ItemId) (p : Plant) : Plant :=
  match (p.item i).operation with
  | some op =>
    if (p.item i).sensed = op.direction.target then p.completeOperation e i op else p.failOperation e i op
  | none => p

/-- COIL_PULSE_END (R71, R78). -/
def execCoilPulseEnd (i : ItemId) (s : State) : Host.Outcome State Fault Refusal :=
  .next (s.atExpiry (s.plant.item i).pulseEnd (fun s => s.onPlant (fun e p => p.pulseEnds e i)))

/-- LIMIT_TIMER_EXPIRY (R78, R79). -/
def execLimitTimerExpiry (i : ItemId) (s : State) : Host.Outcome State Fault Refusal :=
  .next (s.atExpiry (s.plant.item i).limitEnd (fun s => s.onPlant (fun e p => p.limitEnds e i)))

end Sys2Proof.Machine
end

