-- ==== Sys2Proof/Machine/PlantRequests.lean ====
section
/-! DEFINITION. The requests of the feeders, the switchgear, the rectifier and the rail monitor (11.5). The layouts of
the read replies follow R204 and the order of R44, R117, R88, R142 and R157 (log 21 to 23). -/

namespace Sys2Proof.Machine

/-! ### Read Feeder (R44, R117) -/

/-- R44: the rise function; the fields of RISING are none in IDLE. The five thresholds stand in the order in which 2.1
names them (log 58, DEDUCED, unsafe). -/
def riseFields (d : Discriminator) : List Byte :=
  leBytes 1 (if d.event.isSome then 1 else 0) ++ leBytes 1 d.startRun
    ++ presentOr 2 (d.event.map RiseEvent.ib) ++ noneOr 2 (d.event.map RiseEvent.age)
    ++ noneOr 1 (d.event.map RiseEvent.endCount) ++ noneOr 2 (d.event.map RiseEvent.dfall)
    ++ noneOr 1 (d.event.map RiseEvent.nend) ++ noneOr 2 (d.event.map RiseEvent.deltaI)
    ++ noneOr 2 (d.event.map RiseEvent.tmin) ++ noneOr 2 (d.event.map RiseEvent.tmax)

/-- R44: the discriminator part. R44 names the binding with its feed state and fault cause and gives its parts no order;
the model sends feed state, set and fault cause, as R209 gives them for Read Map (log 48, DEDUCED, unsafe). -/
def discriminatorFields (d : Discriminator) (b : Binding) : List Byte :=
  leBytes 1 d.state.code ++ leBytes 1 d.instant ++ riseFields d ++ leBytes 2 d.blocking ++ leBytes 4 d.theta
    ++ flagByte d.alarm ++ leBytes 2 d.events ++ leBytes 1 d.outcome.code ++ b.fields

/-- R41: the values of a snapshot, where the catalogue fixes no format, in the order of the table of R41 (log 58, DEDUCED,
unsafe). -/
def snapshotFields (x : Snapshot) : List Byte :=
  leBytes 1 x.cause.code ++ x.stamp.fields ++ leBytes 2 x.i ++ leBytes 4 x.d
    ++ presentOr 2 (x.rise.map RiseValues.ib) ++ presentOr 4 (x.rise.map RiseValues.deltaI)
    ++ noneOr 2 (x.rise.map RiseValues.age) ++ leBytes 4 x.theta ++ leBytes 1 (bindingCode x.binding)

/-- An absent structure: its presence flag clear, and its fields 0. -/
def absentFields (width : Nat) : List Byte := 0 :: List.replicate width 0

/-- The last trip snapshot, preceded by a presence flag. -/
def snapshotField (x : Option Snapshot) : List Byte :=
  match x with
  | some x => 1 :: snapshotFields x
  | none => absentFields 30

/-- A timestamp that may be absent. -/
def stampField (x : Option Stamp) : List Byte :=
  match x with
  | some x => 1 :: x.fields
  | none => absentFields 8

/-- R105: the last line test record, its fields in the order in which 5.1 names them (log 58, DEDUCED, unsafe). -/
def lineTestFields (t : LineTest) : List Byte :=
  leBytes 1 t.result.code ++ presentOr 2 (t.rline.map Int.ofNat) ++ noneOr 2 (t.vl.map Int.toNat)
    ++ noneOr 2 (t.vb.map Int.toNat) ++ stampField t.stamp ++ flagByte t.manual

/-- 5.1: the exit target with the lockout cause it carries. -/
def exitFields (x : Option ExitTarget) : List Byte :=
  noneOr 1 (x.map ExitTarget.code) ++ noneOr 1 (match x with
    | some (.lockedOut c) => some c.code
    | _ => none)

/-- The dead-time phase, in DEAD_TIME. -/
def FeederState.deadPhase : FeederState → Option DeadPhase
  | .deadTime x => some x
  | _ => none

/-- The line-test phase, in LINE_TEST. -/
def FeederState.testPhase : FeederState → Option TestPhase
  | .lineTest x => some x
  | _ => none

/-- R117: the sequencer part. R117 gives no range for the deferral time; the model sends it in 4 bytes, so that a
deferral start kept through a local close, which R100 does not clear, is reported modulo 2^32 ms (log 50, DESIGN CHOICE,
unsafe). -/
def sequencerFields (t : TimeBase) (allowed : Nat) (f : Sequencer) : List Byte :=
  leBytes 1 f.state.code ++ exitFields f.exit ++ noneOr 1 (f.reclose.map (fun b => if b then 1 else 0))
    ++ noneOr 1 (f.lastCause.map TripCause.code) ++ snapshotField f.snapshot
    ++ noneOr 1 (f.lockout.map LockoutCause.code) ++ leBytes 1 f.attempts ++ leBytes 1 allowed
    ++ flagByte f.manual
    ++ noneOr 1 (f.state.deadPhase.map DeadPhase.code) ++ noneOr 2 (f.deadTimer.map t.msLeft)
    ++ noneOr 4 (f.deferral.map t.age)
    ++ noneOr 1 (f.state.testPhase.map TestPhase.code) ++ noneOr 2 (f.settleTimer.map t.msLeft)
    ++ noneOr 2 (f.serviceTimer.map t.msLeft) ++ lineTestFields f.lastTest

/-- R44, R117, R210. -/
def replyReadFeeder (k : FeederId) (s : State) : List Byte :=
  okReply (leBytes 1 k.number ++ discriminatorFields (s.plant.disc k) (s.store.binding.get k)
    ++ sequencerFields s.time (s.store.values k).attempts (s.plant.feeder k))

def serveReadFeeder (feeder : Byte) (s : State) : Served :=
  withFeeder feeder (fun k s => answered (replyReadFeeder k s) s) s

/-- READ_FEEDER (R44, R117). -/
def execReadFeeder (head : RequestHead) (feeder : Byte) (s : State) : Host.Outcome State Fault Refusal :=
  .next (s.request head .readFeeder [feeder] (serveReadFeeder feeder))

/-! ### Feeder Close, Feeder Open, Reset Lockout, Clear Feeder Counters (R45, R109, R110, R112) -/

/-- R210: the feeder number and its state after the execution. -/
def feederReply (k : FeederId) (s : State) : Served :=
  (s, some (okReply (leBytes 1 k.number ++ leBytes 1 (s.plant.feeder k).state.code)))

/-- R109 step 3: whether a manual close may start. -/
def Plant.mayClose (k : FeederId) (p : Plant) : Bool :=
  decide ((p.feeder k).state = .out) && decide ((p.item (.fb k)).state = .opened)
    && decide ((p.item (.tc k)).state = .opened) && !p.rail.frameFault

/-- R109: a manual close starts with the line test. -/
def Plant.manualClose (e : Env) (k : FeederId) (p : Plant) : Plant :=
  (p.onFeeder k (fun f => { f with manual := true })).enterLineTest e k

def serveFeederClose (feeder : Byte) (s : State) : Served :=
  needsRemote (withFeeder feeder (fun k s =>
    if s.plant.mayClose k then feederReply k (s.onPlant (fun e p => p.manualClose e k))
    else answered (refusal .wrongState) s)) s

/-- FEEDER_CLOSE (R109). -/
def execFeederClose (head : RequestHead) (feeder : Byte) (s : State) : Host.Outcome State Fault Refusal :=
  .next (s.request head .feederClose [feeder] (serveFeederClose feeder))

/-- R110: the states in which Feeder Open is taken. -/
def FeederState.mayOpen : FeederState → Bool
  | .inService | .deadTime _ | .lineTest _ | .closing => true
  | .unknown | .out | .tripping | .lockedOut => false

/-- R110: the effect by state. -/
def Plant.manualOpen (e : Env) (k : FeederId) (p : Plant) : Plant :=
  let old := (p.feeder k).state
  match old with
  | .inService =>
    (p.openCommand e (.sequencer k) (.fb k)).onFeeder k (fun f => { f with exit := some .out })
  | .deadTime _ => (p.onFeeder k Sequencer.enterOut).post e (.feeder k) .feederOpened [old.code]
  | .lineTest .tcClosing | .lineTest .settling => p.beginTcOpening e k .out
  | .lineTest .tcOpening =>
    p.onFeeder k (fun f =>
      { f with exit :=
          match f.exit with
          | some (.lockedOut c) => some (.lockedOut c)
          | _ => some .out })
  | .closing => p.abandonClosing e k .out
  | .unknown | .out | .tripping | .lockedOut => p

def serveFeederOpen (feeder : Byte) (s : State) : Served :=
  needsRemote (withFeeder feeder (fun k s =>
    if (s.plant.feeder k).state.mayOpen then feederReply k (s.onPlant (fun e p => p.manualOpen e k))
    else answered (refusal .wrongState) s)) s

/-- FEEDER_OPEN (R110). -/
def execFeederOpen (head : RequestHead) (feeder : Byte) (s : State) : Host.Outcome State Fault Refusal :=
  .next (s.request head .feederOpen [feeder] (serveFeederOpen feeder))

/-- R112: whether Reset Lockout is taken. -/
def Plant.mayReset (k : FeederId) (p : Plant) : Bool :=
  decide ((p.feeder k).state = .lockedOut) && !p.rail.frameFault
    && (decide ((p.item (.fb k)).state = .opened) || decide ((p.item (.fb k)).state = .closed))

/-- R112: the effect. -/
def Plant.resetLockout (e : Env) (k : FeederId) (p : Plant) : Plant :=
  let p := p.onFeeder k (fun f => { f with attempts := 0, lockout := none })
  let p := p.onFeeder k
    (if (p.item (.fb k)).state = .opened then Sequencer.enterOut else Sequencer.enterInService e)
  p.post e (.feeder k) .lockoutReset [(p.feeder k).state.code]

def serveResetLockout (feeder : Byte) (s : State) : Served :=
  needsRemote (withFeeder feeder (fun k s =>
    if s.plant.mayReset k then feederReply k (s.onPlant (fun e p => p.resetLockout e k))
    else answered (refusal .wrongState) s)) s

/-- RESET_LOCKOUT (R112). -/
def execResetLockout (head : RequestHead) (feeder : Byte) (s : State) : Host.Outcome State Fault Refusal :=
  .next (s.request head .resetLockout [feeder] (serveResetLockout feeder))

/-- R45: the counter and the last event outcome; an event in progress is not affected. -/
def Discriminator.clearCounters (d : Discriminator) : Discriminator := { d with events := 0, outcome := .none }

def serveClearFeederCounters (feeder : Byte) (s : State) : Served :=
  needsKey (withFeeder feeder (fun k s =>
    (s.onPlant (fun _ p => p.setDisc k (p.disc k).clearCounters), some (okReply (leBytes 1 k.number))))) s

/-- CLEAR_FEEDER_COUNTERS (R45). -/
def execClearFeederCounters (head : RequestHead) (feeder : Byte) (s : State) :
    Host.Outcome State Fault Refusal :=
  .next (s.request head .clearFeederCounters [feeder] (serveClearFeederCounters feeder))

/-! ### Read Items (R88) -/

/-- R88: the state of each coil output: of a pulsed item the open and the close coil, of a test contactor its one coil.
No rule says how an energised coil is coded; the model sets its flag (log 53, DESIGN CHOICE, unsafe). -/
def coilFlags (i : ItemId) (it : Item) : List Byte :=
  if ItemId.maintained i then packFlags [it.held] else packFlags [it.openCoil.isSome, it.closeCoil.isSome]

/-- R72, R88: the levels of the last probe. R88 and R204 do not say whether they are packed or which value is high; the
model packs them into one byte, in the order of the phases with released in bit 0, high as 1 (log 53, DESIGN CHOICE,
unsafe). -/
def levelsField (x : Option LineLevels) : List Byte :=
  match x with
  | some l => packFlags [l.released, l.pullDown, l.pullUp]
  | none => [0xFF]

/-- R88: one item. -/
def itemFields (t : TimeBase) (i : ItemId) (it : Item) : List Byte :=
  leBytes 1 it.state.code ++ leBytes 1 it.sensed.code ++ noneOr 1 (it.firm.map Position.code)
    ++ levelsField it.levels ++ noneOr 1 (it.result.map Position.code) ++ leBytes 1 it.run
    ++ noneOr 1 (it.operation.map (fun op => op.direction.code)) ++ noneOr 2 (it.limitEnd.map t.msLeft)
    ++ coilFlags i it ++ noneOr 1 (it.pulseEnd.map t.msLeft) ++ packFlags [it.failLive, it.unsensedLive]

/-- R88, R210. -/
def replyReadItems (s : State) : List Byte :=
  okReply (ItemId.all.map (fun i => itemFields s.time i (s.plant.item i))).flatten

def serveReadItems (s : State) : Served := answered (replyReadItems s) s

/-- READ_ITEMS (R88). -/
def execReadItems (head : RequestHead) (s : State) : Host.Outcome State Fault Refusal :=
  .next (s.request head .readItems [] serveReadItems)

/-! ### Rectifier (R120, R123, R134, R142) -/

/-- R210: the rectifier state after the execution. -/
def rectifierReply (s : State) : Served := (s, some (okReply (leBytes 1 s.plant.rect.state.code)))

/-- R120 step 4: the ACB states in which the start is refused. -/
def Item.blocksStart (it : Item) : Bool :=
  match it.state with
  | .opening | .closing | .failedOpen | .unsensed | .unknown => true
  | .failedClose => decide (it.sensed = .unsensed)
  | .opened | .closed => false

/-- R120 step 5: a feeder breaker is FAILED_OPEN. -/
def Plant.breakerHoldsFault (p : Plant) : Bool :=
  FeederId.all.any (fun k => decide ((p.item (.fb k)).state = .failedOpen))

/-- R120: the checks of the state of the part, after the permission; none where the request is taken. -/
def startRefusal (s : State) : Option Status :=
  if s.store.stationFields.isNone then some .notReady
  else if s.plant.rect.state ≠ .stopped ∧ s.plant.rect.state ≠ .tripped then some .wrongState
  else if (s.plant.item .acb).blocksStart then some .wrongState
  else if s.plant.breakerHoldsFault then some .wrongState
  else none

/-- R120: the ACB is commanded closed where it can be; an outcome given at once acts at once. -/
def Plant.closeIncomer (e : Env) (p : Plant) : Plant :=
  if (p.item .acb).mayStartClosing then
    let r := p.closeCommand e .rectifier .acb
    match r.2 with
    | none => r.1
    | some o => r.1.rectOutcome e .closing o
  else p

/-- R120: the start. -/
def Plant.rectStart (e : Env) (p : Plant) : Plant :=
  let old := p.rect.state
  let p := { p with rect := { p.rect with trippedLive := false } }
  let p := p.closeIncomer e
  let p := { p with rect := { p.rect with state := .syncing, overcurrent := 0 } }
  p.post e .rectifier .rectState [old.code, RectState.syncing.code, 0]

def serveRectifierStart (s : State) : Served :=
  needsRemote (fun s =>
    match startRefusal s with
    | some st => answered (refusal st) s
    | none => rectifierReply (s.onPlant Plant.rectStart)) s

/-- RECTIFIER_START (R120). -/
def execRectifierStart (head : RequestHead) (s : State) : Host.Outcome State Fault Refusal :=
  .next (s.request head .rectifierStart [] serveRectifierStart)

/-- R123: the stop, taken in every rectifier state. -/
def Plant.requestStop (e : Env) (p : Plant) : Plant :=
  if p.rect.state.running then p.rectStop e .request else p.openIncomer e

def serveRectifierStop (s : State) : Served :=
  needsRemote (fun s => rectifierReply (s.onPlant Plant.requestStop)) s

/-- RECTIFIER_STOP (R123). -/
def execRectifierStop (head : RequestHead) (s : State) : Host.Outcome State Fault Refusal :=
  .next (s.request head .rectifierStop [] serveRectifierStop)

/-- R134: the value applied. -/
def clampReference (v : Word16) : Nat := min 900 (max 600 v.toNat)

def serveSetVoltageReference (v : Word16) (s : State) : Served :=
  (s.onPlant (fun _ p => { p with rect := { p.rect with reference := clampReference v } }),
    some (okReply (leBytes 2 (clampReference v))))

/-- SET_VOLTAGE_REFERENCE (R134). -/
def execSetVoltageReference (head : RequestHead) (v : Word16) (s : State) : Host.Outcome State Fault Refusal :=
  .next (s.request head .setVoltageReference (leBytes 2 v.toNat) (serveSetVoltageReference v))

/-- R142, R210: one pulse of the schedule. -/
def pulseFields (crossing : Nat) (x : Pulse) : List Byte :=
  leBytes 1 x.gate.val ++ leBytes 2 x.angle ++ leBytes 2 x.position ++ leBytes 2 ((x.moment - crossing : Nat))
    ++ leBytes 1 x.status.code

/-- R142, R210: the schedule, preceded by a flag. The rules give the twelve pulse entries no order; they are sent by gate
number, as `newSchedule` lists them (log 57, DESIGN CHOICE, unsafe). -/
def scheduleField (x : Option Schedule) : List Byte :=
  match x with
  | some sch =>
    1 :: (leBytes 6 ((sch.crossing % 2 ^ 48 : Nat)) ++ leBytes 2 sch.period ++ leBytes 2 sch.offset
      ++ leBytes 2 sch.burst ++ (sch.pulses.map (pulseFields sch.crossing)).flatten)
  | none => absentFields 108

/-- R140: the burst state of a gate with the microseconds left. The rule does not say from which moment they count for
a request between two sample instants; they count from the last sample instant, so that a pulse fired ahead of the next
one can show more than the burst length (log 44, DESIGN CHOICE, unsafe). No rule gives the codes of the burst state or
packs the twelve states into flags; the model sends one byte for each gate, IDLE 0 and BURSTING 1 (log 52, DESIGN
CHOICE, unsafe). The gates stand by number, for which R142 gives no order either (log 57, DESIGN CHOICE, unsafe). -/
def burstFields (t : TimeBase) (b : Option Burst) : List Byte :=
  leBytes 1 (if b.isSome then 1 else 0) ++ noneOr 2 (b.map (fun b => b.ends - t.nowUs))

/-- R142: the feeders of the open-pending set as flags, feeder 1 first. The rules do not say whether they go as flags or
as a counted list (log 45, DESIGN CHOICE, unsafe). -/
def pendingFlagList (l : List FeederId) : List Bool := FeederId.all.map (fun k => l.contains k)

/-- R142, R210. The regulator record's fields stand in the order in which 6.1 names them (log 58, DEDUCED, unsafe). -/
def replyReadRectifier (s : State) : List Byte :=
  let r := s.plant.rect
  okReply (leBytes 1 r.state.code ++ leBytes 1 r.stopCause.code ++ leBytes 1 r.blockCause.code
    ++ leBytes 2 r.alpha ++ leBytes 2 r.reference
    ++ leBytes 2 r.regulator.vtarget ++ leBytes 2 r.regulator.e ++ leBytes 1 r.regulator.step
    ++ leBytes 2 r.regulator.idc20 ++ leBytes 2 r.regulator.vbus20
    ++ leBytes 1 r.overcurrent ++ leBytes 1 r.overvoltage ++ leBytes 2 r.limitCount
    ++ scheduleField r.schedule ++ (r.bursts.toList.map (burstFields s.time)).flatten
    ++ leBytes 1 (s.plant.item .acb).state.code ++ leBytes 1 (if s.plant.tracker.locked then 1 else 0)
    ++ leBytes 2 s.plant.tracker.period ++ packFlags (pendingFlagList s.plant.pendingOpen)
    ++ flagByte r.trippedLive)

def serveReadRectifier (s : State) : Served := answered (replyReadRectifier s) s

/-- READ_RECTIFIER (R142). -/
def execReadRectifier (head : RequestHead) (s : State) : Host.Outcome State Fault Refusal :=
  .next (s.request head .readRectifier [] serveReadRectifier)

/-! ### Rail (R152, R155, R157) -/

/-- R157, R210: an entry of the recent-closure list, with its age. -/
def closureFields (t : TimeBase) (c : Closure) : List Byte := c.stamp.fields ++ leBytes 6 (t.age c.elapsed)

/-- R157: the last frame fault record, its fields in the order in which 7.1 names them (log 58, DEDUCED, unsafe). -/
def frameRecordField (x : Option FrameRecord) : List Byte :=
  match x with
  | some x => 1 :: (leBytes 1 x.cause.code ++ leBytes 2 x.value ++ x.stamp.fields)
  | none => absentFields 11

/-- R157: the ten levels in use, in the order of the table of R145 (log 58, DEDUCED, unsafe). -/
def RailLevels.fields (l : RailLevels) : List Byte :=
  leBytes 2 l.u1 ++ leBytes 2 l.t1 ++ leBytes 2 l.u2 ++ leBytes 2 l.u3 ++ leBytes 2 l.th ++ leBytes 1 l.nrep
    ++ leBytes 1 l.w ++ leBytes 2 l.ireopen ++ leBytes 2 l.iframe ++ leBytes 1 l.tf

/-- R157, R210. R157 does not say which value of the field on where the levels in use come from means which source; the
model sends 1 for the station record and 0 for the backstop, as R208 has it for Icreep (log 51, DEDUCED, unsafe). The
two live flags stand in the order in which R157 lists them, FRAME_FAULT in bit 0, though their alarm numbers are the
other way round (log 56, DESIGN CHOICE, unsafe). -/
def replyReadRail (s : State) : List Byte :=
  let r := s.plant.rail
  okReply (leBytes 1 r.state.code ++ leBytes 2 r.rl1 ++ leBytes 1 r.rl2 ++ leBytes 1 r.rl3 ++ leBytes 1 r.frameRun
    ++ packFlags [r.rl1Held, r.rl2Holds, r.rl3Holds, r.frameHeld]
    ++ leBytes 2 r.watchPeak ++ flagByte r.watchBelow
    ++ leBytes 1 r.closures.length ++ (r.closures.map (closureFields s.time)).flatten
    ++ noneOr 4 (r.holdTimer.map s.time.msLeft)
    ++ packFlags [r.frameFault, r.permanentLive] ++ frameRecordField r.lastFault
    ++ leBytes 1 (s.plant.item .re).state.code ++ leBytes 1 (s.plant.item .re).sensed.code
    ++ flagByte s.store.stationFields.isSome ++ s.env.railLevels.fields)

def serveReadRail (s : State) : Served := answered (replyReadRail s) s

/-- READ_RAIL (R157). -/
def execReadRail (head : RequestHead) (s : State) : Host.Outcome State Fault Refusal :=
  .next (s.request head .readRail [] serveReadRail)

/-- R152 steps 2 and 3. -/
def State.mayRelease (s : State) : Bool :=
  decide (s.plant.rail.state = .permanent)
    && decide ((s.front.mean20 .ire).natAbs < s.env.railLevels.ireopen)

/-- R152: the release. -/
def Plant.releaseEarthing (e : Env) (p : Plant) : Plant :=
  let p := p.commandRailOpen e true
  p.post e .rail .railRelease [((e.front.mean20 .ire).natAbs : Nat)]

def serveReleaseEarthing (s : State) : Served :=
  needsRemote (fun s =>
    if s.mayRelease then
      (s.onPlant Plant.releaseEarthing, some (okReply (leBytes 2 (s.front.mean20 .ire).natAbs)))
    else answered (refusal .wrongState) s) s

/-- RELEASE_EARTHING (R152). -/
def execReleaseEarthing (head : RequestHead) (s : State) : Host.Outcome State Fault Refusal :=
  .next (s.request head .releaseEarthing [] serveReleaseEarthing)

/-- R155 steps 3 and 4. -/
def State.mayClearFrameFault (s : State) : Bool :=
  s.plant.rail.frameFault && !s.plant.rail.rl3Holds && !s.plant.rail.frameHeld

/-- R155: the clear. -/
def Plant.clearFrameFault (e : Env) (p : Plant) : Plant :=
  (p.onRail (fun r => { r with frameFault := false })).post e .rail .frameFault [0, 0]

def serveClearFrameFault (s : State) : Served :=
  needsRemote (needsKey (fun s =>
    if s.mayClearFrameFault then (s.onPlant Plant.clearFrameFault, some (okReply []))
    else answered (refusal .wrongState) s)) s

/-- CLEAR_FRAME_FAULT (R155). -/
def execClearFrameFault (head : RequestHead) (s : State) : Host.Outcome State Fault Refusal :=
  .next (s.request head .clearFrameFault [] serveClearFrameFault)

end Sys2Proof.Machine
end

