-- ==== Sys2Proof/Machine/Execution.lean ====
section
/-! DEFINITION. Reception and execution of frames (10, 10.1 to 10.3): the receive assembly, breaks, and the choice of
the meaning for a received frame. -/

namespace Sys2Proof.Machine

/-! ### The meaning of a received frame (R198, R199, R204) -/

/-- R204: a request of the catalogue with a payload of a length it accepts; its parameters stand in the order of 11.1,
low byte first. -/
def serveKind (r : RequestKind) (pl : List Byte) : State → Served :=
  match r with
  | .identify => serveIdentify
  | .echo => serveEcho pl
  | .readStatus => serveReadStatus
  | .readAttention => serveReadAttention
  | .noticeMask => serveNoticeMask (BitVec.ofNat 16 (leValue pl))
  | .setTime => serveSetTime (BitVec.ofNat 48 (leValue pl))
  | .restart => serveRestart
  | .readMeasurements => serveReadMeasurements
  | .readEnergy => serveReadEnergy
  | .clearEnergy => serveClearEnergy
  | .writeSet => serveWriteSet (pl.getD 0 0) (SetFields.ofBlock (pl.drop 1))
  | .readSet => serveReadSet (pl.getD 0 0)
  | .eraseSet => serveEraseSet (pl.getD 0 0)
  | .writeMapEntry => serveWriteMapEntry (pl.getD 0 0) (pl.getD 1 0) (pl.getD 2 0)
  | .readMap => serveReadMap
  | .writeStationRecord => serveWriteStationRecord (StationFields.ofBlock pl)
  | .readStationRecord => serveReadStationRecord
  | .setFeedState => serveSetFeedState (pl.getD 0 0) (pl.getD 1 0)
  | .readFeeder => serveReadFeeder (pl.getD 0 0)
  | .feederClose => serveFeederClose (pl.getD 0 0)
  | .feederOpen => serveFeederOpen (pl.getD 0 0)
  | .resetLockout => serveResetLockout (pl.getD 0 0)
  | .clearFeederCounters => serveClearFeederCounters (pl.getD 0 0)
  | .readItems => serveReadItems
  | .rectifierStart => serveRectifierStart
  | .rectifierStop => serveRectifierStop
  | .setVoltageReference => serveSetVoltageReference (BitVec.ofNat 16 (leValue pl))
  | .readRectifier => serveReadRectifier
  | .readRail => serveReadRail
  | .releaseEarthing => serveReleaseEarthing
  | .clearFrameFault => serveClearFrameFault
  | .fetchJournal => serveFetchJournal (pl.getD 0 0)
  | .releaseJournal => serveReleaseJournal (BitVec.ofNat 16 (leValue pl))
  | .readAlarms => serveReadAlarms
  | .acknowledgeAlarms => serveAcknowledgeAlarms
  | .listRecords => serveListRecords
  | .readRecordPiece => serveReadRecordPiece (pl.getD 0 0) (pl.getD 1 0)
  | .freeRecord => serveFreeRecord (pl.getD 0 0)

/-- R199: the answer to a kind that the catalogue does not have. -/
def serveUnknown (kind : Byte) (s : State) : Served := answered [Status.unknownKind.code, kind] s

/-- R198: the link controller's two checks, then the block that serves the request. -/
def serveFrame (f : LinkFrame) : State → Served :=
  match RequestKind.ofByte f.kind with
  | none => serveUnknown f.kind
  | some r =>
    if r.accepts f.payload.length then serveKind r f.payload else answered (refusal .badLength)

/-- UNKNOWN_KIND (R199): the completion of a frame of a kind that is no request kind (log 8). -/
def execUnknownKind (head : RequestHead) (kind : Byte) (payload : List Byte) (s : State) :
    Host.Outcome State Fault Refusal :=
  .next (s.offer head.pins ⟨kind, head.tag, payload⟩ (serveFrame ⟨kind, head.tag, payload⟩))

/-- R198: the oldest queued frame is taken for execution. -/
def State.startExecution (pins : Pins) (s : State) : State :=
  if s.link.free then
    match s.link.queue with
    | [] => s
    | f :: rest =>
      State.execute pins f.kind f.tag (serveFrame f) { s with link := { s.link with queue := rest } }
  else s

/-- REQUEST_EXECUTION_START (R198). The inputs stand at its levels, also where no request is taken (log 7). -/
def execRequestExecutionStart (pins : Pins) (s : State) : Host.Outcome State Fault Refusal :=
  .next ((s.setPins pins).startExecution pins)

/-! ### The start and the end of a transmission (R198, R201) -/

/-- R201: an idle transmitter begins the frame that is due, the reply before the notice. The start of the reply empties
the slot, and at that event the oldest queued frame is taken for execution (R198), with the inputs as they stand. -/
def State.transmitStart (s : State) : State :=
  match s.link.transmitter with
  | .sendingReply _ | .sendingNotice _ => s
  | .idle =>
    if s.link.restart = .replySent then s
    else
      match s.link.slot, s.plant.unit.notice with
      | some f, _ => State.startExecution s.panel.pins { s with link := s.link.beginReply f }
      | none, some n => s.beginNotice n
      | none, none => s

/-- FRAME_TRANSMIT_START (R201): the step at which a frame that has become due while the transmitter was IDLE begins
(log 9). -/
def execFrameTransmitStart (s : State) : Host.Outcome State Fault Refusal := .next s.transmitStart

/-- FRAME_TRANSMIT_END (R201): the transmitter returns to IDLE, and at that event it begins the next due frame, if any.
While the transmitter is IDLE no frame ends and nothing happens. -/
def execFrameTransmitEnd (s : State) : Host.Outcome State Fault Refusal :=
  .next (match s.link.transmitter with
    | .idle => s
    | .sendingReply _ | .sendingNotice _ => State.transmitStart { s with link := s.link.transmitEnd })

/-! ### The receive assembly (R192 to R196) -/

/-- R192, R194: whether a frame is being assembled; the gap timer runs exactly then. -/
def Assembly.partly : Assembly → Bool
  | .length | .body _ _ | .check _ _ _ => true
  | .hunt | .lineBreak => false

/-- R193: the frame that a checked body holds: kind, tag and payload. -/
def bodyFrame (body : List Byte) : LinkFrame := ⟨body.getD 0 0, body.getD 1 0, body.drop 2⟩

/-- R195: whether the two CRC bytes are those of the length byte and the body. -/
def crcMatches (length : Nat) (body check : List Byte) : Bool :=
  decide (leValue check = (crc (BitVec.ofNat 8 length :: body)).toNat)

def Link.setAssembly (a : Assembly) (l : Link) : Link := { l with assembly := a }

/-- R202: one more of the errors of each kind. -/
def LinkCounters.countLength (c : LinkCounters) : LinkCounters := { c with length := saturatingSucc 65535 c.length }
def LinkCounters.countCrc (c : LinkCounters) : LinkCounters := { c with crc := saturatingSucc 65535 c.crc }
def LinkCounters.countFraming (c : LinkCounters) : LinkCounters :=
  { c with framing := saturatingSucc 65535 c.framing }
def LinkCounters.countGap (c : LinkCounters) : LinkCounters := { c with gap := saturatingSucc 65535 c.gap }
def LinkCounters.countBreak (c : LinkCounters) : LinkCounters := { c with breaks := saturatingSucc 65535 c.breaks }

/-- R195: the end of CHECK. -/
def State.checkFrame (pins : Pins) (length : Nat) (body check : List Byte) (s : State) : State :=
  let s := { s with link := s.link.setAssembly .hunt }
  if crcMatches length body check then s.offer pins (bodyFrame body) (serveFrame (bodyFrame body))
  else { s with link := { s.link with counters := s.link.counters.countCrc } }

/-- R194: a received byte at the receive assembly. In BREAK the line is not yet back at mark, and no byte comes. -/
def State.receiveByte (pins : Pins) (b : Byte) (s : State) : State :=
  match s.link.assembly with
  | .hunt => if b = 0xA5 then { s with link := s.link.setAssembly .length } else s
  | .length =>
    if 2 ≤ b.toNat ∧ b.toNat ≤ 240 then { s with link := s.link.setAssembly (.body b.toNat []) }
    else { s with link := { s.link.setAssembly .hunt with counters := s.link.counters.countLength } }
  | .body n l =>
    if n ≤ l.length + 1 then { s with link := s.link.setAssembly (.check n (l ++ [b]) []) }
    else { s with link := s.link.setAssembly (.body n (l ++ [b])) }
  | .check n l [] => { s with link := s.link.setAssembly (.check n l [b]) }
  | .check n l (c :: _) => s.checkFrame pins n l [c, b]
  | .lineBreak => s

/-- R192: a character that ends in a framing error. -/
def Link.framingError (l : Link) : Link :=
  match l.assembly with
  | .lineBreak => l
  | .hunt | .length | .body _ _ | .check _ _ _ =>
    { l with assembly := .hunt, counters := l.counters.countFraming }

/-- RECEIVED_CHARACTER (R192, R194). -/
def execReceivedCharacter (c : LineCharacter) (pins : Pins) (s : State) : Host.Outcome State Fault Refusal :=
  .next (match c with
    | .byte b => s.receiveByte pins b
    | .framingError => { s with link := s.link.framingError })

/-- R194: the gap timer expires, which it can only while a frame is being assembled (log 10). -/
def Link.gapExpires (l : Link) : Link :=
  if l.assembly.partly then { l with assembly := .hunt, counters := l.counters.countGap } else l

/-- GAP_TIMER_EXPIRY (R194). -/
def execGapTimerExpiry (s : State) : Host.Outcome State Fault Refusal :=
  .next { s with link := s.link.gapExpires }

/-- R196: the link controller's part of a break. -/
def Link.takeBreak (l : Link) : Link :=
  { l with assembly := .lineBreak, queue := [], counters := l.counters.countBreak }

/-- R196: a break is recognised. While the assembly is in BREAK the line has not left it, and the break counts once. -/
def State.linkBreak (s : State) : State :=
  if s.link.assembly = .lineBreak then s
  else
    State.onPlant { s with link := s.link.takeBreak }
      (fun e p => p.post e .link .linkReset
        [(s.link.queue.length : Nat), if s.link.assembly.partly then 1 else 0])

/-- LINK_BREAK (R196). -/
def execLinkBreak (s : State) : Host.Outcome State Fault Refusal := .next s.linkBreak

/-- R196: the line has been at mark for one bit time. -/
def Link.breakEnds (l : Link) : Link :=
  match l.assembly with
  | .lineBreak => l.setAssembly .hunt
  | .hunt | .length | .body _ _ | .check _ _ _ => l

/-- LINK_BREAK_END (R196). -/
def execLinkBreakEnd (s : State) : Host.Outcome State Fault Refusal := .next { s with link := s.link.breakEnds }

end Sys2Proof.Machine
end

