-- ==== Sys2Proof/Machine/Reset.lean ====
section
/-! DEFINITION. The three resets and the start-up that follows each (R13, R49, R177, R184, R190 and the reset rules of
every block). -/

namespace Sys2Proof.Machine

/-! ### The time base (R13) -/

/-- R13: the clock source as the part leaves a power-on reset. -/
def sourceOf (oscillates : Bool) : ClockSource := if oscillates then .crystal else .fallback

/-- R12, R13: the uninterrupted oscillation counted at the end of a pin reset or Restart. The held instants count on, and
an interruption within the reset starts the 100 ms again, which then run on through the rest of it (log 30). -/
def crystalRunAfter (x : ResetInputs) (run : Nat) : Nat :=
  min 800 (if x.crystal then run + x.held else min x.since x.held)

/-- R13: the grid and the clock run on through a pin reset or Restart; the elapsed count restarts, and the qualification
of a crystal return goes on. -/
def TimeBase.afterReset (x : ResetInputs) (t : TimeBase) : TimeBase :=
  let now := TimeBase.advanceBy x.held t.begin
  { now with
    elapsed := 0
    tick := 0
    begun := true
    crystalRun :=
      match t.source with
      | .crystal => 0
      | .fallback => crystalRunAfter x t.crystalRun }

/-! ### The start-up check (R49) -/

/-- R49 step 1: a stored record is checked. A record whose programming was cut off fails, whatever it holds. What it was
left with is checked by its check word again at a later reset, and may then pass (log 41, DESIGN CHOICE, unsafe). -/
def StoredRecord.startUp {α : Type} (words : α → List Word16) (left : α) (r : StoredRecord α) : StoredRecord α :=
  match r.state, r.stored with
  | .programming _, _ => ⟨.invalid, some left⟩
  | .empty, _ => ⟨.empty, none⟩
  | _, some f => ⟨if checkWordRule (words f) then .valid else .invalid, some f⟩
  | _, none => ⟨.empty, none⟩

/-- The contents that a cut-off write left: free values (log 13). -/
def cutSet (cut : Nat) : SetFields := .ofPositions (Config.cutField cut)
def cutStation (cut : Nat) : StationFields := .ofPositions (Config.cutField cut)

/-- A record whose stored contents were disturbed is found with what they have become; one with none stays as it is. -/
def StoredRecord.disturb {α : Type} (f : α) (r : StoredRecord α) : StoredRecord α :=
  { r with stored := r.stored.map (fun _ => f) }

/-- Every set through the start-up check. -/
def mapSets (f : StoredRecord SetFields → StoredRecord SetFields) (v : Vector (StoredRecord SetFields) 16) :
    Vector (StoredRecord SetFields) 16 :=
  #v[f v[0], f v[1], f v[2], f v[3], f v[4], f v[5], f v[6], f v[7], f v[8], f v[9], f v[10], f v[11], f v[12],
    f v[13], f v[14], f v[15]]

/-- The disturbances of the operand. -/
def Store.disturb (st : Store) : FoundRecord → Store
  | .set n f => st.setRecord n ((st.sets[n]).disturb f)
  | .station f => { st with station := st.station.disturb f }

/-- The map entry whose programming was cut off, if one was. -/
def Store.cutEntry (st : Store) : Option (FeederId × FeedState) :=
  match st.write with
  | some ⟨.mapEntry k f _, _⟩ => some (k, f)
  | some ⟨.set _ _, _⟩ | some ⟨.station _, _⟩ | none => none

/-- R49 step 2: a cut-off map entry is loaded as NONE. -/
def Store.loadMap (st : Store) : Store :=
  match st.cutEntry with
  | some (k, f) => st.setEntry k f none
  | none => st

/-- R49 steps 1, 2, 4 and 5, up to the resolution of the bindings: feed states UNKNOWN, no binding yet, nothing in use,
the scan at its start, its first visit 10 ms after the first sample instant. -/
def Store.checked (found : List FoundRecord) (st : Store) : Store :=
  let st := found.foldl Store.disturb st
  let loaded := st.loadMap
  { loaded with
    sets := mapSets (StoredRecord.startUp SetFields.toList (cutSet st.cuts)) st.sets
    station := st.station.startUp StationFields.toList (cutStation st.cuts)
    write := none
    scan := 0
    scanDue := 80
    feed := Six.all .unknown
    binding := Six.all ⟨.unknown, none, .none⟩
    inUse := Vector.replicate 16 0
    cuts := if st.write.isSome then st.cuts + 1 else st.cuts }

/-! ### The start-up entries (R13, R49, R66, R177) -/

/-- R177: the first entry of the start-up. -/
def State.postStartUp (s : State) : State :=
  s.onPlant (fun e p =>
    p.post e .station .startUp [s.panel.cause.code, (p.unit.journal.length : Nat)])

/-- R184: the conditions of the time base and the tracker that are live at the first instant latch. -/
def State.startConditions (s : State) : State :=
  s.onPlant (fun e p =>
    let p := p.latchIfNew e .supplyLost false p.tracker.supplyLost
    let p := p.latchIfNew e .timeUnsync false e.time.unsync
    p.latchIfNew e .clockFallback false (decide (e.time.source = .fallback)))

/-- R13: at a power-on reset without the crystal, the entry of R12 follows START_UP. -/
def State.postStartFallback (s : State) : State :=
  if s.panel.cause = .powerOn ∧ s.time.source = .fallback then
    s.onPlant (fun e p => p.post e .station .clockFallback [1])
  else s

/-- R49 step 3: RECORD_INVALID for each INVALID set, ascending. -/
def State.postInvalidSets (s : State) : State :=
  (allSets.filter (fun n => (s.store.sets[n]).isInvalid)).foldl
    (fun s (n : SetId) => s.postRecordInvalid n.val 1 0) s

/-- R49 step 3: RECORD_INVALID for an INVALID station record and for a map entry that was cut off. -/
def State.postInvalidRest (cut : Option (FeederId × FeedState)) (s : State) : State :=
  let s := if s.store.station.isInvalid then s.postRecordInvalid 16 1 0 else s
  match cut with
  | some (k, f) => s.postRecordInvalid 17 1 (entryNumber k f)
  | none => s

/-- R49 step 4, R66: the first resolution of a feeder's binding, which counts as a change. -/
def State.bindAtStart (s : State) (k : FeederId) : State :=
  let new := s.store.resolved k
  State.onPlant { s with store := s.store.replaceBinding k new }
    (fun e p => (p.postBinding e k new).latchIfNew e (.bindingFault k) false new.faultLive)

/-- R49, R177, R184: the start-up, with the records checked and every block at its reset values. -/
def State.startUp (cut : Option (FeederId × FeedState)) (s : State) : State :=
  let s := ((s.postStartUp).startConditions).postStartFallback
  let s := (s.postInvalidSets).postInvalidRest cut
  let s := s.settingsCondition false
  FeederId.all.foldl State.bindAtStart s

/-! ### The resets -/

/-- R131: the working reference after a reset. -/
def Store.startReference (st : Store) : Nat :=
  match st.stationFields with
  | some f => f.vref.toNat
  | none => 750

/-- R190: what a pin reset or Restart leaves of the journal and alarm unit. -/
def JournalUnit.afterReset (u : JournalUnit) : JournalUnit :=
  { JournalUnit.reset with journal := u.journal, nextIndex := u.nextIndex }

/-- The plant at the first instant after a reset, before the start-up entries. -/
def Plant.atReset (reference : Nat) (records : RecordStore) (unit : JournalUnit) : Plant where
  tracker := Tracker.reset
  items := PerItem.all Item.reset
  discs := Six.all Discriminator.reset
  feeders := Six.all Sequencer.reset
  pendingOpen := []
  rect := Rectifier.reset reference
  rail := RailMonitor.reset
  records := records
  unit := unit

/-- R18: SUPPLY_LOW is evaluated against the Vac_min of the checked station record. -/
def Plant.startSupply (e : Env) (p : Plant) : Plant := { p with tracker := p.tracker.reevaluate e.supplyLevel }

/-- A reset, given what it keeps. The map entry found cut off is that of the store as the reset struck it. -/
def State.resetWith (x : ResetInputs) (cause : ResetCause) (time : TimeBase) (records : RecordStore)
    (unit : JournalUnit) (energy : Energy) (s : State) : State :=
  let store := s.store.checked x.found
  let atReset : State :=
    { s with
      panel := { s.panel with unit := x.unit, cause := cause }
      time := time
      front := FrontEnd.reset
      store := store
      plant := Plant.atReset store.startReference records unit
      energy := energy
      link := Link.reset x.rate }
  (atReset.onPlant Plant.startSupply).startUp s.store.cutEntry

/-- R13, R165, R173, R190: power-on reset. -/
def State.powerOn (x : ResetInputs) (s : State) : State :=
  s.resetWith x .powerOn (TimeBase.reset (sourceOf x.crystal)) RecordStore.reset JournalUnit.reset Energy.reset

/-- Pin reset and Restart, which differ in the cause alone (00, Conventions). -/
def State.warmReset (x : ResetInputs) (cause : ResetCause) (s : State) : State :=
  s.resetWith x cause (s.time.afterReset x) s.plant.records.afterReset s.plant.unit.afterReset s.energy.afterReset

/-- POWER_ON_RESET (R13). -/
def execPowerOnReset (x : ResetInputs) (s : State) : Host.Outcome State Fault Refusal := .next (s.powerOn x)

/-- PIN_RESET (R13). -/
def execPinReset (x : ResetInputs) (s : State) : Host.Outcome State Fault Refusal :=
  .next (s.warmReset x .resetPin)

/-- R198, R207: the reset of a Restart begins at the end of the last stop bit of its reply. -/
def Link.restartDue (l : Link) : Bool := decide (l.restart = .replySent)

/-- RESTART_RESET (R207); before the reply of a taken Restart has been sent in full nothing happens (log 36). -/
def execRestartReset (x : ResetInputs) (s : State) : Host.Outcome State Fault Refusal :=
  .next (if s.link.restartDue then s.warmReset x .restartRequest else s)

end Sys2Proof.Machine
end

