-- ==== Sys2Proof/Machine/Sampling.lean ====
section
/-! DEFINITION. The sampling front end and the time base (01): one sample instant with everything that comes about in
it, and the changes of the clock source. -/

namespace Sys2Proof.Machine

/-! ### The front end (R1 to R6) -/

/-- R3: the saturation count after a sample: 160 samples without the flag clear the indication. -/
def saturationAfter (n : Nat) (sample : Int × Bool) : Nat := if sample.2 then 160 else n - 1

/-- R5, R6: a list of fixed length takes its newest value and loses its oldest. -/
def slide (l : List Int) (x : Int) : List Int := l.drop 1 ++ [x]

/-- R1, R2, R3, R6: the conversions of one instant. -/
def FrontEnd.take (conversions : PerChannel Conversion) (f : FrontEnd) : FrontEnd :=
  let samples := PerChannel.zip Channel.present Channel.all conversions
  let values := samples.map Prod.fst
  { f with
    latest := values
    sums := PerChannel.zip (· + ·) f.sums values
    saturation := PerChannel.zip saturationAfter f.saturation samples
    history := Six.zip slide f.history values.feederCurrent }

/-- R4: the 1 ms mean of a sum of eight samples. -/
def meanOfSum (sum : Int) : Int := floorDiv sum 8

/-- R4, R5: the end of a millisecond. -/
def FrontEnd.closeMillisecond (f : FrontEnd) : FrontEnd :=
  { f with
    means := PerChannel.zip (fun l sum => slide l (meanOfSum sum)) f.means f.sums
    sums := PerChannel.all 0 }

/-! ### The time base (R8, R12, R13) -/

/-- The grid at the instant whose samples are presented: the one it already stands at, or the next. -/
def TimeBase.present (t : TimeBase) : TimeBase := if t.begun then { t with begun := false } else t.advance

/-- R12: in FALLBACK the uninterrupted oscillation of the crystal is counted, 100 ms being 800 instants. -/
def TimeBase.qualify (oscillates : Bool) (t : TimeBase) : TimeBase :=
  match t.source with
  | .crystal => t
  | .fallback => { t with crystalRun := if oscillates then min 800 (t.crystalRun + 1) else 0 }

/-! ### One sample instant -/

/-- R40, R93: what a discriminator answers reaches its sequencer. -/
def Plant.takeTrip (e : Env) (k : FeederId) : Plant × Option Snapshot → Plant
  | (p, none) => p
  | (p, some snap) => p.discTrip e k snap

/-- R22: an IFk sample at its discriminator. -/
def Plant.feederSample (e : Env) (k : FeederId) (p : Plant) : Plant :=
  let r := (p.disc k).sample e k
  Plant.takeTrip e k (p.setDisc k r.1, r.2)

/-- One block's event of the instant. -/
def Plant.runTask (e : Env) (lines : PerItem LineLevels) (p : Plant) (t : InstantTask) : Plant :=
  match t with
  | .trackVab => p.trackVab e
  | .feederSample k => p.feederSample e k
  | .rectifierCurrent => p.rectCurrentSample e
  | .rectifierVoltage => p.rectVoltageSample e
  | .railSample => p.railSample e
  | .probe i => p.probeEnds e i (lines.get i)
  | .thermal k => Plant.takeTrip e k (p.thermalEvent e k)
  | .settleWatch k => p.settleWatch e k
  | .rectifierMean => p.rectMean e
  | .railMean => p.railMean e
  | .recordMean => p.recordMean e

/-- R72: probes end at eighth 4; the first after a reset is the first that began after it, at an eighth 0 (log 19). -/
def TimeBase.probesEnd (t : TimeBase) : Bool := decide (t.eighth = 4) && decide (4 ≤ t.tick)

/-- The events that come with the samples of an instant. -/
def InstantTask.withSamples (t : TimeBase) (x : InstantTask) : Bool :=
  !x.ofMillisecond && (!x.isProbe || t.probesEnd)

/-- The blocks' events with the samples, in the order of the operand (R1, log 6). -/
def Plant.sampleEvents (x : SampleInputs) (e : Env) (p : Plant) : Plant :=
  ((InstantTask.complete x.order).filter (InstantTask.withSamples e.time)).foldl (Plant.runTask e x.lines) p

/-- The blocks' events of the millisecond, in the order of the operand (R4, log 6). -/
def Plant.millisecondEvents (x : SampleInputs) (e : Env) (p : Plant) : Plant :=
  ((InstantTask.complete x.order).filter InstantTask.ofMillisecond).foldl (Plant.runTask e x.lines) p

/-- R4: the millisecond event, which follows the samples of an eighth-7 instant. -/
def State.millisecondEvent (x : SampleInputs) (s : State) : State :=
  let s := { s with front := s.front.closeMillisecond }
  let s := s.onPlant (Plant.millisecondEvents x)
  { s with energy := s.energy.millisecond s.env }

/-- R1: one sample instant. -/
def State.sampleInstant (x : SampleInputs) (s : State) : State :=
  let s := { s with time := s.time.present.qualify x.crystal, front := s.front.take x.conversions }
  let s := s.onPlant (Plant.sampleEvents x)
  if s.time.eighth = 7 then s.millisecondEvent x else s

/-- SAMPLE_INSTANT (R1). -/
def execSampleInstant (x : SampleInputs) (s : State) : Host.Outcome State Fault Refusal := .next (s.sampleInstant x)

/-! ### The clock source (R12) -/

/-- R12: the time base at the change to FALLBACK, at the sample instant that was due. -/
def TimeBase.fail (t : TimeBase) : TimeBase := { t.begin with source := .fallback, crystalRun := 0 }

/-- CRYSTAL_FAILURE (R12); in FALLBACK nothing happens. -/
def execCrystalFailure (s : State) : Host.Outcome State Fault Refusal :=
  .next (match s.time.source with
    | .crystal =>
      State.onPlant { s with time := s.time.fail }
        (fun e p => (p.latch e .clockFallback).post e .station .clockFallback [1])
    | .fallback => s)

/-- R12: the time base at the return to CRYSTAL, at the next sample instant. -/
def TimeBase.recover (t : TimeBase) : TimeBase := { t.begin with source := .crystal, crystalRun := 0 }

/-- CRYSTAL_RETURN (R12): acts once the crystal has oscillated for 100 ms without interruption. -/
def execCrystalReturn (s : State) : Host.Outcome State Fault Refusal :=
  .next (match s.time.source with
    | .crystal => s
    | .fallback =>
      if 800 ≤ s.time.crystalRun then
        State.onPlant { s with time := s.time.recover } (fun e p => p.post e .station .clockFallback [0])
      else s)

/-! ### Other expiries -/

/-- DEAD_TIME_EXPIRY (R99). The timer has run out when the reclose check is made. -/
def execDeadTimeExpiry (k : FeederId) (s : State) : Host.Outcome State Fault Refusal :=
  .next (s.atExpiry (s.plant.feeder k).deadTimer
    (fun s => s.onPlant (fun e p => (p.onFeeder k (fun f => { f with deadTimer := none })).deadTimeExpires e k)))

/-- SETTLE_EXPIRY (R104). -/
def execSettleExpiry (k : FeederId) (s : State) : Host.Outcome State Fault Refusal :=
  .next (s.atExpiry (s.plant.feeder k).settleTimer
    (fun s => s.onPlant (fun e p => (p.onFeeder k (fun f => { f with settleTimer := none })).settleExpires e k)))

/-- SERVICE_TIMER_EXPIRY (R97). -/
def execServiceTimerExpiry (k : FeederId) (s : State) : Host.Outcome State Fault Refusal :=
  .next (s.atExpiry (s.plant.feeder k).serviceTimer
    (fun s => s.onPlant (fun _ p => p.onFeeder k Sequencer.serviceExpires)))

/-- The moment of the pulse of a gate that is PENDING (R130). -/
def Rectifier.pendingMoment (r : Rectifier) (gate : GateId) : Option Nat :=
  match r.schedule with
  | none => none
  | some sch =>
    (sch.pulses.find? (fun x => decide (x.gate = gate) && decide (x.status = .pending))).map Pulse.moment

/-- PULSE_INSTANT (R130, R139): the instant of a PENDING pulse has come (log 12). -/
def execPulseInstant (gate : GateId) (s : State) : Host.Outcome State Fault Refusal :=
  .next (match s.plant.rect.pendingMoment gate with
    | none => s
    | some m =>
      if s.plant.rect.state.firing && s.time.hasReachedUs m then
        s.onPlant (fun _ p => { p with rect := p.rect.firePulse gate })
      else s)

/-- R139: the gate becomes IDLE. -/
def Rectifier.endBurst (gate : GateId) (r : Rectifier) : Rectifier := { r with bursts := r.bursts.set gate none }

/-- BURST_END (R139): the end instant of a running burst has come (log 12). -/
def execBurstEnd (gate : GateId) (s : State) : Host.Outcome State Fault Refusal :=
  .next (match s.plant.rect.bursts[gate] with
    | none => s
    | some b =>
      if s.time.hasReachedUs b.ends then s.onPlant (fun _ p => { p with rect := p.rect.endBurst gate }) else s)

/-- RAIL_HOLD_EXPIRY (R149). -/
def execRailHoldExpiry (s : State) : Host.Outcome State Fault Refusal :=
  .next (s.atExpiry s.plant.rail.holdTimer
    (fun s => s.onPlant (fun e p => (p.onRail (fun r => { r with holdTimer := none })).holdExpires e)))

/-- The tick at which the hold timer expires (R170). -/
def RecordStore.holdExpiry (r : RecordStore) : Option Nat := r.hold.map Prod.snd

/-- RECORD_HOLD_EXPIRY (R170). -/
def execRecordHoldExpiry (s : State) : Host.Outcome State Fault Refusal :=
  .next (s.atExpiry s.plant.records.holdExpiry
    (fun s => s.onPlant (fun _ p => { p with records := p.records.releaseHold })))

/-- R188: the holdoff timer expires, and a pending notice may be formed. -/
def JournalUnit.holdoffExpires (e : Env) (u : JournalUnit) : JournalUnit :=
  JournalUnit.tryNotice e { u with holdoff := none }

/-- NOTICE_HOLDOFF_EXPIRY (R188). -/
def execNoticeHoldoffExpiry (s : State) : Host.Outcome State Fault Refusal :=
  .next (s.atExpiry s.plant.unit.holdoff
    (fun s => s.onPlant (fun e p => { p with unit := p.unit.holdoffExpires e })))

end Sys2Proof.Machine
end

