-- ==== Sys2Proof/Machine/Dispatch.lean ====
section
/-! DEFINITION. The command's effect on everything but the queue: one arm for each command. -/

namespace Sys2Proof.Machine

def exec (i : Instr) (s : State) : Host.Outcome State Fault Refusal :=
  match i with
  | .powerOnReset inputs => Sys2Proof.Machine.execPowerOnReset inputs s
  | .pinReset inputs => Sys2Proof.Machine.execPinReset inputs s
  | .restartReset inputs => Sys2Proof.Machine.execRestartReset inputs s
  | .crystalFailure => Sys2Proof.Machine.execCrystalFailure s
  | .crystalReturn => Sys2Proof.Machine.execCrystalReturn s
  | .sampleInstant inputs => Sys2Proof.Machine.execSampleInstant inputs s
  | .noCrossingExpiry => Sys2Proof.Machine.execNoCrossingExpiry s
  | .coilPulseEnd item => Sys2Proof.Machine.execCoilPulseEnd item s
  | .limitTimerExpiry item => Sys2Proof.Machine.execLimitTimerExpiry item s
  | .deadTimeExpiry k => Sys2Proof.Machine.execDeadTimeExpiry k s
  | .settleExpiry k => Sys2Proof.Machine.execSettleExpiry k s
  | .serviceTimerExpiry k => Sys2Proof.Machine.execServiceTimerExpiry k s
  | .pulseInstant gate => Sys2Proof.Machine.execPulseInstant gate s
  | .burstEnd gate => Sys2Proof.Machine.execBurstEnd gate s
  | .railHoldExpiry => Sys2Proof.Machine.execRailHoldExpiry s
  | .energyPulseOnExpiry => Sys2Proof.Machine.execEnergyPulseOnExpiry s
  | .energyPulseGapExpiry => Sys2Proof.Machine.execEnergyPulseGapExpiry s
  | .recordHoldExpiry => Sys2Proof.Machine.execRecordHoldExpiry s
  | .scanVisit found => Sys2Proof.Machine.execScanVisit found s
  | .setWriteCompletion readBack => Sys2Proof.Machine.execSetWriteCompletion readBack s
  | .stationRecordWriteCompletion readBack => Sys2Proof.Machine.execStationRecordWriteCompletion readBack s
  | .mapEntryWriteCompletion readBack => Sys2Proof.Machine.execMapEntryWriteCompletion readBack s
  | .noticeHoldoffExpiry => Sys2Proof.Machine.execNoticeHoldoffExpiry s
  | .receivedCharacter char pins => Sys2Proof.Machine.execReceivedCharacter char pins s
  | .gapTimerExpiry => Sys2Proof.Machine.execGapTimerExpiry s
  | .linkBreak => Sys2Proof.Machine.execLinkBreak s
  | .linkBreakEnd => Sys2Proof.Machine.execLinkBreakEnd s
  | .requestExecutionStart pins => Sys2Proof.Machine.execRequestExecutionStart pins s
  | .unknownKind head kind payload => Sys2Proof.Machine.execUnknownKind head kind payload s
  | .frameTransmitStart => Sys2Proof.Machine.execFrameTransmitStart s
  | .frameTransmitEnd => Sys2Proof.Machine.execFrameTransmitEnd s
  | .identify head => Sys2Proof.Machine.execIdentify head s
  | .echo head payload => Sys2Proof.Machine.execEcho head payload s
  | .readStatus head => Sys2Proof.Machine.execReadStatus head s
  | .readAttention head => Sys2Proof.Machine.execReadAttention head s
  | .noticeMask head mask => Sys2Proof.Machine.execNoticeMask head mask s
  | .setTime head count => Sys2Proof.Machine.execSetTime head count s
  | .restart head => Sys2Proof.Machine.execRestart head s
  | .readMeasurements head => Sys2Proof.Machine.execReadMeasurements head s
  | .readEnergy head => Sys2Proof.Machine.execReadEnergy head s
  | .clearEnergy head => Sys2Proof.Machine.execClearEnergy head s
  | .writeSet head number fields => Sys2Proof.Machine.execWriteSet head number fields s
  | .readSet head number => Sys2Proof.Machine.execReadSet head number s
  | .eraseSet head number => Sys2Proof.Machine.execEraseSet head number s
  | .writeMapEntry head feeder feedState value => Sys2Proof.Machine.execWriteMapEntry head feeder feedState value s
  | .readMap head => Sys2Proof.Machine.execReadMap head s
  | .writeStationRecord head fields => Sys2Proof.Machine.execWriteStationRecord head fields s
  | .readStationRecord head => Sys2Proof.Machine.execReadStationRecord head s
  | .setFeedState head feeder feedState => Sys2Proof.Machine.execSetFeedState head feeder feedState s
  | .readFeeder head feeder => Sys2Proof.Machine.execReadFeeder head feeder s
  | .feederClose head feeder => Sys2Proof.Machine.execFeederClose head feeder s
  | .feederOpen head feeder => Sys2Proof.Machine.execFeederOpen head feeder s
  | .resetLockout head feeder => Sys2Proof.Machine.execResetLockout head feeder s
  | .clearFeederCounters head feeder => Sys2Proof.Machine.execClearFeederCounters head feeder s
  | .readItems head => Sys2Proof.Machine.execReadItems head s
  | .rectifierStart head => Sys2Proof.Machine.execRectifierStart head s
  | .rectifierStop head => Sys2Proof.Machine.execRectifierStop head s
  | .setVoltageReference head voltage => Sys2Proof.Machine.execSetVoltageReference head voltage s
  | .readRectifier head => Sys2Proof.Machine.execReadRectifier head s
  | .readRail head => Sys2Proof.Machine.execReadRail head s
  | .releaseEarthing head => Sys2Proof.Machine.execReleaseEarthing head s
  | .clearFrameFault head => Sys2Proof.Machine.execClearFrameFault head s
  | .fetchJournal head count => Sys2Proof.Machine.execFetchJournal head count s
  | .releaseJournal head index => Sys2Proof.Machine.execReleaseJournal head index s
  | .readAlarms head => Sys2Proof.Machine.execReadAlarms head s
  | .acknowledgeAlarms head => Sys2Proof.Machine.execAcknowledgeAlarms head s
  | .listRecords head => Sys2Proof.Machine.execListRecords head s
  | .readRecordPiece head slot piece => Sys2Proof.Machine.execReadRecordPiece head slot piece s
  | .freeRecord head slot => Sys2Proof.Machine.execFreeRecord head slot s

end Sys2Proof.Machine
end

