-- ==== Sys2Proof/Safety.lean ====
section
/-! DEFINITION. What a safe step is, and the vocabulary of the statements: what answering a request leaves. -/

namespace Sys2Proof.Machine

/-- A step is safe when it answers a next state: the part has no event that stops it. -/
def safeStep (s : State) : Prop := ∃ t, step s = .next t

/-- R85, R198, R199: the state after a request was taken for execution at once and answered with this payload: the pins
as read at the execution, the reply in the reply slot, and the plant as the request left it. Nothing else changes. -/
def State.repliedWith (s : State) (head : RequestHead) (kind : RequestKind) (payload : List Byte) (plant : Plant) :
    State :=
  { s with
    panel := { s.panel with remote := head.pins.remote, engKey := head.pins.engKey }
    plant := plant
    link := { s.link with slot := some ⟨kind.code + 0x80, head.tag, payload⟩ } }

/-- R52, R59, R62, R198: the state after a write was taken for execution at once: the pins as read at the execution,
the request under execution without a reply, and the store as the write left it. Nothing else changes. -/
def State.writing (s : State) (head : RequestHead) (kind : RequestKind) (store : Store) : State :=
  { s with
    panel := { s.panel with remote := head.pins.remote, engKey := head.pins.engKey }
    store := store
    link := { s.link with executing := some ⟨kind.code, head.tag⟩ } }

/-! ### Invariants of the settings (03) -/

/-- R67: how many feeders' bindings name a set. -/
def Store.useCount (st : Store) (n : SetId) : Nat :=
  (FeederId.all.filter (fun k => decide ((st.binding.get k).set = some n))).length

/-- R64, R65, R67: every binding is the one that the map, the feed states and the sets give now, and the in-use counts
are the counts of the bindings. -/
def State.bindingLaw (s : State) : Prop :=
  (∀ k, s.store.binding.get k = s.store.resolved k) ∧ ∀ n : SetId, s.store.inUse[n] = s.store.useCount n

/-- R69: no feeder has used more attempts than its binding presents. -/
def State.attemptsLaw (s : State) : Prop :=
  ∀ k, (s.plant.feeder k).attempts ≤ (s.store.values k).attempts

/-! ### Invariants of the switchgear, the feeders and the rectifier (04 to 06) -/

/-- R71, R76 to R79: an operation is under way exactly in OPENING and CLOSING, in that direction and only for commanders
of the item; a pulsed coil is energised only during its own operation, and only a test contactor has a held coil. -/
def Item.lawful (i : ItemId) (it : Item) : Prop :=
  (it.state = .opening ↔ ∃ op, it.operation = some op ∧ op.direction = .opening) ∧
  (it.state = .closing ↔ ∃ op, it.operation = some op ∧ op.direction = .closing) ∧
  (∀ op c, it.operation = some op → c ∈ op.waiting → c.mayCommand op.direction i = true) ∧
  (it.openCoil.isSome → it.state = .opening ∧ ItemId.maintained i = false) ∧
  (it.closeCoil.isSome → it.state = .closing ∧ ItemId.maintained i = false) ∧
  (it.held = true → ItemId.maintained i = true)

/-- The law of the switchgear, item by item. -/
def State.itemLaw (s : State) : Prop := ∀ i, (s.plant.item i).lawful i

/-- R97, R99, R100, R102, R115: each timer of a sequencer runs only in its own state or phase, the dead-time and the
settle timer always in theirs; a LOCKED_OUT feeder has a lockout cause. -/
def Sequencer.lawful (f : Sequencer) : Prop :=
  (f.deadTimer.isSome ↔ ∃ x, f.state = .deadTime x) ∧ (f.settleTimer.isSome ↔ f.state = .lineTest .settling) ∧
  (f.serviceTimer.isSome → f.state = .inService) ∧ (f.state = .lockedOut → f.lockout.isSome)

/-- The law of the sequencers, with R92's open-pending set. -/
def State.feederLaw (s : State) : Prop :=
  (∀ k, (s.plant.feeder k).lawful) ∧ ∀ k, k ∈ s.plant.pendingOpen ↔ (s.plant.feeder k).state = .tripping

/-- R124, R135, R136, R140: the rectifier runs only on a station record that presents VALID contents; a firing
rectifier is in RETARD exactly while the open-pending set holds a feeder; outside the firing states there is no
schedule and every gate is IDLE. -/
def State.rectifierLaw (s : State) : Prop :=
  (s.plant.rect.state.running = true → s.store.stationFields.isSome) ∧
  (s.plant.rect.state.firing = true → (s.plant.rect.state = .retard ↔ s.plant.pendingOpen ≠ [])) ∧
  (s.plant.rect.state.firing = false →
    s.plant.rect.schedule = none ∧ ∀ gate : GateId, s.plant.rect.bursts[gate] = none)

/-! ### Invariants of the energy unit, the records, the journal and the link (08 to 10) -/

/-- Every energy counter of the part satisfies a property. -/
def Energy.everyCounter (q : Nat → Prop) (en : Energy) : Prop :=
  (∀ k, q (en.plus.get k)) ∧ (∀ k, q (en.minus.get k)) ∧ q en.rectPlus ∧ q en.rectMinus

/-- No energy counter of `a` is above that of `b`. -/
def Energy.noneAbove (a b : Energy) : Prop :=
  (∀ k, a.plus.get k ≤ b.plus.get k) ∧ (∀ k, a.minus.get k ≤ b.minus.get k) ∧ a.rectPlus ≤ b.rectPlus ∧
    a.rectMinus ≤ b.rectMinus

/-- The newest journal entry of a state is ENERGY_CLEARED, appended since another state. -/
def State.clearedSince (s t : State) : Prop :=
  t.plant.unit.nextIndex = s.plant.unit.nextIndex + 1 ∧
    ∃ x, t.plant.unit.journal.getLast? = some x ∧ x.kind = .energyCleared

/-- R167, R168: how many triples the record of a slot may hold. -/
def Slot.lawful : Slot → Prop
  | .free => True
  | .filling r => 32 ≤ r.triples.length ∧ r.triples.length < 128
  | .complete r | .held r => r.triples.length = 128

/-- R166 to R170: the claim list names each slot that is not FREE once, the HELD slot is the one whose hold timer runs,
a FILLING record holds 32 to 127 triples and every other one 128, and each ring holds 32. -/
def State.recordLaw (s : State) : Prop :=
  (let r := s.plant.records
  r.claims.Nodup ∧ (∀ n : SlotId, n ∈ r.claims ↔ (r.slots[n]).isFree = false) ∧
  (∀ n : SlotId, (∃ x, r.slots[n] = .held x) ↔ ∃ due, r.hold = some (n, due)) ∧
  (∀ n : SlotId, (r.slots[n]).lawful) ∧ ∀ k, (r.rings.get k).length = 32)

/-- R175, R176: the journal holds at most 256 entries with consecutive indices, the newest one below the next index. -/
def State.journalLaw (s : State) : Prop :=
  (let u := s.plant.unit
  u.journal.length ≤ 256 ∧
  ∀ (n : Nat) (x : Entry), u.journal[n]? = some x →
    x.index = u.nextIndex - BitVec.ofNat 16 (u.journal.length - n))

/-- R180, R181: every live condition has its latched flag set, and the ALARM contact is energised exactly while a flag is
set. -/
def State.alarmLaw (s : State) : Prop :=
  (∀ a : Alarm, (s.plant.live s.env).get a = true → s.plant.unit.latched.get a = true) ∧
  (s.plant.unit.contact = true ↔ ∃ a : Alarm, s.plant.unit.latched.get a = true)

/-- R187 to R189: only enabled flags are pending, and while one is, the holdoff timer runs or a notice waits. -/
def State.noticeLaw (s : State) : Prop :=
  (let u := s.plant.unit
  (∀ f, u.pendingFlags.get f = true → u.mask.get f = true) ∧
  ((∃ f, u.pendingFlags.get f = true) → u.holdoff.isSome ∨ u.notice.isSome))

/-- R47, R52, R62, R197, R198: at most one request is in progress: one is under execution exactly while a write is
programmed, and then the reply slot is empty; a record is PROGRAMMING only as the target of that write; the queue
holds at most two frames. -/
def State.linkLaw (s : State) : Prop :=
  (s.link.executing.isSome ↔ s.store.write.isSome) ∧ (s.link.executing.isSome → s.link.slot = none) ∧
  s.link.queue.length ≤ 2 ∧
  (∀ n : SetId, (∃ b, (s.store.sets[n]).state = .programming b) ↔ ∃ f due, s.store.write = some ⟨.set n f, due⟩) ∧
  ((∃ b, s.store.station.state = .programming b) ↔ ∃ f due, s.store.write = some ⟨.station f, due⟩)

/-- Runs commands one after another. -/
def execAll : List Instr → State → Host.Outcome State Fault Refusal
  | [], s => .next s
  | c :: rest, s =>
    match exec c s with
    | .next t => execAll rest t
    | .fault r => .fault r
    | .refused r => .refused r

end Sys2Proof.Machine
end

