-- ==== Sys2Proof/Certificates/Slice0/Obligations.lean ====
section
/-! DEFINITION. The statements for the provers. Each says which rule of spec/ it formalises, or that it is the model's
choice and names the log entry. -/

open Sys2Proof Sys2Proof.Machine

/-- O1. A step runs the command at the front of the queue; on an empty queue the part idles. The model's choice (log
1): the queue of waiting commands stands for the events that come to the part. (00_scope.md, Conventions,
notes/assumptions/1.md) -/
def Obligations.StepTakesTheFrontCommand : Prop :=
  ∀ s : State,
    (∀ (c : Instr) (rest : List Instr),
      step { s with pending := c :: rest } = exec c { s with pending := rest }) ∧
    step { s with pending := [] } = .next { s with pending := [] }

/-- O2. Every command answers a next state and leaves the queue of waiting commands alone. No event stops the part
(log 1 for the queue). (00_scope.md, Conventions, notes/assumptions/1.md) -/
def Obligations.EveryCommandCompletes : Prop :=
  ∀ (c : Instr) (s : State), ∃ t, exec c s = .next t ∧ t.pending = s.pending

/-- O3. A sample instant presents every channel clamped, moves the grid and the histories on, forms the means, and
runs each block's event. The blocks' events run in the order of the operand, the ones it does not name last (log
6, DESIGN CHOICE), and the probes end at eighth 4, the first at an instant 4 or later after a reset (log 19,
DESIGN CHOICE). The wrap of the elapsed count at 2^48 is the model's reading (log 17, DEDUCED), and so is the
clause for a grid already begun (log 4). (R2, R3, R8, R9, R4, R5, R6, R1, R72) -/
def Obligations.SampleInstantConvertsAndAdvances : Prop :=
  ((∀ (x : SampleInputs) (s : State) (c : Channel),
    ∃ t, exec (.sampleInstant x) s = .next t ∧
      (let shows (value : Int) (flag : Bool) : Prop :=
        t.front.latest.get c = value ∧
          t.front.saturation.get c = if flag then 160 else s.front.saturation.get c - 1
      (∀ (num : Int) (den : Nat) (v : Int), x.conversions.get c = .scaled num den → 0 < den →
        v * den ≤ num → num < (v + 1) * den →
        (c.lower ≤ v → v ≤ c.upper → shows v false) ∧
        (c.upper < v → shows c.upper true) ∧
        (v < c.lower → c.lower < 0 → shows c.lower true) ∧
        (v < c.lower → c.lower = 0 → shows 0 false)) ∧
      (x.conversions.get c = .spanLow → c.lower < 0 → shows c.lower true) ∧
      (x.conversions.get c = .spanLow → c.lower = 0 → shows 0 false) ∧
      (x.conversions.get c = .spanHigh → shows c.upper true))) ∧
    (∀ (x : SampleInputs) (s : State),
    ∃ t, exec (.sampleInstant x) s = .next t ∧
      t.time.begun = false ∧ t.time.unsync = s.time.unsync ∧ t.time.source = s.time.source ∧
      (s.time.begun = false →
        t.time.eighth = s.time.eighth + 1 ∧ t.time.tick = s.time.tick + 1 ∧
        t.time.clock = (if s.time.eighth = 7 then s.time.clock + 1 else s.time.clock) ∧
        t.time.elapsed = (if s.time.eighth = 7 then s.time.elapsed + 1 else s.time.elapsed)) ∧
      (s.time.begun = true →
        t.time.eighth = s.time.eighth ∧ t.time.tick = s.time.tick ∧
        t.time.clock = s.time.clock ∧ t.time.elapsed = s.time.elapsed)) ∧
    (∀ (x : SampleInputs) (s : State) (c : Channel),
    ∃ t, exec (.sampleInstant x) s = .next t ∧
      t.front.mean20 c = Int.fdiv (t.front.means.get c).sum 20 ∧
      (t.time.eighth = 7 →
        ∃ m : Int, 8 * m ≤ s.front.sums.get c + t.front.latest.get c ∧
          s.front.sums.get c + t.front.latest.get c < 8 * m + 8 ∧
          t.front.means.get c = (s.front.means.get c).drop 1 ++ [m] ∧ t.front.sums.get c = 0) ∧
      (t.time.eighth ≠ 7 →
        t.front.means.get c = s.front.means.get c ∧
          t.front.sums.get c = s.front.sums.get c + t.front.latest.get c)) ∧
    (∀ (x : SampleInputs) (s : State) (k : FeederId),
    ∃ t, exec (.sampleInstant x) s = .next t ∧
      t.front.history.get k = (s.front.history.get k).drop 1 ++ [t.front.latest.get (.feederCurrent k)])) ∧
    (∀ (x : SampleInputs) (s : State),
    (let runs (e : Env) (p : Plant) (task : InstantTask) : Plant :=
      match task with
      | .trackVab => p.trackVab e
      | .feederSample k =>
        match (p.disc k).sample e k with
        | (d, none) => p.setDisc k d
        | (d, some snap) => (p.setDisc k d).discTrip e k snap
      | .rectifierCurrent => p.rectCurrentSample e
      | .rectifierVoltage => p.rectVoltageSample e
      | .railSample => p.railSample e
      | .probe i => p.probeEnds e i (x.lines.get i)
      | .thermal k =>
        match p.thermalEvent e k with
        | (q, none) => q
        | (q, some snap) => q.discTrip e k snap
      | .settleWatch k => p.settleWatch e k
      | .rectifierMean => p.rectMean e
      | .railMean => p.railMean e
      | .recordMean => p.recordMean e
    let ofMillisecond (task : InstantTask) : Bool :=
      match task with
      | .thermal _ | .settleWatch _ | .rectifierMean | .railMean | .recordMean => true
      | _ => false
    let order := InstantTask.complete x.order
    let taken := s.front.take x.conversions
    ∃ t, exec (.sampleInstant x) s = .next t ∧ t.store = s.store ∧ t.link = s.link ∧ t.panel = s.panel ∧
      (let probes := t.time.eighth = 4 ∧ 4 ≤ t.time.tick
      let comes (task : InstantTask) : Bool := !ofMillisecond task &&
        (match task with
          | .probe _ => decide probes
          | _ => true)
      let sampled := (order.filter comes).foldl (runs ⟨t.time, taken, s.store⟩) s.plant
      (t.time.eighth ≠ 7 → t.front = taken ∧ t.plant = sampled ∧ t.energy = s.energy) ∧
      (t.time.eighth = 7 →
        t.plant = (order.filter ofMillisecond).foldl (runs ⟨t.time, t.front, s.store⟩) sampled))))

/-- O4. CRYSTAL_FAILURE enters FALLBACK, CRYSTAL_RETURN comes back after 100 ms of oscillation; they and an expiry
can begin the next instant. That an expiry may be taken before the samples of its own instant, which it then
begins, is R103, R149 and R170 for the settle, the rail hold and the record hold, and the model's reading (log
4, DEDUCED) for the others; that a timer which is stopped or not yet due does nothing is the model's choice (log
3). (R12, R8, R103, R149, R170) -/
def Obligations.ClockSourceChanges : Prop :=
  ∀ s : State,
    (let next (t : TimeBase) : TimeBase :=
      { t with
        clock := if t.eighth = 7 then t.clock + 1 else t.clock
        elapsed := if t.eighth = 7 then t.elapsed + 1 else t.elapsed
        eighth := t.eighth + 1, tick := t.tick + 1, begun := true }
    (s.time.source = .crystal →
      ∃ t, exec .crystalFailure s = .next t ∧
        t.time = { (if s.time.begun then s.time else next s.time) with source := .fallback, crystalRun := 0 } ∧
        t.plant.unit.latched.clockFallback = true ∧
        t.plant.unit.journal.getLast? = some
          ⟨s.plant.unit.nextIndex, t.time.stamp, .station, .clockFallback, [1]⟩ ∧
        t.time.stamp.free = true ∧
        t.front = s.front ∧ t.store = s.store ∧ t.energy = s.energy ∧ t.link = s.link) ∧
    (s.time.source = .fallback → 800 ≤ s.time.crystalRun →
      ∃ t, exec .crystalReturn s = .next t ∧
        t.time = { (if s.time.begun then s.time else next s.time) with source := .crystal, crystalRun := 0 } ∧
        t.plant.unit.journal.getLast? = some
          ⟨s.plant.unit.nextIndex, t.time.stamp, .station, .clockFallback, [0]⟩ ∧
        t.time.stamp.free = false ∧
        t.front = s.front ∧ t.store = s.store ∧ t.energy = s.energy ∧ t.link = s.link) ∧
    (let t := s.time
    let expires (due : Option Nat) (c : Instr) : Prop :=
      (due = none → exec c s = .next s) ∧
      ∀ n, due = some n →
        (t.tick + 1 < n ∨ n = t.tick + 1 ∧ t.begun = true → exec c s = .next s) ∧
        (n = t.tick + 1 → t.begun = false → exec c s = exec c { s with time := next t })
    expires (some s.plant.tracker.noCrossing) .noCrossingExpiry ∧
    (∀ f, expires (match s.store.write with
      | some ⟨.set _ _, n⟩ => some n
      | _ => none) (.setWriteCompletion f)) ∧
    (∀ f, expires (match s.store.write with
      | some ⟨.station _, n⟩ => some n
      | _ => none) (.stationRecordWriteCompletion f)) ∧
    (∀ v, expires (match s.store.write with
      | some ⟨.mapEntry _ _ _, n⟩ => some n
      | _ => none) (.mapEntryWriteCompletion v)) ∧
    (∀ found, expires (some s.store.scanDue) (.scanVisit found)) ∧
    (∀ i, expires (match (s.plant.item i).openCoil with
        | some n => some n
        | none => (s.plant.item i).closeCoil) (.coilPulseEnd i) ∧
      expires ((s.plant.item i).operation.map Operation.limit) (.limitTimerExpiry i)) ∧
    (∀ k, expires (s.plant.feeder k).deadTimer (.deadTimeExpiry k) ∧
      expires (s.plant.feeder k).settleTimer (.settleExpiry k) ∧
      expires (s.plant.feeder k).serviceTimer (.serviceTimerExpiry k)) ∧
    expires s.plant.rail.holdTimer .railHoldExpiry ∧
    expires (match s.energy.output with
      | .on n => some n
      | _ => none) .energyPulseOnExpiry ∧
    expires (match s.energy.output with
      | .gap n => some n
      | _ => none) .energyPulseGapExpiry ∧
    expires (s.plant.records.hold.map Prod.snd) .recordHoldExpiry ∧
    expires s.plant.unit.holdoff .noticeHoldoffExpiry))

/-- O5. Crossings of VAB update run, list, P and lock by R14 to R17; NO_CROSSING_EXPIRY clears them and refreshes
the AC peak. The operation that SAMPLE_INSTANT applies for the phase tracker. A handling before the expiry is
due is log 3; one after its instant is log 5. Taken before the samples of its own instant, an expiry begins that
instant (O4). (R14, R15, R16, R17) -/
def Obligations.CrossingsAndTheirAbsence : Prop :=
  (∀ (e : Env) (p : Plant) (v0 : Int) (t0 : Nat),
    p.tracker.previous = some (v0, t0) → v0 < 0 → 0 ≤ e.front.latest.vab →
    (let v := e.front.latest.vab
    let at' := t0 + (Int.fdiv (125 * -v0) (v - v0)).toNat
    let r := p.trackVab e
    let q := r.tracker
    (∀ last, p.tracker.lastCrossing = some last →
      (let period := at' - last
      q.previous = some (v, 1000 * e.time.elapsed.toNat + 125 * e.time.eighth.toNat) ∧
      q.lastCrossing = some at' ∧ q.noCrossing = e.time.tick + 240 ∧
      q.acPeak = p.tracker.peak ∧ q.peak = v.natAbs ∧ q.supplyLow = decide (p.tracker.peak < e.supplyLevel) ∧
      (18182 ≤ period → period ≤ 22222 →
        q.run = min 8 (p.tracker.run + 1) ∧
        q.periods = p.tracker.periods.drop (p.tracker.periods.length - 3) ++ [period] ∧
        q.period = (if q.periods.length = 4 then q.periods.sum / 4 else 0) ∧
        q.locked = (p.tracker.locked || decide (q.run = 8)) ∧
        (p.tracker.locked = false → q.locked = true →
          ⟨p.unit.nextIndex, e.time.stamp, .station, .syncLocked, [(q.period : Int)]⟩ ∈ r.unit.journal)) ∧
      (period < 18182 ∨ 22222 < period →
        q.run = 0 ∧ q.periods = [] ∧ q.period = 0 ∧ q.locked = false ∧
        (p.tracker.locked = true →
          ⟨p.unit.nextIndex, e.time.stamp, .station, .syncLost, [1, (period : Int)]⟩ ∈ r.unit.journal)))) ∧
    (p.tracker.lastCrossing = none →
      q = { p.tracker with
        previous := some (v, 1000 * e.time.elapsed.toNat + 125 * e.time.eighth.toNat)
        lastCrossing := some at', noCrossing := e.time.tick + 240, acPeak := p.tracker.peak, peak := v.natAbs
        supplyLow := decide (p.tracker.peak < e.supplyLevel) }))) ∧
    (∀ (e : Env) (p : Plant),
    (∀ v0 t0, p.tracker.previous = some (v0, t0) → 0 ≤ v0 ∨ e.front.latest.vab < 0) →
    p.trackVab e =
      { p with
        tracker := { p.tracker with
          previous := some (e.front.latest.vab, 1000 * e.time.elapsed.toNat + 125 * e.time.eighth.toNat)
          peak := max p.tracker.peak e.front.latest.vab.natAbs } }) ∧
    (∀ s : State,
    (s.plant.tracker.noCrossing ≤ s.time.tick →
      ∃ t, exec .noCrossingExpiry s = .next t ∧
        t.plant.tracker =
          { s.plant.tracker with
            run := 0, periods := [], period := 0, locked := false, lastCrossing := none,
            acPeak := s.plant.tracker.peak, peak := 0,
            supplyLow := decide (s.plant.tracker.peak < s.env.supplyLevel),
            noCrossing := s.time.tick + 240 } ∧
        (s.plant.tracker.locked = true →
          ⟨s.plant.unit.nextIndex, s.time.stamp, .station, .syncLost, [2, 0]⟩ ∈ t.plant.unit.journal) ∧
        t.time = s.time ∧ t.front = s.front ∧ t.store = s.store ∧ t.energy = s.energy ∧ t.link = s.link) ∧
    (s.time.tick + 1 < s.plant.tracker.noCrossing → exec .noCrossingExpiry s = .next s))

/-- O6. The instant function counts samples at or above Imax and trips at Nmax; other states evaluate nothing. The
operation that SAMPLE_INSTANT applies for each feeder current. (R22, R24, R26, R40, R41, R6) -/
def Obligations.InstantFunctionTrips : Prop :=
  ∀ (e : Env) (k : FeederId) (d : Discriminator),
    (let x := lastSampleOf e k
    let v := e.store.values k
    let r := d.sample e k
    (∀ (oldest newest : Int) (earlier between : List Int), between.length = 7 →
      e.front.history.get k = earlier ++ oldest :: (between ++ [newest]) →
      x = ⟨newest, newest - oldest, e.time.stamp⟩) ∧
    (d.state = .armed → (v.imax : Int) ≤ x.i → v.nmax ≤ d.instant + 1 →
      r = ({ d with
              last := x, state := .tripped, instant := 0, startRun := 0, startBase := none, event := none,
              blocking := 0 },
            some ⟨.instant, x.stamp, x.i, x.d, none, d.theta, (e.store.binding.get k).set⟩)) ∧
    (d.state = .armed → (v.imax : Int) ≤ x.i → d.instant + 1 < v.nmax → r.2 = none →
      r.1.instant = d.instant + 1) ∧
    (d.state = .armed → x.i < (v.imax : Int) →
      r.1.instant = 0 ∧ ∀ snap, r.2 = some snap → snap.cause = .rise) ∧
    (d.state ≠ .armed → r = ({ d with last := x }, none)))

/-- O7. The start run counts samples with d at or above Drise, held at 0 while close blocking runs or the rise
function is disabled. The operation that SAMPLE_INSTANT applies for each feeder current. (R27, R28, R33, R34) -/
def Obligations.RiseFunctionStarts : Prop :=
  ∀ (e : Env) (k : FeederId) (d : Discriminator),
    d.state = .armed → d.event = none → (lastSampleOf e k).i < ((e.store.values k).imax : Int) →
    (let x := lastSampleOf e k
    let v := e.store.values k
    let r := d.sample e k
    (0 < d.blocking ∨ v.riseEnabled = false ∨ x.d < (v.drise : Int) →
      r = ({ d with
              last := x, instant := 0, startRun := 0, startBase := none, blocking := d.blocking - 1 }, none)) ∧
    (d.blocking = 0 → v.riseEnabled = true → (v.drise : Int) ≤ x.d → d.startRun + 1 < v.nstart →
      r = ({ d with
              last := x, instant := 0, startRun := d.startRun + 1,
              startBase := if d.startRun = 0 then some (x.i - x.d) else d.startBase }, none)) ∧
    (d.blocking = 0 → v.riseEnabled = true → (v.drise : Int) ≤ x.d → v.nstart ≤ d.startRun + 1 →
      (d.startRun = 0 → d.startBase = none) → (0 < d.startRun → d.startBase.isSome) →
      (let base := d.startBase.getD (x.i - x.d)
      let ended := x.d < (v.dfall : Int) ∧ v.nend ≤ 1
      ((v.deltaI : Int) ≤ x.i - base ∧ v.tmin = 0 →
        ∃ snap, r.2 = some snap ∧ snap.cause = .rise ∧
          snap.rise = some ⟨base, x.i - base, 0⟩ ∧ r.1.state = .tripped) ∧
      (¬ ((v.deltaI : Int) ≤ x.i - base ∧ v.tmin = 0) → ¬ ended → 0 < v.tmax → 0 < v.nend →
        r.2 = none ∧ r.1.state = .armed ∧ r.1.startRun = 0 ∧ r.1.startBase = none ∧
          r.1.event = some
            ⟨base, 1, if x.d < (v.dfall : Int) then 1 else 0, v.dfall, v.nend, v.deltaI, v.tmin, v.tmax⟩))))

/-- O8. A rise event trips at DeltaI and Tmin, ends ENDED at Nend or EXPIRED at Tmax, and otherwise grows one sample
older. The operation that SAMPLE_INSTANT applies for each feeder current. (R29, R30, R31, R32, R40) -/
def Obligations.RiseEventRunsAndEnds : Prop :=
  ∀ (e : Env) (k : FeederId) (d : Discriminator) (ev : RiseEvent),
    d.state = .armed → d.event = some ev → (lastSampleOf e k).i < ((e.store.values k).imax : Int) →
    (let x := lastSampleOf e k
    let r := d.sample e k
    let trips := (ev.deltaI : Int) ≤ x.i - ev.ib ∧ ev.tmin ≤ ev.age
    let n := if x.d < (ev.dfall : Int) then ev.endCount + 1 else 0
    let gone (o : EventOutcome) : Discriminator :=
      { d with
        last := x, instant := 0, event := none, startRun := 0, startBase := none,
        events := if d.events < 65535 then d.events + 1 else d.events, outcome := o, blocking := d.blocking - 1 }
    (trips →
      r = ({ d with
              last := x, state := .tripped, instant := 0, startRun := 0, startBase := none, event := none,
              blocking := 0 },
            some ⟨.rise, x.stamp, x.i, x.d, some ⟨ev.ib, x.i - ev.ib, ev.age⟩, d.theta,
              (e.store.binding.get k).set⟩)) ∧
    (¬ trips → ev.nend ≤ n → r = (gone .ended, none)) ∧
    (¬ trips → n < ev.nend → ev.age = ev.tmax → r = (gone .expired, none)) ∧
    (¬ trips → n < ev.nend → ev.age ≠ ev.tmax →
      r = ({ d with
              last := x, instant := 0, event := some { ev with endCount := n, age := ev.age + 1 },
              blocking := d.blocking - 1 }, none)))

/-- O9. A millisecond event updates θ between its old value and I², then the THERMAL_ALARM condition, then tests the
thermal trip. The operation that SAMPLE_INSTANT applies at each millisecond event. (R35, R37, R38, R40, R41,
R36) -/
def Obligations.ThermalEventAlarmsAndTrips : Prop :=
  (∀ (e : Env) (k : FeederId) (p : Plant),
    (let v := e.store.values k
    let mean := e.front.mean1 (.feederCurrent k)
    let d := p.disc k
    let θ := d.theta + Int.fdiv (mean * mean - d.theta) (2 ^ v.tshift)
    let alarm := decide ((v.ialarm : Int) * v.ialarm ≤ θ)
    let r := p.thermalEvent e k
    let trips := d.state = .armed ∧ v.thermalEnabled = true ∧ (v.ith : Int) * v.ith ≤ θ
    (r.1.disc k).theta = θ ∧ (r.1.disc k).alarm = alarm ∧ (∀ j, j ≠ k → r.1.disc j = p.disc j) ∧
    (alarm = d.alarm → r.1.unit = p.unit) ∧
    (alarm ≠ d.alarm →
      r.1.unit.journal.getLast? = some
        ⟨p.unit.nextIndex, e.time.stamp, .feeder k, .thermalAlarm, [if alarm then 1 else 0]⟩) ∧
    (alarm = true → d.alarm = false → r.1.unit.latched.thermalAlarm.get k = true) ∧
    (trips →
      r.2 = some ⟨.thermal, d.last.stamp, d.last.i, d.last.d, none, θ, (e.store.binding.get k).set⟩ ∧
      (r.1.disc k).state = .tripped ∧ (r.1.disc k).event = none ∧ (r.1.disc k).instant = 0) ∧
    (¬ trips → r.2 = none ∧ (r.1.disc k).state = d.state))) ∧
    (∀ (s : Nat) (mean θ : Int),
    (let next := thermalStep s mean θ
    min θ (mean * mean) ≤ next ∧ next ≤ max θ (mean * mean) ∧
    (next = θ ↔ 0 ≤ mean * mean - θ ∧ mean * mean - θ < 2 ^ s) ∧
    (mean * mean < θ → next < θ)))

/-- O10. Acceptance of CLOSED arms a DISARMED discriminator, leaving CLOSED disarms it, and a snapshot request trips
an ARMED one. The operations that the supervisor and the sequencer apply. (R20, R21, R42) -/
def Obligations.BreakerPositionArms : Prop :=
  ∀ (e : Env) (k : FeederId) (p : Plant) (r : Position) (cause : TripCause),
    (let d := p.disc k
    let clear : Discriminator :=
      { d with instant := 0, startRun := 0, startBase := none, event := none, blocking := 0 }
    (d.state = .disarmed → r ≠ .closed →
      (p.presentBreaker e k r .closed).disc k =
        { clear with state := .armed, blocking := 8 * (e.store.values k).tcb }) ∧
    (d.state ≠ .disarmed → r ≠ .closed →
      (p.presentBreaker e k .closed r).disc k = { clear with state := .disarmed }) ∧
    (p.requestSnapshot e k cause).2 =
      ⟨cause, d.last.stamp, d.last.i, d.last.d, none, d.theta, (e.store.binding.get k).set⟩ ∧
    (p.requestSnapshot e k cause).1.disc k = if d.state = .armed then { clear with state := .tripped } else d)

/-- O11. Clear Feeder Counters with ENG_KEY zeroes the rise-event counter and the last outcome of its feeder, and is
refused otherwise. (R45) -/
def Obligations.ClearFeederCountersClears : Prop :=
  ∀ (head : RequestHead) (n : Byte) (s : State), s.link.takesAtOnce = true →
    (∀ k, head.pins.engKey = true → n.toNat = k.number →
      exec (.clearFeederCounters head n) s =
        .next (s.repliedWith head .clearFeederCounters [0, n]
          { s.plant with
            discs := s.plant.discs.set k { s.plant.discs.get k with events := 0, outcome := .none } })) ∧
    (head.pins.engKey = false →
      exec (.clearFeederCounters head n) s = .next (s.repliedWith head .clearFeederCounters [4] s.plant)) ∧
    (head.pins.engKey = true → n.toNat < 1 ∨ 6 < n.toNat →
      exec (.clearFeederCounters head n) s = .next (s.repliedWith head .clearFeederCounters [3] s.plant))

/-- O12. Write Set is checked for ENG_KEY, number, ranges and check word in order; taken, it programs for 20 ms
without a reply. The check that WRITE_SET applies. (R50, R52, R47, R51) -/
def Obligations.WriteSetIsCheckedInOrder : Prop :=
  (∀ (head : RequestHead) (b : Byte) (f : SetFields) (s : State), s.link.takesAtOnce = true →
    (head.pins.engKey = false →
      exec (.writeSet head b f) s = .next (s.repliedWith head .writeSet [4] s.plant)) ∧
    (head.pins.engKey = true → 16 ≤ b.toNat →
      exec (.writeSet head b f) s = .next (s.repliedWith head .writeSet [3, 0] s.plant)) ∧
    (∀ position, head.pins.engKey = true → b.toNat < 16 → f.firstFailing = some position →
      exec (.writeSet head b f) s =
        .next (s.repliedWith head .writeSet [3, BitVec.ofNat 8 position] s.plant)) ∧
    (∀ n : SetId, head.pins.engKey = true → b.toNat = n.val → f.firstFailing = none →
      exec (.writeSet head b f) s =
        .next (s.writing head .writeSet
          { s.store with
            sets := s.store.sets.set n ⟨.programming (s.store.sets[n]).presents, (s.store.sets[n]).stored⟩
            write := some ⟨.set n f, s.time.tick + 160⟩ }))) ∧
    (∀ f : SetFields,
    (let checks : List Bool :=
      [decide (100 ≤ f.imax.toNat ∧ f.imax.toNat ≤ 32000), decide (1 ≤ f.nmax.toNat ∧ f.nmax.toNat ≤ 16),
        decide (1 ≤ f.drise.toNat ∧ f.drise.toNat ≤ 4000), decide (1 ≤ f.dfall.toNat ∧ f.dfall.toNat ≤ f.drise.toNat),
        decide (1 ≤ f.nstart.toNat ∧ f.nstart.toNat ≤ 16), decide (1 ≤ f.nend.toNat ∧ f.nend.toNat ≤ 64),
        decide (50 ≤ f.deltaI.toNat ∧ f.deltaI.toNat ≤ 32000), decide (f.tmin.toNat ≤ 799),
        decide (f.tmin.toNat < f.tmax.toNat ∧ f.tmax.toNat ≤ 8000), decide (100 ≤ f.ith.toNat ∧ f.ith.toNat ≤ 32000),
        decide (100 ≤ f.ialarm.toNat ∧ f.ialarm.toNat ≤ f.ith.toNat), decide (f.ireclose.toNat ≤ f.ialarm.toNat),
        decide (8 ≤ f.tshift.toNat ∧ f.tshift.toNat ≤ 16), decide (f.tcb.toNat ≤ 2000),
        decide (50 ≤ f.rt.toNat ∧ f.rt.toNat ≤ 2000), decide (1 ≤ f.rmin.toNat ∧ f.rmin.toNat ≤ 5000),
        decide (100 ≤ f.ts.toNat ∧ f.ts.toNat ≤ 2000), decide (100 ≤ f.vlive.toNat ∧ f.vlive.toNat ≤ 2000),
        decide (200 ≤ f.vtest.toNat ∧ f.vtest.toNat ≤ 1000), decide (f.attempts.toNat ≤ 3),
        decide (500 ≤ f.tdead.toNat ∧ f.tdead.toNat ≤ 60000)]
    let ranges : Prop := ∀ b ∈ checks, b = true
    let sum := (f.toList.map BitVec.toNat).sum % 65536
    (f.firstFailing = none ↔ ranges ∧ sum = 65535) ∧ (f.firstFailing = some 22 ↔ ranges ∧ sum ≠ 65535) ∧
    (∀ n : Nat, n < 21 →
      (f.firstFailing = some (n + 1) ↔ checks[n]? = some false ∧ ∀ m : Nat, m < n → checks[m]? = some true))))

/-- O13. A Write Set whose read-back matches makes its set VALID and binds its feeders; one whose read-back fails
makes it INVALID. Taken before the samples of its own instant, an expiry begins that instant (O4). (R53, R54,
R65, R199) -/
def Obligations.SetWriteCompletes : Prop :=
  ∀ (n : SetId) (f readBack : SetFields) (due : Nat) (kind tag : Byte) (s : State),
    s.store.write = some ⟨.set n f, due⟩ → due ≤ s.time.tick → s.link.executing = some ⟨kind, tag⟩ →
    ∃ t, exec (.setWriteCompletion readBack) s = .next t ∧ t.store.write = none ∧ t.link.executing = none ∧
      t.store.station = s.store.station ∧ t.store.map = s.store.map ∧ t.store.feed = s.store.feed ∧
      t.time = s.time ∧ t.front = s.front ∧ t.energy = s.energy ∧
      (∀ m : SetId, m ≠ n → t.store.sets[m] = s.store.sets[m]) ∧
      (∀ k, s.store.entryOf k ≠ some n → t.store.binding.get k = s.store.binding.get k) ∧
      (readBack = f → (f.toList.map BitVec.toNat).sum % 65536 = 65535 →
        t.store.sets[n] = ⟨.valid, some f⟩ ∧
        (∀ k, s.store.entryOf k = some n → t.store.binding.get k = ⟨s.store.feed.get k, some n, .none⟩) ∧
        t.link.slot = some ⟨replyKind kind, tag, [0, BitVec.ofNat 8 n.val]⟩) ∧
      (readBack ≠ f ∨ (readBack.toList.map BitVec.toNat).sum % 65536 ≠ 65535 →
        t.store.sets[n] = ⟨.invalid, some readBack⟩ ∧
        (∀ k, s.store.entryOf k = some n →
          t.store.binding.get k = ⟨s.store.feed.get k, none, .setInvalid⟩) ∧
        t.link.slot = some ⟨replyKind kind, tag, [9, BitVec.ofNat 8 n.val]⟩)

/-- O14. Write Station Record programs for 30 ms; a matching read-back makes it VALID and gives its Vref to the
rectifier's reference. Taken before the samples of its own instant, an expiry begins that instant (O4). (R59,
R61, R131, R51) -/
def Obligations.StationRecordIsWritten : Prop :=
  (∀ (head : RequestHead) (f : StationFields) (s : State), s.link.takesAtOnce = true →
      (head.pins.engKey = false →
        exec (.writeStationRecord head f) s = .next (s.repliedWith head .writeStationRecord [4] s.plant)) ∧
      (∀ position, head.pins.engKey = true → f.firstFailing = some position →
        exec (.writeStationRecord head f) s =
          .next (s.repliedWith head .writeStationRecord [3, BitVec.ofNat 8 position] s.plant)) ∧
      (head.pins.engKey = true → f.firstFailing = none →
        exec (.writeStationRecord head f) s =
          .next (s.writing head .writeStationRecord
            { s.store with
              station := ⟨.programming s.store.station.presents, s.store.station.stored⟩
              write := some ⟨.station f, s.time.tick + 240⟩ }))) ∧
    (∀ (f readBack : StationFields) (due : Nat) (kind tag : Byte) (s : State),
      s.store.write = some ⟨.station f, due⟩ → due ≤ s.time.tick → s.link.executing = some ⟨kind, tag⟩ →
      ∃ t, exec (.stationRecordWriteCompletion readBack) s = .next t ∧ t.link.executing = none ∧
        t.time = s.time ∧ t.front = s.front ∧ t.energy = s.energy ∧
        (readBack = f → (f.toList.map BitVec.toNat).sum % 65536 = 65535 →
          t.store = { s.store with station := ⟨.valid, some f⟩, write := none } ∧
          t.plant.rect.reference = f.vref.toNat ∧ t.link.slot = some ⟨replyKind kind, tag, [0]⟩) ∧
        (readBack ≠ f ∨ (readBack.toList.map BitVec.toNat).sum % 65536 ≠ 65535 →
          t.store = { s.store with station := ⟨.invalid, some readBack⟩, write := none } ∧
          (s.plant.rect.state.running = true →
            t.plant.rect.state = .stopped ∧ t.plant.rect.stopCause = .settings) ∧
          t.link.slot = some ⟨replyKind kind, tag, [9]⟩)) ∧
    (∀ f : StationFields,
    (let a := f.alphaMin.toNat
    let checks : List Bool :=
      [decide (f.offset.toNat ≤ 3599), decide (50 ≤ a ∧ a ≤ 300),
        decide (600 ≤ f.alphaMax.toNat ∧ a < f.alphaMax.toNat ∧ f.alphaMax.toNat ≤ 1500),
        decide (a ≤ f.alphaRetard.toNat ∧ f.alphaRetard.toNat ≤ f.alphaMax.toNat), decide (f.ki.toNat ≤ 255),
        decide (f.kc.toNat ≤ 255), decide (600 ≤ f.vref.toNat ∧ f.vref.toNat ≤ 900), decide (f.rdroop.toNat ≤ 200),
        decide (800 ≤ f.vblock.toNat ∧ f.vblock.toNat ≤ 1100), decide (10 ≤ f.vhys.toNat ∧ f.vhys.toNat ≤ 200),
        decide (100 ≤ f.ilimit.toNat ∧ f.ilimit.toNat ≤ 32000),
        decide (f.ilimit.toNat ≤ f.irectTrip.toNat ∧ f.irectTrip.toNat ≤ 32000),
        decide (100 ≤ f.burst.toNat ∧ f.burst.toNat ≤ 1200), decide (50 ≤ f.vacMin.toNat ∧ f.vacMin.toNat ≤ 1000),
        decide (50 ≤ f.u1.toNat ∧ f.u1.toNat ≤ 300), decide (100 ≤ f.t1.toNat ∧ f.t1.toNat ≤ 10000),
        decide (100 ≤ f.u2.toNat ∧ f.u1.toNat < f.u2.toNat ∧ f.u2.toNat ≤ 600),
        decide (200 ≤ f.u3.toNat ∧ f.u2.toNat < f.u3.toNat ∧ f.u3.toNat ≤ 1000),
        decide (1 ≤ f.th.toNat ∧ f.th.toNat ≤ 600), decide (2 ≤ f.nrep.toNat ∧ f.nrep.toNat ≤ 8),
        decide (1 ≤ f.w.toNat ∧ f.w.toNat ≤ 60), decide (10 ≤ f.ireopen.toNat ∧ f.ireopen.toNat ≤ 2000),
        decide (100 ≤ f.iframe.toNat ∧ f.iframe.toNat ≤ 8000), decide (10 ≤ f.tf.toNat ∧ f.tf.toNat ≤ 200),
        decide (10 ≤ f.topenLim.toNat ∧ f.topenLim.toNat ≤ 200),
        decide (50 ≤ f.tcloseLim.toNat ∧ f.tcloseLim.toNat ≤ 1000), decide (1 ≤ f.icreep.toNat ∧ f.icreep.toNat ≤ 100)]
    let ranges : Prop := ∀ b ∈ checks, b = true
    let sum := (f.toList.map BitVec.toNat).sum % 65536
    (f.firstFailing = none ↔ ranges ∧ sum = 65535) ∧ (f.firstFailing = some 28 ↔ ranges ∧ sum ≠ 65535) ∧
    (∀ n : Nat, n < 27 →
      (f.firstFailing = some (n + 1) ↔ checks[n]? = some false ∧ ∀ m : Nat, m < n → checks[m]? = some true))))

/-- O15. Write Map Entry is checked in order and programs for 5 ms; its completion changes one entry and resolves
one feeder. Taken before the samples of its own instant, an expiry begins that instant (O4). (R62, R65) -/
def Obligations.MapEntryIsWritten : Prop :=
  (∀ (head : RequestHead) (a b c : Byte) (s : State), s.link.takesAtOnce = true →
      (head.pins.engKey = false →
        exec (.writeMapEntry head a b c) s = .next (s.repliedWith head .writeMapEntry [4] s.plant)) ∧
      (head.pins.engKey = true →
        (a.toNat < 1 ∨ 6 < a.toNat) ∨ 3 < b.toNat ∨ (16 ≤ c.toNat ∧ c.toNat < 255) →
        exec (.writeMapEntry head a b c) s = .next (s.repliedWith head .writeMapEntry [3] s.plant)) ∧
      (∀ k f, head.pins.engKey = true → a.toNat = k.number → b.toNat = FeedState.code f →
        c.toNat < 16 ∨ c.toNat = 255 →
        ∃ v : Option SetId, v.map Fin.val = (if c.toNat = 255 then none else some c.toNat) ∧
          exec (.writeMapEntry head a b c) s =
            .next (s.writing head .writeMapEntry
              { s.store with write := some ⟨.mapEntry k f v, s.time.tick + 40⟩ }))) ∧
    (∀ (k : FeederId) (f : FeedState) (value readBack : Option SetId) (due : Nat) (kind tag : Byte) (s : State),
      s.store.write = some ⟨.mapEntry k f value, due⟩ → due ≤ s.time.tick →
      s.link.executing = some ⟨kind, tag⟩ →
      ∃ t, exec (.mapEntryWriteCompletion readBack) s = .next t ∧
        t.store.write = none ∧ t.link.executing = none ∧ t.store.sets = s.store.sets ∧
        t.store.station = s.store.station ∧ t.store.feed = s.store.feed ∧
        t.time = s.time ∧ t.front = s.front ∧ t.energy = s.energy ∧
        (∀ j g, (t.store.map.get j).get g =
          if j = k ∧ g = f then (if readBack = value then value else none) else (s.store.map.get j).get g) ∧
        t.store.binding.get k = t.store.resolved k ∧
        (∀ j, j ≠ k → t.store.binding.get j = s.store.binding.get j) ∧
        t.link.slot = some ⟨replyKind kind, tag,
          if readBack = value then
            [0, BitVec.ofNat 8 (4 * (k.number - 1) + FeedState.code f),
              BitVec.ofNat 8 (match value with | some n => n.val | none => 255)]
          else [9]⟩)

/-- O16. Erase Set empties a set no feeder is bound to; SCAN_VISIT makes a VALID record that fails its check
INVALID, and its loss stops the rectifier. Contents that a visit finds changed but still within the check word
rule leave the record with its old contents: the model's choice (log 26, DESIGN CHOICE). Taken before the
samples of its own instant, an expiry begins that instant (O4). (R56, R57, R51, R122, R124) -/
def Obligations.SetsLeaveTheStore : Prop :=
  (∀ (head : RequestHead) (b : Byte) (s : State), s.link.takesAtOnce = true →
    (head.pins.engKey = false →
      exec (.eraseSet head b) s = .next (s.repliedWith head .eraseSet [4] s.plant)) ∧
    (head.pins.engKey = true → 16 ≤ b.toNat →
      exec (.eraseSet head b) s = .next (s.repliedWith head .eraseSet [3] s.plant)) ∧
    (∀ n : SetId, head.pins.engKey = true → b.toNat = n.val → 0 < s.store.inUse[n] →
      exec (.eraseSet head b) s = .next (s.repliedWith head .eraseSet [6] s.plant)) ∧
    (∀ n : SetId, head.pins.engKey = true → b.toNat = n.val → s.store.inUse[n] = 0 →
      ∃ t, exec (.eraseSet head b) s = .next t ∧
        t.store.sets = s.store.sets.set n ⟨.empty, none⟩ ∧ t.store.station = s.store.station ∧
        t.store.map = s.store.map ∧ t.store.feed = s.store.feed ∧ t.store.write = s.store.write ∧
        t.time = s.time ∧ t.front = s.front ∧ t.energy = s.energy ∧
        t.link = { s.link with slot := some ⟨0x92, head.tag, [0, BitVec.ofNat 8 n.val]⟩ })) ∧
    (∀ (found : Option FoundRecord) (s : State), s.store.scanDue ≤ s.time.tick →
    ∃ t, exec (.scanVisit found) s = .next t ∧ t.store.scan = s.store.scan + 1 ∧
      t.store.scanDue = s.store.scanDue + 80 ∧ t.store.map = s.store.map ∧ t.store.feed = s.store.feed ∧
      t.store.write = s.store.write ∧ t.time = s.time ∧ t.front = s.front ∧ t.energy = s.energy ∧
      t.link = s.link ∧
      (∀ n : SetId, n.val ≠ s.store.scan.val → t.store.sets[n] = s.store.sets[n]) ∧
      (∀ (n : SetId) (f : SetFields), n.val = s.store.scan.val → s.store.sets[n] = ⟨.valid, some f⟩ →
        (let now := foundSet n found f
        t.store.sets[n] =
          if (now.toList.map BitVec.toNat).sum % 65536 = 65535 then ⟨.valid, some f⟩ else ⟨.invalid, some now⟩)) ∧
      (∀ n : SetId, n.val = s.store.scan.val → (s.store.sets[n]).state ≠ .valid →
        t.store.sets[n] = s.store.sets[n]) ∧
      (∀ f : StationFields, s.store.scan.val = 16 → s.store.station = ⟨.valid, some f⟩ →
        (let now := foundStation found f
        t.store.station =
          if (now.toList.map BitVec.toNat).sum % 65536 = 65535 then ⟨.valid, some f⟩ else ⟨.invalid, some now⟩)) ∧
      (s.store.scan.val < 16 ∨ s.store.station.state ≠ .valid →
        t.store.station = s.store.station ∧ t.plant.rect = s.plant.rect) ∧
      (∀ f : StationFields, s.store.scan.val = 16 → s.store.station = ⟨.valid, some f⟩ →
        (let r := s.plant.rect
        let passes := ((foundStation found f).toList.map BitVec.toNat).sum % 65536 = 65535
        let runs := r.state = .syncing ∨ r.state = .blocked ∨ r.state.firing = true
        (passes ∨ ¬ runs → t.plant.rect = r) ∧
        (¬ passes → runs →
          t.plant.rect = { r with
            state := .stopped, stopCause := .settings, schedule := none, overcurrent := 0, overvoltage := 0
            bursts := Vector.replicate 12 none } ∧
          t.plant.unit.attention.rectifier = true ∧
          t.plant.unit.journal.getLast? = some ⟨t.plant.unit.nextIndex - 1, s.time.stamp, .rectifier, .rectState,
            [(r.state.code : Int), 0, 4]⟩ ∧
          ((s.plant.item .acb).state = .opened → t.plant.items = s.plant.items) ∧
          ((s.plant.item .acb).state ≠ .opened → (t.plant.item .acb).state = .opening)))))

/-- O17. Set Feed State applies codes 0..3 and takes any other as UNKNOWN; a change resolves that feeder's binding
only. (R63, R64, R65) -/
def Obligations.SetFeedStateResolvesTheFeeder : Prop :=
  ∀ (head : RequestHead) (a b : Byte) (s : State), s.link.takesAtOnce = true →
    ((a.toNat < 1 ∨ 6 < a.toNat) →
      exec (.setFeedState head a b) s = .next (s.repliedWith head .setFeedState [3] s.plant)) ∧
    (∀ (k : FeederId) (f : FeedState), a.toNat = k.number → f.code = (if 3 < b.toNat then 3 else b.toNat) →
      (s.store.feed.get k = f →
        exec (.setFeedState head a b) s =
          .next (s.repliedWith head .setFeedState [0, a, BitVec.ofNat 8 f.code] s.plant)) ∧
      (s.store.feed.get k ≠ f →
        ∃ t, exec (.setFeedState head a b) s = .next t ∧
          t.store.feed = s.store.feed.set k f ∧ t.store.binding.get k = t.store.resolved k ∧
          (∀ j, j ≠ k → t.store.binding.get j = s.store.binding.get j) ∧
          t.store.sets = s.store.sets ∧ t.store.station = s.store.station ∧ t.store.map = s.store.map ∧
          t.store.write = s.store.write ∧ t.time = s.time ∧ t.front = s.front ∧ t.energy = s.energy ∧
          t.link = { s.link with slot := some ⟨0x97, head.tag, [0, a, BitVec.ofNat 8 f.code]⟩ }))

/-- O18. Every step keeps each binding equal to what map, feed state and sets give, and each in-use count equal to
its bindings. (R64, R65, R67) -/
def Obligations.BindingLawIsKept : Prop :=
  ∀ s t : State, s.bindingLaw → step s = .next t → t.bindingLaw

/-- O19. Every step keeps each feeder's attempts used within the Attempts of its binding. (R69) -/
def Obligations.AttemptsLawIsKept : Prop :=
  (∀ s t : State, s.bindingLaw → s.attemptsLaw → step s = .next t → t.attemptsLaw) ∧
    (∀ (k : FeederId) (s : State), s.store.binding.get k ≠ s.store.resolved k →
      ((s.resolve k).plant.feeder k).attempts =
        min (s.plant.feeder k).attempts ((s.resolve k).store.values k).attempts ∧
      ((s.resolve k).plant.feeder k).state = (s.plant.feeder k).state) ∧
    (∀ (n : SetId) (k : FeederId) (s : State), (s.store.binding.get k).set = some n →
      ((s.cutNaming n).plant.feeder k).attempts =
        min (s.plant.feeder k).attempts (s.store.values k).attempts ∧
      ((s.cutNaming n).plant.feeder k).state = (s.plant.feeder k).state)

/-- O20. An open command joins an opening and otherwise starts one; a close command starts, completes at once or is
refused by item state. The commands that the sequencer, the rectifier controller and the rail monitor give.
(R71, R76, R77) -/
def Obligations.CommandsActByItemState : Prop :=
  ∀ (e : Env) (c : Commander) (i : ItemId) (p : Plant),
    (let it := p.item i
    let joined (op : Operation) : Operation :=
      { op with waiting := if c ∈ op.waiting then op.waiting else op.waiting ++ [c] }
    let started (d : Direction) (limit : Nat) : Item :=
      { it with
        state := if d = .opening then .opening else .closing
        openCoil := if d = .opening ∧ ItemId.maintained i = false then some (e.time.tick + 320) else none
        closeCoil := if d = .closing ∧ ItemId.maintained i = false then some (e.time.tick + 1600) else none
        held := ItemId.maintained i && decide (d = .closing)
        operation := some ⟨d, e.time.tick, e.time.tick + 8 * limit, [c], false⟩ }
    (c.mayCommand .opening i = true →
      (∀ op, it.state = .opening → it.operation = some op →
        p.openCommand e c i = p.setItem i { it with operation := some (joined op) }) ∧
      (it.state ≠ .opening → p.openCommand e c i = p.setItem i (started .opening e.openLimit))) ∧
    (c.mayCommand .opening i = false → p.openCommand e c i = p) ∧
    (c.mayCommand .closing i = true →
      (it.state = .opened ∨ it.state = .failedClose ∧ it.sensed = .opened →
        p.closeCommand e c i = (p.setItem i (started .closing e.closeLimit), none)) ∧
      (it.state = .closed → p.closeCommand e c i = (p, some .completed)) ∧
      (it.state ≠ .opened → it.state ≠ .closed → (it.state = .failedClose → it.sensed ≠ .opened) →
        p.closeCommand e c i = (p, some .wrongState))) ∧
    (c.mayCommand .closing i = false → p.closeCommand e c i = (p, some .wrongState)))

/-- O21. A probe's levels give a result, three equal results a position, and its acceptance the item state, the
entry and the alarm of R80 to R83. The operations that SAMPLE_INSTANT applies to each sense line at eighth 4.
The old position of ITEM_DISCREPANT after an UNSENSED period is log 25. (R72, R73, R74, R75, R78, R80, R81, R82,
R83, R87) -/
def Obligations.ProbesAreAcceptedInThrees : Prop :=
  (∀ (l : LineLevels) (it : Item),
    (let q := it.probeStep l
    q.levels = some l ∧ q.state = it.state ∧ q.sensed = it.sensed ∧ q.firm = it.firm ∧
    q.openCoil = it.openCoil ∧ q.closeCoil = it.closeCoil ∧ q.held = it.held ∧
    (l.pullDown = true → l.pullUp = false → q.result = it.result ∧ q.run = it.run) ∧
    (¬ (l.pullDown = true ∧ l.pullUp = false) →
      (let r : Position := if l.pullDown then .closed else if l.pullUp then .unsensed else .opened
      q.result = some r ∧ q.run = if it.result = some r then min 3 (it.run + 1) else 1)) ∧
    (∀ r, q.newPosition = some r ↔ q.result = some r ∧ q.run = 3 ∧ r ≠ q.sensed))) ∧
    (∀ (it : Item) (r : Position), r ≠ .unknown →
    (let q := it.accept (acceptanceOf it.state it.firm r) r
    let firmly : ItemState := if r = .opened then .opened else .closed
    let completes := r = .opened ∧ it.state = .opening ∨ r = .closed ∧ it.state = .closing
    q.sensed = r ∧ q.firm = (if r = .unsensed then it.firm else some r) ∧ q.held = it.held ∧
    (completes → q.state = firmly ∧ q.operation = none ∧ q.openCoil = none ∧ q.closeCoil = none) ∧
    (¬ completes → q.operation = it.operation ∧ q.openCoil = it.openCoil ∧ q.closeCoil = it.closeCoil) ∧
    (r = .unsensed →
      q.state = if it.state = .unknown ∨ it.state = .opened ∨ it.state = .closed then .unsensed else it.state) ∧
    (r ≠ .unsensed → ¬ completes →
      q.state =
        if it.state = .unknown ∨ it.state = .unsensed ∨
            (r = .opened ∧ (it.state = .closed ∨ it.state = .failedOpen)) ∨
            (r = .closed ∧ (it.state = .opened ∨ it.state = .failedClose)) then firmly
        else it.state))) ∧
    (∀ (e : Env) (i : ItemId) (st : ItemState) (sensed r : Position) (firm : Option Position) (p : Plant),
    r ≠ .unknown →
    (let q := p.postAcceptance e i (acceptanceOf st firm r) sensed firm r
    let entry (kind : Kind) (details : List Int) : Prop :=
      q.unit.journal.getLast? = some ⟨p.unit.nextIndex, e.time.stamp, .item i, kind, details⟩
    let stays := r = .opened ∧ (st = .opened ∨ st = .opening ∨ st = .closing ∨ st = .failedClose) ∨
      r = .closed ∧ (st = .closed ∨ st = .opening ∨ st = .closing ∨ st = .failedOpen)
    let moved := r = .opened ∧ st = .closed ∨ r = .closed ∧ st = .opened ∨
      r ≠ .unsensed ∧ st = .unsensed ∧ firm ≠ none ∧ firm ≠ some r
    q.items = p.items ∧ q.feeders = p.feeders ∧
    (r = .unsensed → entry .itemUnsensed [(sensed.code : Int)] ∧ q.unit.latched.get (.unsensed i) = true ∧
      q.unit.attention.switchgear = true) ∧
    (r ≠ .unsensed → st = .unknown → entry .itemPosition [(r.code : Int), 0]) ∧
    (r = .opened ∧ st = .failedOpen ∨ r = .closed ∧ st = .failedClose → entry .itemPosition [(r.code : Int), 2]) ∧
    (r ≠ .unsensed → st = .unsensed → firm = none ∨ firm = some r → entry .itemPosition [(r.code : Int), 3]) ∧
    (moved → entry .itemDiscrepant [((firm.getD sensed).code : Int), (r.code : Int)] ∧
      q.unit.latched.get (.discrepant i) = true ∧ q.unit.attention.switchgear = true) ∧
    (stays → q = p))) ∧
    (∀ (e : Env) (p : Plant),
    (∀ (i : ItemId) (op : Operation),
      (let it := p.item i
      it.operation = some op → it.state = (if op.direction = .opening then .opening else .closing) →
      (∀ c ∈ op.waiting, c.mayCommand op.direction i = true) →
      (p.accept e i op.direction.target).item i =
        { it with
          state := if op.direction = .opening then .opened else .closed
          sensed := op.direction.target, firm := some op.direction.target
          operation := none, openCoil := none, closeCoil := none })) ∧
    (∀ k : FeederId,
      (let it := p.item (.tc k)
      let q := p.accept e (.tc k) .closed
      (∀ x, (p.feeder k).state ≠ .lineTest x) → (p.feeder k).state ≠ .closing →
      it.state = .unknown ∨ it.state = .opened ∨ it.state = .unsensed ∨ it.state = .failedClose →
      it.held = false → it.operation = none →
      q.item (.tc k) =
        { it with
          state := .opening, sensed := .closed, firm := some .closed, openCoil := none, closeCoil := none
          operation := some ⟨.opening, e.time.tick, e.time.tick + 8 * e.openLimit, [], false⟩ } ∧
      q.feeders = p.feeders)))

/-- O22. COIL_PULSE_END cuts the pulse, LIMIT_TIMER_EXPIRY fails an operation short of its target; at the target it
completes. A handling after the expiry's instant acts at the present one (log 5). Taken before the samples of
its own instant, an expiry begins that instant (O4). (R71, R78, R79, R87, R180, R122, R127) -/
def Obligations.OperationsEnd : Prop :=
  (∀ (i : ItemId) (x : Nat) (s : State),
    (let it := s.plant.item i
    it.openCoil = some x ∨ (it.openCoil = none ∧ it.closeCoil = some x) → x ≤ s.time.tick →
    ((∀ op, it.operation = some op → it.sensed ≠ op.direction.target) →
      exec (.coilPulseEnd i) s =
        .next { s with plant := s.plant.setItem i { it with openCoil := none, closeCoil := none } }) ∧
    (∀ op, it.operation = some op → it.sensed = op.direction.target →
      (∀ c ∈ op.waiting, c.mayCommand op.direction i = true) →
      ∃ t, exec (.coilPulseEnd i) s = .next t ∧
        t.plant.item i =
          { it with
            state := if op.direction = .opening then .opened else .closed
            operation := none, openCoil := none, closeCoil := none } ∧
        t.store = s.store ∧ t.time = s.time ∧ t.link = s.link ∧ t.energy = s.energy))) ∧
    (∀ (i : ItemId) (op : Operation) (s : State),
    (let it := s.plant.item i
    it.operation = some op → op.limit ≤ s.time.tick →
    (∀ c ∈ op.waiting, c.mayCommand op.direction i = true) →
    ∃ t, exec (.limitTimerExpiry i) s = .next t ∧
      t.store = s.store ∧ t.time = s.time ∧ t.front = s.front ∧ t.link = s.link ∧ t.energy = s.energy ∧
      (it.sensed ≠ op.direction.target →
        (it.lawful i → t.plant.unit.latched.itemFail.get i = true) ∧
        (let r := s.plant.rect
        let stops := i = .acb ∧ op.direction = .closing ∧ .rectifier ∈ op.waiting ∧ r.state = .syncing
        (¬ stops →
          t.plant.item i =
            { it with
              state := if op.direction = .opening then .failedOpen else .failedClose
              operation := none, openCoil := none, closeCoil := none, held := false }) ∧
        (stops →
          t.plant.item .acb =
            { it with
              state := .opening, openCoil := some (s.time.tick + 320), closeCoil := none, held := false
              operation := some
                ⟨.opening, s.time.tick, s.time.tick + 8 * s.env.openLimit, [.rectifier], false⟩ } ∧
          t.plant.rect =
            { r with
              state := .stopped, stopCause := .acbFail, schedule := none, overcurrent := 0, overvoltage := 0
              bursts := Vector.replicate 12 none } ∧
          t.plant.unit.attention.rectifier = true ∧
          t.plant.unit.journal.getLast? = some
            ⟨s.plant.unit.nextIndex + 1, s.time.stamp, .rectifier, .rectState, [1, 0, 3]⟩))) ∧
      (it.sensed = op.direction.target →
        t.plant.item i =
          { it with
            state := if op.direction = .opening then .opened else .closed
            operation := none, openCoil := none, closeCoil := none })))

/-- O23. Every step keeps each item lawful: operations match OPENING and CLOSING, coils run only in their own
operation. (R71, R76, R77, R78, R79) -/
def Obligations.SwitchgearLawIsKept : Prop :=
  ∀ s t : State, s.itemLaw → step s = .next t → t.itemLaw

/-- O24. A trip in or out of IN_SERVICE, a direct release, the completed opening of a trip and its failure do what
R93 to R96 and R98 say. The operations that a discriminator trip, the orders and the supervisor's outcomes
apply. FEEDER_TRIP before the RECT_STATE that its join causes is the model's reading of R93 and R141 (log 43,
DEDUCED), and that a trip out of service commands TCk open unless its item state is OPEN is its reading of R94's
cancelling of a line test (log 24, DEDUCED). (R92, R93, R94, R95, R96, R98, R116, R136, R141) -/
def Obligations.TripInServiceOpensAndRecords : Prop :=
  (∀ (e : Env) (k : FeederId) (snap : Snapshot) (p : Plant),
    (let claim := p.records.claim k snap
    let again := snap.cause = .instant ∨ snap.cause = .rise ∨ snap.cause = .thermal ∨ snap.cause = .railSubstitute
    let trip : Entry := ⟨p.unit.nextIndex, e.time.stamp, .feeder k, .feederTrip,
      [(snap.cause.code : Int), snap.i, match claim.2 with | some n => n.val | none => 255]⟩
    let retards := p.pendingOpen = [] ∧ e.store.stationFields.isSome ∧
      (p.rect.state = .softStart ∨ p.rect.state = .regulating ∨ p.rect.state = .currentLimit)
    let trips (q : Plant) : Prop :=
      (let f := q.feeder k
      f.state = .tripping ∧ f.serviceTimer = none ∧ f.deadTimer = none ∧ f.settleTimer = none ∧
      f.lastCause = some snap.cause ∧ f.snapshot = some snap ∧ f.attempts = (p.feeder k).attempts ∧
      ((q.item (.fb k)).state = .opening ∧ ∃ op, (q.item (.fb k)).operation = some op) ∧
      k ∈ q.pendingOpen ∧ (∀ j, j ≠ k → (j ∈ q.pendingOpen ↔ j ∈ p.pendingOpen)) ∧
      q.records = claim.1 ∧
      (¬ retards → q.unit.journal.getLast? = some trip ∧ q.rect = p.rect) ∧
      (retards → q.rect.state = .retard ∧ q.unit.journal.dropLast.getLast? = some trip ∧
        q.unit.journal.getLast? = some ⟨p.unit.nextIndex + 1, e.time.stamp, .rectifier, .rectState,
          [(p.rect.state.code : Int), 5, 0]⟩) ∧
      q.unit.attention.trip = true ∧ q.rail = p.rail ∧
      (∀ j, j ≠ k → q.feeder j = p.feeder j) ∧ q.discs = p.discs ∧
      (∀ i, i ≠ .fb k → i ≠ .tc k → q.item i = p.item i))
    (let q := p.tripInService e k snap
    trips q ∧ q.item (.tc k) = p.item (.tc k) ∧
    (again → (q.feeder k).reclose = some true ∧
      (q.feeder k).exit = if (p.feeder k).exit = some .out then some .out else none) ∧
    (¬ again → (q.feeder k).reclose = some false ∧
      (q.feeder k).exit = some (.lockedOut (match snap.cause with
        | .backup => .backup
        | .frameFault => .frameFault
        | _ => .tripOutOfService)))) ∧
    (let q := p.discTrip e k snap
    ((p.feeder k).state = .inService → q = p.tripInService e k snap) ∧
    ((p.feeder k).state = .tripping → q = p) ∧
    ((p.feeder k).state ≠ .inService → (p.feeder k).state ≠ .tripping →
      trips q ∧ (q.feeder k).reclose = some false ∧ (q.feeder k).exit = some (.lockedOut .tripOutOfService) ∧
      ((∃ x, (p.feeder k).state = .lineTest x) → (p.item (.tc k)).state ≠ .opened →
        (q.item (.tc k)).state = .opening) ∧
      ((∀ x, (p.feeder k).state ≠ .lineTest x) ∨ (p.item (.tc k)).state = .opened →
        q.item (.tc k) = p.item (.tc k)))))) ∧
    (∀ (e : Env) (k : FeederId) (p : Plant),
    (let d := p.disc k
    let f := p.feeder k
    let v := e.store.values k
    let waits (g : Sequencer) : Prop :=
      g.state = .deadTime .waiting ∧ g.deadTimer = some (e.time.tick + 8 * v.tdead) ∧ g.deferral = none ∧
        g.attempts = f.attempts
    let locks (g : Sequencer) (c : LockoutCause) : Prop := g.state = .lockedOut ∧ g.lockout = some c
    (let snap : Snapshot :=
      ⟨.directRelease, d.last.stamp, d.last.i, d.last.d, none, d.theta, (e.store.binding.get k).set⟩
    let q := p.directRelease e k
    let g := q.feeder k
    let claim := p.records.claim k snap
    q.records = claim.1 ∧ g.lastCause = some .directRelease ∧ g.snapshot = some snap ∧
    q.items = p.items ∧ q.rect = p.rect ∧ q.pendingOpen = p.pendingOpen ∧ q.unit.attention.trip = true ∧
    (f.attempts < v.attempts → waits g ∧
      q.unit.journal.getLast? = some ⟨p.unit.nextIndex, e.time.stamp, .feeder k, .feederTrip,
        [3, d.last.i, match claim.2 with | some n => n.val | none => 255]⟩) ∧
    (v.attempts ≤ f.attempts → locks g .attemptsExhausted)) ∧
    (let q := p.trippingCompleted e k
    let g := q.feeder k
    k ∉ q.pendingOpen ∧ (∀ j, j ≠ k → (j ∈ q.pendingOpen ↔ j ∈ p.pendingOpen) ∧ q.feeder j = p.feeder j) ∧
    q.items = p.items ∧
    (∀ c, f.exit = some (.lockedOut c) → locks g c) ∧ (f.exit = some .out → g.state = .out ∧
      ⟨p.unit.nextIndex, e.time.stamp, .feeder k, .feederOpened, [(f.state.code : Int)]⟩ ∈ q.unit.journal) ∧
    (f.exit = none → f.attempts < v.attempts → waits g) ∧
    (f.exit = none → v.attempts ≤ f.attempts → locks g .attemptsExhausted) ∧
    (p.pendingOpen = [k] → p.rect.state = .retard → q.rect = { p.rect with state := .regulating } ∧
      q.unit.journal.getLast? = some
        ⟨q.unit.nextIndex - 1, e.time.stamp, .rectifier, .rectState, [5, 3, 0]⟩)) ∧
    (let q := p.breakerFailure e k
    locks (q.feeder k) .breakerFailure ∧ k ∉ q.pendingOpen ∧ (q.item .acb).state = .opening ∧
    ⟨p.unit.nextIndex, e.time.stamp, .feeder k, .breakerFailure, [(k.number : Int),
      ((FeederId.all.filter (fun j => decide (j ≠ k ∧ (p.feeder j).state = .inService))).length : Nat)]⟩ ∈
        q.unit.journal ∧
    (p.rect.state ≠ .tripped → q.rect.state = .tripped ∧ q.rect.stopCause = .breakerFailure ∧
      q.rect.schedule = none ∧ q.unit.latched.rectTripped = true) ∧
    (p.rect.state = .tripped → q.rect = p.rect) ∧
    (∀ j, j ≠ k → (p.feeder j).state = .inService →
      (q.feeder j).state = .tripping ∧ (q.feeder j).lastCause = some .backup ∧
        (q.feeder j).exit = some (.lockedOut .backup) ∧ j ∈ q.pendingOpen ∧ (q.item (.fb j)).state = .opening) ∧
    (∀ j, j ≠ k → (p.feeder j).state ≠ .inService → q.feeder j = p.feeder j))))

/-- O25. DEAD_TIME_EXPIRY makes the reclose check: no attempts left locks out; heat, items not OPEN or no busbar
defer; a live line closes; else the line test starts. A handling after the expiry's instant acts at the present
one (log 5). Taken before the samples of its own instant, an expiry begins that instant (O4). (R99, R100, R101,
R105, R107) -/
def Obligations.DeadTimeExpiryMakesTheRecloseCheck : Prop :=
  ∀ (k : FeederId) (x : Nat) (phase : DeadPhase) (s : State),
    (let f := s.plant.feeder k
    let v := s.store.values k
    let start := f.deferral.getD s.time.elapsed
    f.state = .deadTime phase → f.deadTimer = some x → x ≤ s.time.tick →
    ∃ t, exec (.deadTimeExpiry k) s = .next t ∧ t.store = s.store ∧ t.time = s.time ∧ t.link = s.link ∧
      (let g := t.plant.feeder k
      let hot := (v.ireclose : Int) * v.ireclose ≤ (s.plant.disc k).theta
      let notOpen := (s.plant.item (.fb k)).state ≠ .opened ∨ (s.plant.item (.tc k)).state ≠ .opened
      (v.attempts ≤ f.attempts → g.state = .lockedOut ∧ g.lockout = some .attemptsExhausted) ∧
      (f.attempts < v.attempts → hot ∨ notOpen → 120000 < (s.time.elapsed - start).toNat →
        g.state = .lockedOut ∧ g.lockout = some .deferralLimit) ∧
      (f.attempts < v.attempts → hot ∨ notOpen → (s.time.elapsed - start).toNat ≤ 120000 →
        g.state = .deadTime .deferred ∧ g.deadTimer = some (s.time.tick + 8000) ∧ g.deferral = some start) ∧
      (f.attempts < v.attempts → ¬ hot → ¬ notOpen →
        s.front.mean20 (.lineVoltage k) < (v.vlive : Int) → (v.vtest : Int) ≤ s.front.mean20 .vbus →
        g.state = .lineTest .tcClosing ∧ (t.plant.item (.tc k)).state = .closing) ∧
      (f.attempts < v.attempts → ¬ hot → ¬ notOpen → f.manual = false →
        (let vl := s.front.mean20 (.lineVoltage k)
        let vb := s.front.mean20 .vbus
        ((v.vlive : Int) ≤ vl →
          g.lastTest = ⟨.passLive, some 65535, some vl, some vb, some s.time.stamp, false⟩ ∧
          g.attempts = f.attempts + 1 ∧ g.state = .closing ∧ (t.plant.item (.fb k)).state = .closing ∧
          g.deferral = none ∧ t.plant.item (.tc k) = s.plant.item (.tc k) ∧
          t.plant.unit.journal.getLast? = some
            ⟨s.plant.unit.nextIndex, s.time.stamp, .feeder k, .lineTestResult, [65535, vl, vb]⟩) ∧
        (vl < (v.vlive : Int) → vb < (v.vtest : Int) →
          g.lastTest = ⟨.noBusbar, none, some vl, some vb, some s.time.stamp, false⟩ ∧
          g.attempts = f.attempts ∧ t.plant.items = s.plant.items ∧
          (120000 < (s.time.elapsed - start).toNat → g.state = .lockedOut ∧ g.lockout = some .deferralLimit) ∧
          ((s.time.elapsed - start).toNat ≤ 120000 →
            g.state = .deadTime .deferred ∧ g.deadTimer = some (s.time.tick + 8000) ∧
              g.deferral = some start))))))

/-- O26. TCk's close starts the settle, the settle ends in a result, a busbar abort or a lost TCk, each with its
exit target, and TCk's opening takes it. The operations that the supervisor's outcomes and reports and the
millisecond event apply. After a settle abort the deferral start is set when TCk has opened: the model's choice
(log 42, DESIGN CHOICE). That a line test which ends in OUT posts no FEEDER_OPENED is the model's reading (log
35, DEDUCED). A handling after the expiry's instant acts at the present one (log 5). Taken before the samples of
its own instant, an expiry begins that instant (O4). (R100, R102, R103, R104, R105, R106, R107) -/
def Obligations.SettleExpiryGivesTheLineTestResult : Prop :=
  ((∀ (k : FeederId) (x : Nat) (s : State),
    (let f := s.plant.feeder k
    let v := s.store.values k
    let vl := s.front.mean20 (.lineVoltage k)
    let vb := s.front.mean20 .vbus
    let r : Nat := if vb ≤ vl then 65535 else min 65535 (Int.fdiv (v.rt * vl) (vb - vl)).toNat
    f.state = .lineTest .settling → f.settleTimer = some x → x ≤ s.time.tick →
    ∃ t, exec (.settleExpiry k) s = .next t ∧ t.store = s.store ∧ t.time = s.time ∧ t.link = s.link ∧
      (let g := t.plant.feeder k
      g.lastTest = ⟨if v.rmin ≤ r then .pass else .fail, some r, some vl, some vb, some s.time.stamp, f.manual⟩ ∧
      g.state = .lineTest .tcOpening ∧ (t.plant.item (.tc k)).state = .opening ∧
      (f.manual = true → g.attempts = f.attempts ∧
        g.exit = some (if v.rmin ≤ r then .closing else .out)) ∧
      (f.manual = false → v.attempts ≤ f.attempts → g.attempts = f.attempts ∧
        g.exit = some (.lockedOut .attemptsExhausted)) ∧
      (f.manual = false → f.attempts < v.attempts → g.attempts = f.attempts + 1 ∧
        g.exit = some
          (if v.rmin ≤ r then .closing
          else if f.attempts + 1 = v.attempts then .lockedOut .lineTestFail else .deadTime))))) ∧
    (∀ (e : Env) (k : FeederId) (p : Plant), (p.feeder k).state = .lineTest .tcClosing →
    p.tcCloseOutcome e k .completed =
      { p with
        feeders := p.feeders.set k
          { p.feeder k with
            state := .lineTest .settling, settleTimer := some (e.time.tick + 8 * (e.store.values k).ts) } } ∧
    ∀ o, o = .failed ∨ o = .wrongState →
      (let q := p.tcCloseOutcome e k o
      (q.feeder k).state = .lockedOut ∧ (q.feeder k).lockout = some .testEquipment ∧ q.items = p.items)) ∧
    (∀ (e : Env) (k : FeederId) (target : ExitTarget) (p : Plant),
    (p.feeder k).state = .lineTest .tcOpening → (p.feeder k).exit = some target →
    (let q := p.tcOpenOutcome e k .completed
    let g := q.feeder k
    let start := (p.feeder k).deferral.getD e.time.elapsed
    let deferred := (e.time.elapsed - start).toNat
    let failed := (p.tcOpenOutcome e k .failed).feeder k
    (target = .out → g.state = .out ∧ g.manual = false ∧ q.unit = p.unit) ∧
    (∀ c, target = .lockedOut c → g.state = .lockedOut ∧ g.lockout = some c) ∧
    (target = .deadTime →
      g.state = .deadTime .waiting ∧ g.deadTimer = some (e.time.tick + 8 * (e.store.values k).tdead) ∧
        g.deferral = none) ∧
    (target = .deadTimeDeferred → deferred ≤ 120000 →
      g.state = .deadTime .deferred ∧ g.deadTimer = some (e.time.tick + 8000) ∧ g.deferral = some start) ∧
    (target = .deadTimeDeferred → 120000 < deferred → g.state = .lockedOut ∧ g.lockout = some .deferralLimit) ∧
    (target = .closing → (p.item (.fb k)).state = .opened → (p.item (.tc k)).state = .opened →
      g.state = .closing ∧ (q.item (.fb k)).state = .closing ∧ g.deferral = none) ∧
    (target = .closing → (p.item (.fb k)).state ≠ .opened ∨ (p.item (.tc k)).state ≠ .opened →
      g.state = .lockedOut ∧ g.lockout = some .testEquipment) ∧
    failed.state = .lockedOut ∧
    failed.lockout = some (match target with
      | .lockedOut c => c
      | _ => .testEquipment)))) ∧
    (∀ (e : Env) (k : FeederId) (p : Plant),
    (let f := p.feeder k
    let vl := e.front.mean20 (.lineVoltage k)
    let vb := e.front.mean20 .vbus
    let vtest := (e.store.values k).vtest
    let opens (g : Sequencer) (q : Plant) : Prop :=
      q.feeder k = { g with
        state := .lineTest .tcOpening, deadTimer := none, settleTimer := none, serviceTimer := none } ∧
      (q.item (.tc k)).state = .opening ∧ (∀ i, i ≠ .tc k → q.item i = p.item i) ∧
      (∀ j, j ≠ k → q.feeder j = p.feeder j) ∧ q.unit = p.unit
    (f.state = .lineTest .settling → vb < (vtest : Int) →
      opens { f with
        lastTest := ⟨.noBusbar, none, some vl, some vb, some e.time.stamp, f.manual⟩
        exit := some (if f.manual = true then .out else .deadTimeDeferred) } (p.settleWatch e k)) ∧
    (f.state ≠ .lineTest .settling ∨ (vtest : Int) ≤ vb → p.settleWatch e k = p) ∧
    (∀ new reason, f.state = .lineTest .tcClosing ∨ f.state = .lineTest .settling → new ≠ .closed →
      reason = .discrepancy ∨ reason = .unsensed ∨ reason = .supervision →
      opens { f with exit := some (.lockedOut .testEquipment) } (p.tcReport e k .closed new reason))))

/-- O27. The service timer's expiry and Reset Lockout zero the attempts used; Reset Lockout returns the feeder to
OUT or IN_SERVICE. A handling after the expiry's instant acts at the present one (log 5). Taken before the
samples of its own instant, an expiry begins that instant (O4). (R97, R112) -/
def Obligations.AttemptsAreZeroed : Prop :=
  (∀ (k : FeederId) (x : Nat) (s : State),
    (s.plant.feeder k).serviceTimer = some x → x ≤ s.time.tick →
    exec (.serviceTimerExpiry k) s =
      .next { s with
        plant := { s.plant with
          feeders := s.plant.feeders.set k
            { s.plant.feeders.get k with attempts := 0, serviceTimer := none } } }) ∧
    (∀ (head : RequestHead) (n : Byte) (s : State), s.link.takesAtOnce = true →
    (head.pins.remote = false →
      exec (.resetLockout head n) s = .next (s.repliedWith head .resetLockout [4] s.plant)) ∧
    (head.pins.remote = true → n.toNat < 1 ∨ 6 < n.toNat →
      exec (.resetLockout head n) s = .next (s.repliedWith head .resetLockout [3] s.plant)) ∧
    (∀ k, head.pins.remote = true → n.toNat = k.number →
      (let b := (s.plant.item (.fb k)).state
      let may := (s.plant.feeder k).state = .lockedOut ∧ s.plant.rail.frameFault = false ∧
        (b = .opened ∨ b = .closed)
      let code := if b = .opened then 1 else 2
      (¬ may → exec (.resetLockout head n) s = .next (s.repliedWith head .resetLockout [5] s.plant)) ∧
      (may →
        ∃ p, exec (.resetLockout head n) s =
            .next (s.repliedWith head .resetLockout [0, n, BitVec.ofNat 8 code] p) ∧
          (p.feeder k).attempts = 0 ∧ (p.feeder k).lockout = none ∧ (p.feeder k).exit = none ∧
          (p.feeder k).state = (if b = .opened then .out else .inService) ∧
          (p.feeder k).serviceTimer = (if b = .opened then none else some (s.time.tick + 480000)) ∧
          p.unit.journal.getLast? = some
            ⟨s.plant.unit.nextIndex, s.time.stamp, .feeder k, .lockoutReset, [(code : Int)]⟩ ∧
          (∀ j, j ≠ k → p.feeder j = s.plant.feeder j) ∧ p.items = s.plant.items ∧ p.discs = s.plant.discs ∧
          p.rect = s.plant.rect ∧ p.records = s.plant.records))))

/-- O28. Feeder Close starts a manual line test or, on a live line, the closing; FBk's reports take a feeder into
and out of service. That a line test which ends in OUT posts no FEEDER_OPENED is log 35 (DEDUCED). That a local
close keeps the deferral start is the model's choice: R100, which says where the start is set to none, does not
name it (log 50, DESIGN CHOICE). The operation that the supervisor's reports of FBk apply. (R109, R101, R91,
R95, R105, R107, R111, R100) -/
def Obligations.FeederCloseStartsAManualTest : Prop :=
  (∀ (head : RequestHead) (n : Byte) (s : State), s.link.takesAtOnce = true →
    (head.pins.remote = false →
      exec (.feederClose head n) s = .next (s.repliedWith head .feederClose [4] s.plant)) ∧
    (head.pins.remote = true → n.toNat < 1 ∨ 6 < n.toNat →
      exec (.feederClose head n) s = .next (s.repliedWith head .feederClose [3] s.plant)) ∧
    (∀ k, head.pins.remote = true → n.toNat = k.number →
      (let may := (s.plant.feeder k).state = .out ∧ (s.plant.item (.fb k)).state = .opened ∧
        (s.plant.item (.tc k)).state = .opened ∧ s.plant.rail.frameFault = false
      let v := s.store.values k
      let low := s.front.mean20 (.lineVoltage k) < (v.vlive : Int)
      (¬ may → exec (.feederClose head n) s = .next (s.repliedWith head .feederClose [5] s.plant)) ∧
      (may → low → (v.vtest : Int) ≤ s.front.mean20 .vbus →
        ∃ p, exec (.feederClose head n) s = .next (s.repliedWith head .feederClose [0, n, 5] p) ∧
          (p.feeder k).state = .lineTest .tcClosing ∧ (p.feeder k).manual = true ∧
          (p.item (.tc k)).state = .closing ∧ (∀ i, i ≠ .tc k → p.item i = s.plant.item i) ∧
          (∀ j, j ≠ k → p.feeder j = s.plant.feeder j) ∧ p.unit = s.plant.unit) ∧
      (may → low → s.front.mean20 .vbus < (v.vtest : Int) →
        ∃ p, exec (.feederClose head n) s = .next (s.repliedWith head .feederClose [0, n, 1] p) ∧
          (p.feeder k).state = .out ∧ (p.feeder k).lastTest.result = .noBusbar ∧ p.items = s.plant.items ∧
          (∀ j, j ≠ k → p.feeder j = s.plant.feeder j) ∧ p.unit = s.plant.unit) ∧
      (may → ¬ low →
        (let vl := s.front.mean20 (.lineVoltage k)
        let vb := s.front.mean20 .vbus
        ∃ p, exec (.feederClose head n) s = .next (s.repliedWith head .feederClose [0, n, 6] p) ∧
          (p.feeder k).state = .closing ∧ (p.feeder k).attempts = (s.plant.feeder k).attempts ∧
          (p.feeder k).lastTest = ⟨.passLive, some 65535, some vl, some vb, some s.time.stamp, true⟩ ∧
          (p.item (.fb k)).state = .closing ∧ (∀ i, i ≠ .fb k → p.item i = s.plant.item i) ∧
          p.unit.journal.getLast? = some
            ⟨s.plant.unit.nextIndex, s.time.stamp, .feeder k, .lineTestResult, [65535, vl, vb]⟩ ∧
          (∀ j, j ≠ k → p.feeder j = s.plant.feeder j)))))) ∧
    (∀ (e : Env) (k : FeederId) (p : Plant),
    (let f := p.feeder k
    let served : Sequencer :=
      { f with
        state := .inService, exit := none, reclose := none, manual := false, deadTimer := none, settleTimer := none
        serviceTimer := some (e.time.tick + 480000) }
    (∀ reason, f.state = .unknown → reason = .initial ∨ reason = .resensed →
      p.fbReport e k .closed reason = { p with feeders := p.feeders.set k served } ∧
      p.fbReport e k .opened reason =
        { p with
          feeders := p.feeders.set k
            { f with
              state := .out, exit := none, reclose := none, manual := false, deferral := none, deadTimer := none
              settleTimer := none, serviceTimer := none } }) ∧
    (let q := p.fbReport e k .closed .discrepancy
    (f.state = .out ∨ f.state = .lockedOut ∨ (∃ x, f.state = .deadTime x) ∨ (∃ x, f.state = .lineTest x) →
      q.feeders = p.feeders.set k served ∧
      q.unit.journal.getLast? = some
        ⟨p.unit.nextIndex, e.time.stamp, .feeder k, .feederClosedLocal, [(f.state.code : Int)]⟩ ∧
      ((∀ x, f.state ≠ .lineTest x) ∨ (p.item (.tc k)).state = .opened → q.items = p.items) ∧
      ((∃ x, f.state = .lineTest x) → (p.item (.tc k)).state ≠ .opened → (q.item (.tc k)).state = .opening))) ∧
    (f.state = .lockedOut →
      (let q := p.fbReport e k .closed .late
      q.feeders = p.feeders ∧ (q.item (.fb k)).state = .opening)) ∧
    (f.state = .inService →
      p.fbReport e k .opened .discrepancy = p.directRelease e k ∧
        p.fbReport e k .opened .late = p.directRelease e k) ∧
    (∀ reason, f.state = .out ∨ f.state = .lockedOut → p.fbReport e k .opened reason = p) ∧
    (∀ reason, p.fbReport e k .unsensed reason = p)))

/-- O29. Feeder Open acts by the feeder's state and ends by FBk's outcome; a closing ends in IN_SERVICE, in a
lockout, or abandoned in its exit target. That LOCKED_OUT TEST_EQUIPMENT replaces whatever exit target an
abandoned closing holds, another LOCKED_OUT cause included, is the model's reading of R108 (log 28, DEDUCED).
(R110, R107, R108, R111) -/
def Obligations.FeederOpenActsByState : Prop :=
  (∀ (head : RequestHead) (n : Byte) (s : State), s.link.takesAtOnce = true →
    (head.pins.remote = false →
      exec (.feederOpen head n) s = .next (s.repliedWith head .feederOpen [4] s.plant)) ∧
    (head.pins.remote = true → n.toNat < 1 ∨ 6 < n.toNat →
      exec (.feederOpen head n) s = .next (s.repliedWith head .feederOpen [3] s.plant)) ∧
    (∀ k, head.pins.remote = true → n.toNat = k.number →
      (let f := s.plant.feeder k
      let toOut : Option ExitTarget := match f.exit with
        | some (.lockedOut c) => some (.lockedOut c)
        | _ => some .out
      (f.state = .unknown ∨ f.state = .out ∨ f.state = .tripping ∨ f.state = .lockedOut →
        exec (.feederOpen head n) s = .next (s.repliedWith head .feederOpen [5] s.plant)) ∧
      (f.state ≠ .unknown → f.state ≠ .out → f.state ≠ .tripping → f.state ≠ .lockedOut →
        ∃ p, exec (.feederOpen head n) s =
            .next (s.repliedWith head .feederOpen [0, n, BitVec.ofNat 8 (p.feeder k).state.code] p) ∧
          (∀ j, j ≠ k → p.feeder j = s.plant.feeder j) ∧ p.rect = s.plant.rect ∧
          p.pendingOpen = s.plant.pendingOpen ∧ p.records = s.plant.records ∧
          (f.state = .inService →
            (p.feeder k).state = .inService ∧ (p.feeder k).exit = some .out ∧
              (p.item (.fb k)).state = .opening) ∧
          ((∃ x, f.state = .deadTime x) →
            (p.feeder k).state = .out ∧ (p.feeder k).deadTimer = none ∧ p.items = s.plant.items ∧
              p.unit.journal.getLast? = some
                ⟨s.plant.unit.nextIndex, s.time.stamp, .feeder k, .feederOpened, [4]⟩) ∧
          ((∀ x, f.state ≠ .deadTime x) → p.unit = s.plant.unit) ∧
          (f.state = .lineTest .tcClosing ∨ f.state = .lineTest .settling →
            (p.feeder k).state = .lineTest .tcOpening ∧ (p.feeder k).exit = some .out ∧
              (p.item (.tc k)).state = .opening) ∧
          (f.state = .lineTest .tcOpening →
            p.feeder k = { f with exit := toOut } ∧ p.items = s.plant.items) ∧
          (f.state = .closing →
            p.feeder k = { f with exit := toOut } ∧ (p.item (.fb k)).state = .opening))))) ∧
    (∀ (e : Env) (k : FeederId) (p : Plant), (p.feeder k).state = .closing →
    (let f := p.feeder k
    let opened := p.fbOpenOutcome e k .completed
    (let q := p.fbCloseOutcome e k .completed
    let g := q.feeder k
    g.state = .inService ∧ g.serviceTimer = some (e.time.tick + 480000) ∧ g.attempts = f.attempts ∧ g.exit = none ∧
    g.manual = false ∧ q.items = p.items ∧
    q.unit.journal.getLast? = some ⟨p.unit.nextIndex, e.time.stamp, .feeder k, .feederClosed,
      [if f.manual then 1 else 0, (f.attempts : Int)]⟩) ∧
    (∀ o, o = .failed ∨ o = .wrongState →
      (let g := (p.fbCloseOutcome e k o).feeder k
      g.state = .lockedOut ∧ g.lockout = some .closeFail)) ∧
    (∀ new reason, new ≠ .opened → reason = .discrepancy ∨ reason = .unsensed ∨ reason = .supervision →
      (let q := p.tcReport e k .opened new reason
      (q.item (.fb k)).state = .opening ∧ q.feeder k = { f with exit := some (.lockedOut .testEquipment) } ∧
        q.unit = p.unit)) ∧
    (f.exit = some .out →
      (opened.feeder k).state = .out ∧
      opened.unit.journal.getLast? = some ⟨p.unit.nextIndex, e.time.stamp, .feeder k, .feederOpened, [6]⟩) ∧
    (∀ c, f.exit = some (.lockedOut c) →
      (opened.feeder k).state = .lockedOut ∧ (opened.feeder k).lockout = some c) ∧
    (f.exit.isSome →
      (let g := (p.fbOpenOutcome e k .failed).feeder k
      g.state = .lockedOut ∧ g.lockout = some .breakerFailure)))) ∧
    (∀ (e : Env) (k : FeederId) (p : Plant),
    (let f := p.feeder k
    let done := p.fbOpenOutcome e k .completed
    let failed := p.fbOpenOutcome e k .failed
    (f.state = .inService → f.exit = some .out →
      done.feeder k = { f with
        state := .out, exit := none, reclose := none, manual := false, deferral := none, deadTimer := none
        settleTimer := none, serviceTimer := none } ∧
      done.unit.journal.getLast? = some ⟨p.unit.nextIndex, e.time.stamp, .feeder k, .feederOpened, [2]⟩ ∧
      (∀ j, j ≠ k → done.feeder j = p.feeder j) ∧ done.items = p.items ∧ done.rect = p.rect ∧
      done.pendingOpen = p.pendingOpen ∧ done.records = p.records ∧
      failed = { p with feeders := p.feeders.set k { f with exit := none } }) ∧
    (f.state = .lockedOut →
      done = p ∧ failed = { p with feeders := p.feeders.set k { f with lockout := some .breakerFailure } })))

/-- O30. Every step keeps the open-pending set equal to the TRIPPING feeders and a firing rectifier in RETARD
exactly while it is not empty. (R92, R97, R99, R115, R124, R129, R135, R136, R140) -/
def Obligations.FeederAndRectifierLawIsKept : Prop :=
  (∀ s t : State, s.feederLaw → step s = .next t → t.feederLaw) ∧
    (∀ s t : State, s.rectifierLaw → step s = .next t → t.rectifierLaw)

/-- O31. Rectifier Start enters SYNCING and closes the ACB; a crossing that meets R121 or R138 enters SOFT_START or
RETARD at αmax. The crossing is the operation that SAMPLE_INSTANT applies. (R120, R121, R128, R138, R141, R129,
R130, R139) -/
def Obligations.RectifierStartSynchronises : Prop :=
  (∀ (head : RequestHead) (s : State), s.link.takesAtOnce = true →
    (let r := s.plant.rect
    let acb := s.plant.item .acb
    let ready := s.store.stationFields.isSome
    let resting := r.state = .stopped ∨ r.state = .tripped
    let allowed := acb.state = .opened ∨ acb.state = .closed ∨ (acb.state = .failedClose ∧ acb.sensed ≠ .unsensed)
    let faulty := ∃ k, (s.plant.item (.fb k)).state = .failedOpen
    (head.pins.remote = false →
      exec (.rectifierStart head) s = .next (s.repliedWith head .rectifierStart [4] s.plant)) ∧
    (head.pins.remote = true → ready = false →
      exec (.rectifierStart head) s = .next (s.repliedWith head .rectifierStart [8] s.plant)) ∧
    (head.pins.remote = true → ready = true → ¬ (resting ∧ allowed ∧ ¬ faulty) →
      exec (.rectifierStart head) s = .next (s.repliedWith head .rectifierStart [5] s.plant)) ∧
    (head.pins.remote = true → ready = true → resting → allowed → ¬ faulty →
      ∃ p, exec (.rectifierStart head) s = .next (s.repliedWith head .rectifierStart [0, 1] p) ∧
        p.rect = { r with state := .syncing, overcurrent := 0, trippedLive := false } ∧
        (acb.state = .opened ∨ (acb.state = .failedClose ∧ acb.sensed = .opened) →
          (p.item .acb).state = .closing) ∧
        (acb.state = .closed → p.items = s.plant.items) ∧
        p.unit.journal.getLast? = some
          ⟨s.plant.unit.nextIndex, s.time.stamp, .rectifier, .rectState, [(r.state.code : Int), 1, 0]⟩ ∧
        p.feeders = s.plant.feeders ∧ p.records = s.plant.records ∧ p.rail = s.plant.rail))) ∧
    (∀ (e : Env) (f : StationFields) (crossing : Nat) (p : Plant), e.store.stationFields = some f →
    (let r := p.rect
    let q := p.rectCrossing e crossing
    let now := 1000 * e.time.elapsed.toNat + 125 * e.time.eighth.toNat
    let new : RectState := if p.pendingOpen = [] then .softStart else .retard
    let enters := p.tracker.locked = true ∧ e.front.mean20 .vbus < (f.vblock.toNat : Int) - f.vhys.toNat ∧
      (r.state = .syncing ∧ (p.item .acb).state = .closed ∨ r.state = .blocked)
    (enters →
      q.rect.state = new ∧ q.rect.alpha = f.alphaMax.toNat ∧ q.rect.overvoltage = 0 ∧
      q.rect.regulator = r.regulator ∧ q.items = p.items ∧ q.feeders = p.feeders ∧
      q.unit.journal.getLast? = some ⟨p.unit.nextIndex, e.time.stamp, .rectifier, .rectState,
        [(r.state.code : Int), (new.code : Int), 0]⟩ ∧
      ∃ sch, q.rect.schedule = some sch ∧ sch.crossing = crossing ∧ sch.period = p.tracker.period ∧
        sch.offset = f.offset.toNat ∧ sch.burst = p.tracker.period * f.burst.toNat / 3600 ∧ sch.pulses.length = 12 ∧
        ∀ x ∈ sch.pulses, x.angle = f.alphaMax.toNat ∧
          (x.moment ≤ now → x.status = .fired ∧ q.rect.bursts[x.gate] = some ⟨now, now + sch.burst⟩) ∧
          (now < x.moment → x.status = .pending ∧ q.rect.bursts[x.gate] = r.bursts[x.gate])) ∧
    (r.state = .syncing ∨ r.state = .blocked → ¬ enters → q = p) ∧
    (r.state = .stopped ∨ r.state = .tripped → q = p)))

/-- O32. Rectifier Stop with REMOTE stops a running rectifier with its actions, and otherwise only opens an ACB that
is not OPEN. (R123) -/
def Obligations.RectifierStopTakesTheStoppingActions : Prop :=
  ∀ (head : RequestHead) (s : State), s.link.takesAtOnce = true →
    (let r := s.plant.rect
    let acb := s.plant.item .acb
    (head.pins.remote = false →
      exec (.rectifierStop head) s = .next (s.repliedWith head .rectifierStop [4] s.plant)) ∧
    (head.pins.remote = true →
      ∃ p, exec (.rectifierStop head) s =
          .next (s.repliedWith head .rectifierStop [0, BitVec.ofNat 8 p.rect.state.code] p) ∧
        (acb.state = .opened → p.items = s.plant.items) ∧
        (acb.state ≠ .opened → (p.item .acb).state = .opening ∧ (p.item .acb).closeCoil = (
          if acb.state = .opening ∧ acb.operation.isSome then acb.closeCoil else none) ∧
          ∀ i, i ≠ .acb → p.item i = s.plant.item i) ∧
        (r.state = .stopped ∨ r.state = .tripped → p.rect = r ∧ p.unit = s.plant.unit) ∧
        (r.state ≠ .stopped → r.state ≠ .tripped →
          p.rect =
            { r with
              state := .stopped, stopCause := .request, schedule := none, overcurrent := 0, overvoltage := 0
              bursts := Vector.replicate 12 none } ∧
          p.unit.journal.getLast? = some
            ⟨s.plant.unit.nextIndex, s.time.stamp, .rectifier, .rectState, [(r.state.code : Int), 0, 2]⟩) ∧
        p.feeders = s.plant.feeders ∧ p.discs = s.plant.discs ∧ p.records = s.plant.records))

/-- O33. Set Voltage Reference makes the value, clamped to 600..900, the working reference in every rectifier state
and answers with it. (R134) -/
def Obligations.SetVoltageReferenceClamps : Prop :=
  (∀ (head : RequestHead) (v : Word16) (s : State), s.link.takesAtOnce = true →
      (let applied := if v.toNat < 600 then 600 else if 900 < v.toNat then 900 else v.toNat
      exec (.setVoltageReference head v) s =
        .next (s.repliedWith head .setVoltageReference
          [0, BitVec.ofNat 8 applied, BitVec.ofNat 8 (applied / 256)]
          { s.plant with rect := { s.plant.rect with reference := applied } }))) ∧
    (∀ (f : StationFields) (idc20 vbus20 : Int) (r : Rectifier), r.state = .regulating →
      idc20 ≤ (f.ilimit.toNat : Int) → f.alphaMin.toNat ≤ r.alpha → r.alpha ≤ f.alphaMax.toNat →
      (let q := r.regulate f idc20 vbus20
      q.regulator.vtarget = (r.reference : Int) - Int.fdiv (f.rdroop.toNat * idc20) 1000 ∧
      q.alpha ≤ r.alpha + 50 ∧ r.alpha ≤ q.alpha + 50 ∧ q.reference = r.reference)) ∧
    (∀ (f : StationFields) (s : State),
      (f.toList.map BitVec.toNat).sum % 65536 = 65535 →
      (s.completeStation f f).plant.rect.reference = f.vref.toNat)

/-- O34. Pulses stand at the positions of R129; PULSE_INSTANT fires a PENDING one with its burst, and BURST_END ends
the burst. The schedule that a crossing builds in SAMPLE_INSTANT. When a moment between two sample instants has
come is log 12 (DEDUCED). That the entries stand by gate number is log 57 (DESIGN CHOICE). (R129, R130, R139) -/
def Obligations.PulsesFireWhereScheduled : Prop :=
  (∀ crossing period offset burst angle : Nat,
    (let sch := newSchedule crossing period offset burst angle
    sch.pulses.length = 12 ∧ sch.burst = period * burst / 3600 ∧ sch.crossing = crossing ∧
    sch.period = period ∧ sch.offset = offset ∧
    (∀ k : Nat, k < 6 →
      (let posS := (offset + angle + 600 * k) % 3600
      let posD := (offset + angle + 600 * k + 300) % 3600
      sch.pulses[k]? = some ⟨Fin.ofNat 12 k, angle, posS, crossing + period * posS / 3600, .pending⟩ ∧
      sch.pulses[k + 6]? = some ⟨Fin.ofNat 12 (k + 6), angle, posD, crossing + period * posD / 3600, .pending⟩)))) ∧
    (∀ (gate : GateId) (s : State),
    (∀ (sch : Schedule) (x : Pulse), s.plant.rect.state.firing = true → s.plant.rect.schedule = some sch →
      sch.pulses.find? (fun y => y.gate = gate ∧ y.status = .pending) = some x →
      s.time.hasReachedUs x.moment = true →
      exec (.pulseInstant gate) s =
        .next { s with
          plant := { s.plant with
            rect := { s.plant.rect with
              bursts := s.plant.rect.bursts.set gate (some ⟨x.moment, x.moment + sch.burst⟩)
              schedule := some { sch with
                pulses := sch.pulses.map (fun y =>
                  if y.gate = gate ∧ y.status = .pending then { y with status := .fired } else y) } } } }) ∧
    (s.plant.rect.state.firing = false → exec (.pulseInstant gate) s = .next s) ∧
    (∀ b : Burst, s.plant.rect.bursts[gate] = some b →
      s.time.hasReachedUs b.ends = true →
      exec (.burstEnd gate) s =
        .next { s with
          plant := { s.plant with
            rect := { s.plant.rect with bursts := s.plant.rect.bursts.set gate none } } })) ∧
    (∀ (t : TimeBase) (moment : Nat),
    (let now := 1000 * t.elapsed.toNat + 125 * t.eighth.toNat
    (t.begun = false → (t.hasReachedUs moment = true ↔ moment ≤ now + 125)) ∧
    (t.begun = true → (t.hasReachedUs moment = true ↔ moment ≤ now))))

/-- O35. A crossing in a firing state clamps α, runs the regulator and builds the schedule; the run steps α by
voltage loop or current limit. The regulator run of a crossing in SAMPLE_INSTANT. (R131, R132, R133, R128, R129,
R137) -/
def Obligations.RegulatorStepsTheAngle : Prop :=
  (∀ (f : StationFields) (idc20 vbus20 : Int) (r : Rectifier),
    (let vtarget := (r.reference : Int) - Int.fdiv (f.rdroop.toNat * idc20) 1000
    let err := vtarget - vbus20
    let within (lo hi x : Int) : Int := max lo (min hi x)
    let angle (x : Int) : Nat := if x < f.alphaMin.toNat then f.alphaMin.toNat
      else if (f.alphaMax.toNat : Int) < x then f.alphaMax.toNat else x.toNat
    let q := r.regulate f idc20 vbus20
    (r.state = .softStart ∨ r.state = .regulating ∨ r.state = .currentLimit →
      idc20 ≤ (f.ilimit.toNat : Int) →
      (let bound : Int := if r.state = .softStart then 20 else 50
      let step := within (-bound) bound (Int.tdiv (f.ki.toNat * err) 16)
      q.alpha = angle (r.alpha - step) ∧ q.regulator = ⟨vtarget, err, step, idc20, vbus20⟩ ∧
      q.limitCount = r.limitCount ∧
      q.state = if r.state = .softStart ∧ ¬ (-10 ≤ err ∧ err ≤ 10) then .softStart else .regulating)) ∧
    (r.state = .softStart ∨ r.state = .regulating ∨ r.state = .currentLimit →
      (f.ilimit.toNat : Int) < idc20 →
      (let step := within 0 100 (Int.tdiv (f.kc.toNat * (idc20 - f.ilimit.toNat)) 16)
      q.alpha = angle (r.alpha + step) ∧ q.regulator = ⟨vtarget, err, step, idc20, vbus20⟩ ∧
      q.state = .currentLimit ∧
      q.limitCount =
        if r.state = .currentLimit ∨ 65535 ≤ r.limitCount then r.limitCount else r.limitCount + 1)) ∧
    (r.state = .retard → q = { r with alpha := max r.alpha f.alphaRetard.toNat }))) ∧
    (∀ (e : Env) (f : StationFields) (crossing : Nat) (p : Plant), e.store.stationFields = some f →
    p.rect.state.firing = true →
    (let q := p.rectCrossing e crossing
    let now := 1000 * e.time.elapsed.toNat + 125 * e.time.eighth.toNat
    let kept : Nat := if p.rect.alpha < f.alphaMin.toNat then f.alphaMin.toNat
      else if f.alphaMax.toNat < p.rect.alpha then f.alphaMax.toNat else p.rect.alpha
    let run := { p.rect with alpha := kept }.regulate f (e.front.mean20 .idc) (e.front.mean20 .vbus)
    (p.tracker.locked = true → f.alphaMin.toNat ≤ f.alphaMax.toNat →
      q.rect.state = run.state ∧ q.rect.alpha = run.alpha ∧ q.rect.regulator = run.regulator ∧
      q.rect.limitCount = run.limitCount ∧ q.unit = p.unit ∧ q.items = p.items ∧ q.feeders = p.feeders ∧
      ∃ sch, q.rect.schedule = some sch ∧ sch.crossing = crossing ∧ sch.period = p.tracker.period ∧
        sch.offset = f.offset.toNat ∧ sch.burst = p.tracker.period * f.burst.toNat / 3600 ∧ sch.pulses.length = 12 ∧
        ∀ x ∈ sch.pulses, x.angle = run.alpha ∧
          (x.moment ≤ now → x.status = .fired ∧ q.rect.bursts[x.gate] = some ⟨now, now + sch.burst⟩) ∧
          (now < x.moment → x.status = .pending ∧ q.rect.bursts[x.gate] = p.rect.bursts[x.gate])) ∧
    (p.tracker.locked = false →
      q.rect = { p.rect with
        state := .blocked, schedule := none, overvoltage := 0, blockCause := .unlocked
        bursts := Vector.replicate 12 none })))

/-- O36. RETARD moves or drops PENDING pulses; overcurrent or ACB opening trips the rectifier, overvoltage or lost
lock blocks it, ACB failure or lost settings stops it. The operations that a trip applies when the open-pending
set was empty, that SAMPLE_INSTANT applies for IDC and VBUS, and that the supervisor's reports and outcomes of
the ACB and the loss of the station record apply. (R135, R122, R125, R126, R137, R141, R124, R127) -/
def Obligations.RetardMovesPendingPulses : Prop :=
  (∀ (e : Env) (k : FeederId) (f : StationFields) (p : Plant),
    p.pendingOpen = [] → e.store.stationFields = some f →
    (let q := p.joinPending e k
    let now := 1000 * e.time.elapsed.toNat + 125 * e.time.eighth.toNat
    let hit := p.rect.state = .softStart ∨ p.rect.state = .regulating ∨ p.rect.state = .currentLimit
    q.pendingOpen = [k] ∧ q.rect.bursts = p.rect.bursts ∧ q.items = p.items ∧ q.feeders = p.feeders ∧
    (hit →
      q.rect.state = .retard ∧ q.rect.alpha = max p.rect.alpha f.alphaRetard.toNat ∧
      q.unit.journal.getLast? = some
        ⟨p.unit.nextIndex, e.time.stamp, .rectifier, .rectState, [(p.rect.state.code : Int), 5, 0]⟩ ∧
      (p.rect.schedule = none → q.rect.schedule = none) ∧
      (∀ sch, p.rect.schedule = some sch →
        ∃ out, q.rect.schedule = some { sch with pulses := out } ∧ out.length = sch.pulses.length ∧
          ∀ (n : Nat) (x y : Pulse), sch.pulses[n]? = some x → out[n]? = some y →
            (let pos := pulsePosition sch.offset f.alphaRetard.toNat x.gate
            let moment := sch.crossing + sch.period * pos / 3600
            let moves := x.status = .pending ∧ x.angle < f.alphaRetard.toNat
            (moves → pos < x.position ∨ moment ≤ now → y = { x with status := .dropped }) ∧
            (moves → x.position ≤ pos → now < moment →
              y = { x with position := pos, angle := f.alphaRetard.toNat, moment := moment }) ∧
            (¬ moves → y = x)))) ∧
    (¬ hit → q.rect = p.rect ∧ q.unit = p.unit))) ∧
    (∀ (e : Env) (p : Plant),
    (let r := p.rect
    let entered (q : Plant) (kind : Kind) (details : List Int) : Prop :=
      q.unit.journal.getLast? = some ⟨p.unit.nextIndex, e.time.stamp, .rectifier, kind, details⟩ ∧
        q.unit.attention.rectifier = true ∧ q.feeders = p.feeders
    let trips (cause : StopCause) (value : Int) (q : Plant) : Prop :=
      q.rect = { r with
        state := .tripped, stopCause := cause, trippedLive := true, schedule := none
        overcurrent := 0, overvoltage := 0, bursts := Vector.replicate 12 none } ∧
      q.unit.latched.rectTripped = true ∧ entered q .rectTrip [(cause.code : Int), value, (r.state.code : Int)] ∧
      ((p.item .acb).state = .opened → q.items = p.items) ∧
      ((p.item .acb).state ≠ .opened → (q.item .acb).state = .opening)
    let blocks (cause : BlockCause) (q : Plant) : Prop :=
      q.rect = { r with
        state := .blocked, blockCause := cause, schedule := none, overvoltage := 0
        bursts := Vector.replicate 12 none } ∧
      entered q .rectState [(r.state.code : Int), 6, (cause.code : Int)] ∧ q.items = p.items
    let runs := r.state = .syncing ∨ r.state = .blocked ∨ r.state.firing = true
    let idc := e.front.latest.idc
    let vbus := e.front.latest.vbus
    (∀ f : StationFields, e.store.stationFields = some f →
      (¬ runs → p.rectCurrentSample e = p) ∧
      (runs → idc < (f.irectTrip.toNat : Int) →
        p.rectCurrentSample e = { p with rect := { r with overcurrent := 0 } }) ∧
      (runs → (f.irectTrip.toNat : Int) ≤ idc → r.overcurrent < 3 →
        p.rectCurrentSample e = { p with rect := { r with overcurrent := r.overcurrent + 1 } }) ∧
      (runs → (f.irectTrip.toNat : Int) ≤ idc → 3 ≤ r.overcurrent → trips .overcurrent idc (p.rectCurrentSample e)) ∧
      (r.state.firing = false → p.rectVoltageSample e = p ∧ p.rectMean e = p) ∧
      (r.state.firing = true → vbus ≤ (f.vblock.toNat : Int) + 100 →
        p.rectVoltageSample e = { p with rect := { r with overvoltage := 0 } }) ∧
      (r.state.firing = true → (f.vblock.toNat : Int) + 100 < vbus → r.overvoltage < 3 →
        p.rectVoltageSample e = { p with rect := { r with overvoltage := r.overvoltage + 1 } }) ∧
      (r.state.firing = true → (f.vblock.toNat : Int) + 100 < vbus → 3 ≤ r.overvoltage →
        blocks .fastOvervoltage (p.rectVoltageSample e)) ∧
      (r.state.firing = true → (f.vblock.toNat : Int) < e.front.mean20 .vbus →
        blocks .meanOvervoltage (p.rectMean e)) ∧
      (r.state.firing = true → e.front.mean20 .vbus ≤ (f.vblock.toNat : Int) → p.rectMean e = p)) ∧
    (r.state.firing = true → blocks .unlocked (p.rectLockLost e)) ∧
    (runs → trips .acbOpened 0 (p.rectReport e .opened .discrepancy)) ∧
    (¬ runs → p.rectReport e .opened .discrepancy = p) ∧
    (∀ new reason, new ≠ .opened → p.rectReport e new reason = p) ∧
    (let stops (cause : StopCause) (q : Plant) : Prop :=
      q.rect = { r with
        state := .stopped, stopCause := cause, schedule := none, overcurrent := 0, overvoltage := 0
        bursts := Vector.replicate 12 none } ∧
      entered q .rectState [(r.state.code : Int), 0, (cause.code : Int)] ∧
      ((p.item .acb).state = .opened → q.items = p.items) ∧
      ((p.item .acb).state ≠ .opened → (q.item .acb).state = .opening)
    (∀ o, o = .failed ∨ o = .wrongState →
      (r.state = .syncing → stops .acbFail (p.rectOutcome e .closing o)) ∧
      (r.state ≠ .syncing → p.rectOutcome e .closing o = p)) ∧
    (∀ d o, d = .opening ∨ o = .completed ∨ o = .superseded → p.rectOutcome e d o = p) ∧
    (runs → stops .settings (p.rectSettingsLost e)) ∧
    (¬ runs → p.rectSettingsLost e = p))))

/-- O37. RL1 and RL2 in WATCHING command RE closed; a counted closure leads to PERMANENT at Nrep, else to HOLDING; a
failed close to FAILED. The operations that SAMPLE_INSTANT applies for VRE and IRE, and the outcomes that the
supervisor hands to the monitor. A frame-current declaration before the close that a level commands at the same
millisecond event is log 46 (DESIGN CHOICE). (R144, R146, R147, R156, R148, R143, R145, R153, R154, R114) -/
def Obligations.RailLevelsCloseTheContactor : Prop :=
  ((∀ (e : Env) (p : Plant),
    (let v := e.front.latest.vre
    let lv := e.railLevels
    let r := p.rail.sampleRuns lv v
    r.rl3 = (if lv.u3 ≤ v.natAbs then min 8 (p.rail.rl3 + 1) else 0) ∧
    (lv.u2 ≤ lv.u3 → r.rl2 = if lv.u2 ≤ v.natAbs then min 8 (p.rail.rl2 + 1) else 0) ∧
    r.watchPeak = max p.rail.watchPeak v.natAbs ∧
    r.watchBelow = (if p.rail.watchPeak < v.natAbs then decide (v < 0) else p.rail.watchBelow) ∧
    (p.rail.state = .watching → lv.u2 ≤ v.natAbs → v.natAbs < lv.u3 → 7 ≤ p.rail.rl2 →
      (p.item .re).state = .opened →
      (let q := p.railSample e
      q.rail.state = .closing ∧ (q.item .re).state = .closing ∧ q.unit.attention.rail = true ∧
      q.unit.journal.getLast? = some
        ⟨p.unit.nextIndex, e.time.stamp, .rail, .railClose,
          [2, if r.watchBelow then 1 else 0, (r.watchPeak : Int)]⟩ ∧
      q.feeders = p.feeders ∧ q.rect = p.rect)))) ∧
    (∀ (e : Env) (p : Plant), p.rail.state = .closing →
    (let q := p.railOutcome e .closing .completed
    let lv := e.railLevels
    let kept := (p.rail.closures.drop (p.rail.closures.length - 7)).filter
      (fun c => (e.time.elapsed - c.elapsed).toNat ≤ lv.w * 60000)
    let now := kept ++ [⟨e.time.elapsed, e.time.stamp⟩]
    q.rail.closures = now ∧ now.length ≤ 8 ∧ q.items = p.items ∧ q.feeders = p.feeders ∧
    (lv.nrep ≤ now.length →
      q.rail.state = .permanent ∧ q.rail.holdTimer = none ∧ q.unit.latched.railPermanent = true ∧
      q.unit.attention.rail = true ∧
      q.unit.journal.getLast? = some
        ⟨p.unit.nextIndex, e.time.stamp, .rail, .railPermanent, [(now.length : Int), (lv.w : Int)]⟩) ∧
    (now.length < lv.nrep →
      q.rail.state = .holding ∧ q.rail.holdTimer = some (e.time.tick + 8000 * lv.th) ∧ q.unit = p.unit)))) ∧
    (∀ (e : Env) (p : Plant),
    (let lv := e.railLevels
    let q := p.railMean e
    let sensedOpen := (p.item .re).sensed = .opened
    let rl1 := if lv.u1 ≤ (e.front.mean1 .vre).natAbs then min 10000 (p.rail.rl1 + 1) else 0
    let frame := if sensedOpen then 0
      else if lv.iframe ≤ (e.front.mean1 .ire).natAbs then min 200 (p.rail.frameRun + 1) else 0
    let runs : RailMonitor :=
      { p.rail with
        rl1 := rl1, frameRun := frame, rl1Held := decide (lv.t1 ≤ rl1), frameHeld := decide (lv.tf ≤ frame) }
    let declares := lv.tf ≤ frame ∧ p.rail.frameHeld = false
    q.rail.rl1 = rl1 ∧ q.rail.frameRun = frame ∧ q.rail.rl1Held = runs.rl1Held ∧ q.rail.frameHeld = runs.frameHeld ∧
    (declares → q.rail.frameFault = true ∧
      q.rail.lastFault = some ⟨.frameCurrent, (e.front.mean1 .ire).natAbs, e.time.stamp⟩) ∧
    (¬ declares → p.rail.state ≠ .watching ∨ (p.rail.rl2 < 8 ∧ rl1 < lv.t1) → q = { p with rail := runs }) ∧
    (¬ declares → p.rail.state = .watching → p.rail.rl2 < 8 → lv.t1 ≤ rl1 → (p.item .re).state = .opened →
      q.rail = { runs with state := .closing } ∧ (q.item .re).state = .closing ∧ q.unit.attention.rail = true ∧
      q.unit.journal.getLast? = some ⟨p.unit.nextIndex, e.time.stamp, .rail, .railClose,
        [1, if p.rail.watchBelow then 1 else 0, (p.rail.watchPeak : Int)]⟩ ∧
      q.feeders = p.feeders ∧ q.rect = p.rect) ∧
    (∀ o, p.rail.state = .closing → o = .failed ∨ o = .wrongState →
      (let g := p.railOutcome e .closing o
      g.rail = { p.rail with state := .failed, holdTimer := none } ∧ g.unit.attention.rail = true ∧
      (p.rail.rl2 < 8 → g.feeders = p.feeders ∧ g.items = p.items) ∧
      (8 ≤ p.rail.rl2 → ∀ k,
        ((p.feeder k).state = .inService →
          (g.feeder k).state = .tripping ∧ (g.feeder k).lastCause = some .railSubstitute ∧
            (g.feeder k).reclose = some true) ∧
        ((p.feeder k).state ≠ .inService → g.feeder k = p.feeder k))))))

/-- O38. RAIL_HOLD_EXPIRY and Release Earthing open RE below Ireopen; its outcome and RE's reports move the monitor
as R150 and R151 say. The operations that the supervisor's outcome and reports of RE apply. That the peak of 0
at an entry into WATCHING has the sign above earth is the model's reading (log 34, DEDUCED). A handling after
the expiry's instant acts at the present one (log 5). Taken before the samples of its own instant, an expiry
begins that instant (O4). (R148, R149, R150, R151, R152, R156) -/
def Obligations.EarthingIsReleased : Prop :=
  (((∀ (x : Nat) (s : State), s.plant.rail.state = .holding → s.plant.rail.holdTimer = some x → x ≤ s.time.tick →
    (let lv := s.env.railLevels
    ((s.front.mean20 .ire).natAbs < lv.ireopen →
      ∃ p, exec .railHoldExpiry s = .next { s with plant := p } ∧
        p.rail = { s.plant.rail with state := .opening false, holdTimer := none } ∧
        (p.item .re).state = .opening ∧ (∀ i, i ≠ .re → p.item i = s.plant.item i) ∧
        p.unit = s.plant.unit ∧ p.feeders = s.plant.feeders) ∧
    (lv.ireopen ≤ (s.front.mean20 .ire).natAbs →
      exec .railHoldExpiry s =
        .next { s with
          plant := { s.plant with
            rail := { s.plant.rail with holdTimer := some (s.time.tick + 8 * (1000 * lv.th)) } } }))) ∧
    (∀ (head : RequestHead) (s : State), s.link.takesAtOnce = true →
    (let amps := (s.front.mean20 .ire).natAbs
    let may := s.plant.rail.state = .permanent ∧ amps < s.env.railLevels.ireopen
    (head.pins.remote = false →
      exec (.releaseEarthing head) s = .next (s.repliedWith head .releaseEarthing [4] s.plant)) ∧
    (head.pins.remote = true → ¬ may →
      exec (.releaseEarthing head) s = .next (s.repliedWith head .releaseEarthing [5] s.plant)) ∧
    (head.pins.remote = true → may →
      ∃ p, exec (.releaseEarthing head) s =
          .next (s.repliedWith head .releaseEarthing
            [0, BitVec.ofNat 8 amps, BitVec.ofNat 8 (amps / 256)] p) ∧
        p.rail = { s.plant.rail with state := .opening true, holdTimer := none } ∧
        (p.item .re).state = .opening ∧ (∀ i, i ≠ .re → p.item i = s.plant.item i) ∧
        p.unit.journal.getLast? = some
          ⟨s.plant.unit.nextIndex, s.time.stamp, .rail, .railRelease, [(amps : Int)]⟩ ∧
        p.feeders = s.plant.feeders ∧ p.rect = s.plant.rect)))) ∧
    (∀ (e : Env) (p : Plant),
    (let lv := e.railLevels
    let r := p.rail
    let holds : RailMonitor := { r with state := .holding, holdTimer := some (e.time.tick + 8 * (1000 * lv.th)) }
    let watches : RailMonitor :=
      { r with state := .watching, watchPeak := 0, watchBelow := false, holdTimer := none }
    let posted (q : Plant) (kind : Kind) (details : List Int) : Prop :=
      q.unit.journal.getLast? = some ⟨p.unit.nextIndex, e.time.stamp, .rail, kind, details⟩ ∧ q.items = p.items
    let initial (reason : ReportReason) := reason = .initial ∨ reason = .resensed
    (r.state = .watching →
      (p.railReport e .closed .discrepancy).rail = holds ∧
      posted (p.railReport e .closed .discrepancy) .railClose
        [0, if r.watchBelow then 1 else 0, (r.watchPeak : Int)] ∧
      ∀ reason, initial reason →
        p.railReport e .closed reason = { p with rail := holds } ∧ p.railReport e .opened reason = p) ∧
    (r.state = .holding ∨ r.state = .permanent →
      (p.railReport e .opened .discrepancy).rail = watches ∧
      posted (p.railReport e .opened .discrepancy) .railOpen [2, (r.closures.length : Int)]) ∧
    (r.state = .failed →
      (∀ reason, reason = .discrepancy ∨ reason = .late →
        (p.railReport e .opened reason).rail = watches ∧
        posted (p.railReport e .opened reason) .railOpen [3, (r.closures.length : Int)]) ∧
      (∀ reason, initial reason → p.railReport e .opened reason = { p with rail := watches }) ∧
      (∀ reason, reason = .discrepancy ∨ reason = .late ∨ initial reason →
        p.railReport e .closed reason = p.countedClosure e)) ∧
    (∀ new reason, r.state = .closing ∨ (∃ x, r.state = .opening x) ∨ new = .unsensed →
      p.railReport e new reason = p)))) ∧
    (∀ (e : Env) (p : Plant),
    (let r := p.rail
    (∀ x, r.state = .opening x →
      (let q := p.railOutcome e .opening .completed
      q.rail = { r with state := .watching, watchPeak := 0, watchBelow := false, holdTimer := none } ∧
      q.unit.journal.getLast? = some ⟨p.unit.nextIndex, e.time.stamp, .rail, .railOpen,
        [if x then 1 else 0, (r.closures.length : Int)]⟩ ∧
      q.items = p.items ∧ q.feeders = p.feeders) ∧
      (let q := p.railOutcome e .opening .failed
      q.rail = { r with state := .failed, holdTimer := none } ∧ q.unit.attention.rail = true ∧
      q.unit.journal = p.unit.journal ∧ q.items = p.items ∧ q.feeders = p.feeders)) ∧
    (∀ new, r.state = .holding ∨ r.state = .permanent → p.railReport e new .resensed = p)))

/-- O39. Clear Frame Fault needs REMOTE and ENG_KEY and a live condition with neither cause holding; it clears the
flag alone. (R155) -/
def Obligations.ClearFrameFaultNeedsBothPins : Prop :=
  ∀ (head : RequestHead) (s : State), s.link.takesAtOnce = true →
    (let r := s.plant.rail
    let holds := 8 ≤ r.rl3 ∨ r.frameHeld = true
    (head.pins.remote = false ∨ head.pins.engKey = false →
      exec (.clearFrameFault head) s = .next (s.repliedWith head .clearFrameFault [4] s.plant)) ∧
    (head.pins.remote = true → head.pins.engKey = true → r.frameFault = false ∨ holds →
      exec (.clearFrameFault head) s = .next (s.repliedWith head .clearFrameFault [5] s.plant)) ∧
    (head.pins.remote = true → head.pins.engKey = true → r.frameFault = true → ¬ holds →
      ∃ u, exec (.clearFrameFault head) s =
          .next (s.repliedWith head .clearFrameFault [0]
            { s.plant with rail := { r with frameFault := false }, unit := u }) ∧
        u.journal.getLast? = some ⟨s.plant.unit.nextIndex, s.time.stamp, .rail, .frameFault, [0, 0]⟩ ∧
        u.latched.frameFault = s.plant.unit.latched.frameFault))

/-- O40. A frame fault declaration sets flag, alarm, record and entry, closes RE for RL3 where it can be closed, and
acts on every feeder by its state. The operation that the monitor applies at a VRE sample and at the millisecond
event. That LOCKED_OUT FRAME_FAULT replaces whatever exit target a closing holds, another LOCKED_OUT cause
included, is the model's reading (log 28, DEDUCED). That a refused close of RE acts at once, with the substitute
order ahead of the frame fault order, is its reading too (log 29, DEDUCED). (R108, R113, R114, R147, R154) -/
def Obligations.FrameFaultTripsAndLocksOut : Prop :=
  ((∀ (e : Env) (cause : FrameCause) (value : Nat) (p : Plant),
    (let may := (p.item .re).state = .opened ∨ (p.item .re).state = .failedClose ∧ (p.item .re).sensed = .opened
    let closes := cause = .rl3 ∧ (p.rail.state = .watching ∨ p.rail.state = .failed)
    (closes → may) →
    (let q := p.declareFrameFault e cause value
    let target : Option ExitTarget := some (.lockedOut .frameFault)
    let rail := { p.rail with frameFault := true, lastFault := some ⟨cause, value, e.time.stamp⟩ }
    (¬ closes → q.rail = rail ∧ q.item .re = p.item .re) ∧
    (closes → q.rail = { rail with state := .closing } ∧ (q.item .re).state = .closing) ∧
    (p.rail.frameFault = false → q.unit.latched.frameFault = true) ∧ q.unit.attention.rail = true ∧
    ⟨p.unit.nextIndex, e.time.stamp, .rail, .frameFault, [(cause.code : Int), (value : Int)]⟩ ∈ q.unit.journal ∧
    ∀ k,
      (let f := p.feeder k
      let g := q.feeder k
      (f.state = .inService →
        g.state = .tripping ∧ g.reclose = some false ∧ g.exit = target ∧ g.lastCause = some .frameFault ∧
          k ∈ q.pendingOpen ∧ (q.item (.fb k)).state = .opening) ∧
      (f.state = .tripping → g = { f with reclose := some false, exit := target }) ∧
      ((∃ x, f.state = .deadTime x) → g.state = .lockedOut ∧ g.lockout = some .frameFault) ∧
      (f.state = .lineTest .tcClosing ∨ f.state = .lineTest .settling →
        g.state = .lineTest .tcOpening ∧ g.exit = target ∧ (q.item (.tc k)).state = .opening) ∧
      (f.state = .lineTest .tcOpening → g = { f with exit := target }) ∧
      (f.state = .closing → g = { f with exit := target } ∧ (q.item (.fb k)).state = .opening) ∧
      (f.state = .unknown ∨ f.state = .out ∨ f.state = .lockedOut → g = f))))) ∧
    (∀ (e : Env) (value : Nat) (p : Plant), p.rail.state = .failed →
    (p.item .re).state ≠ .opened → ((p.item .re).state = .failedClose → (p.item .re).sensed ≠ .opened) →
    (let q := p.declareFrameFault e .rl3 value
    q.rail = { p.rail with frameFault := true, lastFault := some ⟨.rl3, value, e.time.stamp⟩ } ∧
      q.item .re = p.item .re)) ∧
    (∀ (e : Env) (p : Plant), p.rail.rl3 = 7 → e.railLevels.u3 ≤ e.front.latest.vre.natAbs →
    p.rail.state ≠ .watching → p.rail.state ≠ .failed →
    (let q := p.railSample e
    q.rail.rl3 = 8 ∧ q.rail.frameFault = true ∧
      q.rail.lastFault = some ⟨.rl3, e.front.latest.vre.natAbs, e.time.stamp⟩))) ∧
    (∀ (e : Env) (value : Nat) (p : Plant), p.rail.state = .watching → (p.item .re).state ≠ .opened →
    (p.item .re).state ≠ .closed → ((p.item .re).state = .failedClose → (p.item .re).sensed ≠ .opened) →
    (let q := p.declareFrameFault e .rl3 value
    q.rail = { p.rail with
      state := .failed, holdTimer := none, frameFault := true, lastFault := some ⟨.rl3, value, e.time.stamp⟩ } ∧
    q.item .re = p.item .re ∧ q.unit.attention.rail = true ∧
    ∀ k, (p.feeder k).state = .inService →
      (q.feeder k).state = .tripping ∧ (q.feeder k).reclose = some false ∧
      (q.feeder k).exit = some (.lockedOut .frameFault) ∧ k ∈ q.pendingOpen ∧
      (q.feeder k).lastCause = some (if 8 ≤ p.rail.rl2 then .railSubstitute else .frameFault)))

/-- O41. No step decreases an energy counter except Clear Energy or power-on reset, and every counter saturates at
2^64 − 1. (R160) -/
def Obligations.EnergyCountersNeverDecrease : Prop :=
  (∀ s t : State, s.energy.everyCounter (· ≤ 2 ^ 64 - 1) → step s = .next t →
      t.energy.everyCounter (· ≤ 2 ^ 64 - 1) ∧
      (s.energy.noneAbove t.energy ∨
        t.energy.everyCounter (· = 0) ∧
          ((∃ x rest, s.pending = .powerOnReset x :: rest) ∨ s.clearedSince t))) ∧
    (∀ counter added : Nat, 2 ^ 64 - 1 < counter + added → addEnergy counter added = 2 ^ 64 - 1) ∧
    (∀ counter added : Nat, counter + added ≤ 2 ^ 64 - 1 → addEnergy counter added = counter + added)

/-- O42. An eighth-7 instant adds VBUS × current to the energy counters and credits kWh; the pulse output runs ON,
GAP, IDLE. A handling after the expiry's instant acts at the present one (log 5). Taken before the samples of
its own instant, an expiry begins that instant (O4). (R159, R162, R163) -/
def Obligations.EnergyIsCountedAndPulsed : Prop :=
  (∀ (x : SampleInputs) (s : State), ∃ t, exec (.sampleInstant x) s = .next t ∧
    (t.time.eighth ≠ 7 → t.energy = s.energy) ∧
    (t.time.eighth = 7 →
      (let c := s.store.icreep
      let v := t.front.mean1 .vbus
      let plus (i : Int) : Nat := if (c : Int) ≤ i then (v * i).toNat else 0
      let minus (i : Int) : Nat := if i ≤ -(c : Int) then (v * -i).toNat else 0
      let top (n : Nat) : Nat := min (2 ^ 64 - 1) n
      let idc := t.front.mean1 .idc
      let whole := top (s.energy.rectPlus + plus idc) / 3600000000
      let pulses := if s.energy.credited < whole
        then min 65535 (s.energy.pulses + (whole - s.energy.credited)) else s.energy.pulses
      (∀ k, t.energy.plus.get k =
          top (s.energy.plus.get k + plus (t.front.mean1 (.feederCurrent k))) ∧
        t.energy.minus.get k = top (s.energy.minus.get k + minus (t.front.mean1 (.feederCurrent k)))) ∧
      t.energy.rectPlus = top (s.energy.rectPlus + plus idc) ∧
      t.energy.rectMinus = top (s.energy.rectMinus + minus idc) ∧
      t.energy.credited = max s.energy.credited whole ∧
      (s.energy.output = .idle → 0 < pulses →
        t.energy.pulses = pulses - 1 ∧ t.energy.output = .on (t.time.tick + 160)) ∧
      (s.energy.output ≠ .idle ∨ pulses = 0 →
        t.energy.pulses = pulses ∧ t.energy.output = s.energy.output)))) ∧
    (∀ (x : Nat) (s : State), x ≤ s.time.tick →
    (s.energy.output = .on x →
      exec .energyPulseOnExpiry s =
        .next { s with energy := { s.energy with output := .gap (s.time.tick + 160) } }) ∧
    (s.energy.output = .gap x → 0 < s.energy.pulses →
      exec .energyPulseGapExpiry s =
        .next { s with
          energy := { s.energy with pulses := s.energy.pulses - 1, output := .on (s.time.tick + 160) } }) ∧
    (s.energy.output = .gap x → s.energy.pulses = 0 →
      exec .energyPulseGapExpiry s = .next { s with energy := { s.energy with output := .idle } }))

/-- O43. Clear Energy with ENG_KEY zeroes counters, credited kWh and pending pulses, journals Erect+ in kWh, and
leaves the output. (R164) -/
def Obligations.ClearEnergyZeroesTheCounters : Prop :=
  ∀ (head : RequestHead) (s : State), s.link.takesAtOnce = true →
    (head.pins.engKey = false →
      exec (.clearEnergy head) s = .next (s.repliedWith head .clearEnergy [4] s.plant)) ∧
    (head.pins.engKey = true →
      ∃ u, exec (.clearEnergy head) s =
          .next { s.repliedWith head .clearEnergy [0] { s.plant with unit := u } with
            energy := { Energy.reset with output := s.energy.output } } ∧
        u.journal.getLast? = some
          ⟨s.plant.unit.nextIndex, s.time.stamp, .station, .energyCleared,
            [((s.energy.rectPlus / 3600000000 : Nat) : Int)]⟩) ∧
    (Energy.reset.everyCounter (· = 0) ∧ Energy.reset.credited = 0 ∧ Energy.reset.pulses = 0)

/-- O44. A claim takes the lowest FREE slot, else the COMPLETE slot first in the claim list; each millisecond slides
the rings and fills records. The claim that a trip makes, and the operation of the millisecond event at the
fault record store. The clock count of a capture start is that of the eighth-7 instant (log 40, DESIGN CHOICE).
(R167, R166, R168) -/
def Obligations.ClaimsTakeFreeSlotsFirst : Prop :=
  (∀ (k : FeederId) (snap : Snapshot) (r : RecordStore),
    (let c := r.claim k snap
    (∀ n : SlotId, (r.slots[n]).isFree = true → (∀ m : SlotId, m < n → (r.slots[m]).isFree = false) →
      c.2 = some n) ∧
    ((∀ n : SlotId, (r.slots[n]).isFree = false) →
      (∀ (before after : List SlotId) (n : SlotId), r.claims = before ++ n :: after →
        (r.slots[n]).isComplete = true → (∀ m ∈ before, (r.slots[m]).isComplete = false) → c.2 = some n) ∧
      ((∀ n ∈ r.claims, (r.slots[n]).isComplete = false) → c = (r, none))) ∧
    (∀ n, c.2 = some n →
      c.1.slots[n] = .filling ⟨k, snap.cause, snap.stamp, snap, none, r.rings.get k⟩ ∧
      (∀ m : SlotId, m ≠ n → c.1.slots[m] = r.slots[m]) ∧
      (∃ rest, c.1.claims = rest ++ [n] ∧ n ∉ rest ∧ ∀ m, m ∈ rest ↔ m ∈ r.claims ∧ m ≠ n) ∧
      c.1.hold = r.hold ∧ c.1.rings = r.rings))) ∧
    (∀ (e : Env) (p : Plant),
    (let q := p.recordMean e
    let triple (k : FeederId) : Triple :=
      ⟨e.front.mean1 (.feederCurrent k), e.front.mean1 .vbus, e.front.mean1 (.lineVoltage k)⟩
    let grown (x : FaultRecord) : FaultRecord :=
      { x with
        captureStart := some (x.captureStart.getD ⟨e.time.clock, e.time.unsync, decide (e.time.source = .fallback)⟩)
        triples := x.triples ++ [triple x.feeder] }
    (∀ k, q.records.rings.get k = (p.records.rings.get k).drop 1 ++ [triple k]) ∧
    q.records.claims = p.records.claims ∧ q.records.hold = p.records.hold ∧
    (∀ (n : SlotId) (x : FaultRecord), p.records.slots[n] = .filling x →
      q.records.slots[n] = (if 127 ≤ x.triples.length then .complete (grown x) else .filling (grown x)) ∧
      (127 ≤ x.triples.length → q.unit.attention.record = true)) ∧
    (∀ n : SlotId, (∀ x, p.records.slots[n] ≠ .filling x) → q.records.slots[n] = p.records.slots[n]) ∧
    ((∀ (n : SlotId) (x : FaultRecord), p.records.slots[n] = .filling x → x.triples.length < 127) →
      q.unit = p.unit) ∧
    q.feeders = p.feeders ∧ q.items = p.items ∧ q.rect = p.rect ∧ q.rail = p.rail))

/-- O45. Read Record Piece holds a COMPLETE record for 2 s after pieces 0 to 6 and releases it at piece 7;
RECORD_HOLD_EXPIRY releases it. A handling after the expiry's instant acts at the present one (log 5). Taken
before the samples of its own instant, an expiry begins that instant (O4). (R169, R170, R213) -/
def Obligations.RecordPiecesHoldTheRecord : Prop :=
  (∀ (head : RequestHead) (a b : Byte) (s : State), s.link.takesAtOnce = true →
      (3 < a.toNat ∨ 7 < b.toNat →
        exec (.readRecordPiece head a b) s = .next (s.repliedWith head .readRecordPiece [3] s.plant)) ∧
      (∀ n : SlotId, a.toNat = n.val → b.toNat ≤ 7 → (s.plant.records.slots[n]).record = none ∨
          (∃ x, s.plant.records.slots[n] = .filling x) →
        exec (.readRecordPiece head a b) s = .next (s.repliedWith head .readRecordPiece [8] s.plant)) ∧
      (∀ (n : SlotId) (x : FaultRecord), a.toNat = n.val → b.toNat ≤ 7 →
        s.plant.records.slots[n] = .complete x ∨ s.plant.records.slots[n] = .held x →
        (let two (v : Int) : List Byte := [BitVec.ofInt 8 v, BitVec.ofInt 8 (v / 256)]
        let triples := ((x.triples.drop (16 * b.toNat)).take 16).map
          (fun t => two t.current ++ two t.busbar ++ two t.line)
        ∃ top r, exec (.readRecordPiece head a b) s =
            .next (s.repliedWith head .readRecordPiece
              (0 :: a :: b :: (if b.toNat = 7 then 2 else 3) :: (top ++ triples.flatten))
              { s.plant with records := r }) ∧
          (b.toNat ≠ 0 → top = []) ∧
          (b.toNat = 0 → top = x.header ∧ top.length = 38 ∧
            top.take 2 = [BitVec.ofNat 8 x.feeder.number, BitVec.ofNat 8 x.cause.code]) ∧
          r.claims = s.plant.records.claims ∧ r.rings = s.plant.records.rings ∧
          (b.toNat = 7 → r.slots[n] = .complete x ∧ r.hold = none) ∧
          (b.toNat < 7 → r.slots[n] = .held x ∧ r.hold = some (n, s.time.tick + 16000)) ∧
          (∀ m : SlotId, m ≠ n →
            r.slots[m] = if s.plant.records.hold.map Prod.fst = some m then (s.plant.records.slots[m]).unhold
              else s.plant.records.slots[m])))) ∧
    (∀ (n : SlotId) (due : Nat) (x : FaultRecord) (s : State), s.plant.records.hold = some (n, due) →
      s.plant.records.slots[n] = .held x → due ≤ s.time.tick →
      exec .recordHoldExpiry s =
        .next { s with
          plant := { s.plant with
            records := { s.plant.records with
              slots := s.plant.records.slots.set n (.complete x), hold := none } } })

/-- O46. Free Record frees a COMPLETE or HELD slot, is answered OK on a FREE one, and is refused on one that is
FILLING. (R171) -/
def Obligations.FreeRecordDiscardsAReadRecord : Prop :=
  ∀ (head : RequestHead) (a : Byte) (s : State), s.link.takesAtOnce = true →
    (3 < a.toNat → exec (.freeRecord head a) s = .next (s.repliedWith head .freeRecord [3] s.plant)) ∧
    (∀ n : SlotId, a.toNat = n.val →
      (let r := s.plant.records
      (∀ x, r.slots[n] = .filling x →
        exec (.freeRecord head a) s = .next (s.repliedWith head .freeRecord [5] s.plant)) ∧
      (r.slots[n] = .free →
        exec (.freeRecord head a) s = .next (s.repliedWith head .freeRecord [0, a, 0] s.plant)) ∧
      (∀ x, r.slots[n] = .complete x ∨ r.slots[n] = .held x →
        exec (.freeRecord head a) s =
          .next (s.repliedWith head .freeRecord [0, a, 0]
            { s.plant with
              records :=
                { r with
                  slots := r.slots.set n .free
                  claims := r.claims.filter (fun m => m ≠ n)
                  hold := if r.hold.map Prod.fst = some n then none else r.hold } }))))

/-- O47. Every step keeps the claim list, the hold, the slots and the lengths of records and rings in agreement.
(R166, R167, R168, R169, R170, R171) -/
def Obligations.RecordLawIsKept : Prop :=
  ∀ s t : State, s.recordLaw → step s = .next t → t.recordLaw

/-- O48. An append keeps at most 256 entries and latches JOURNAL_OVERFLOW when it pushes one out; latching sets
contact and flag ALARM. The operations of the journal and alarm unit that every event applies. That the notice
is formed where the flag joins, with the counts as they stand there, is log 20 (DEDUCED). (R175, R176, R180,
R181, R185, R187, R188) -/
def Obligations.PostsAppendAndLatch : Prop :=
  ∀ (e : Env) (u : JournalUnit),
    (∀ (src : Source) (kind : Kind) (details : List Int), u.journal.length ≤ 256 →
      (let q := JournalUnit.post e src kind details u
      let entry : Entry := ⟨u.nextIndex, e.time.stamp, src, kind, details⟩
      q.nextIndex = u.nextIndex + 1 ∧ q.mask = u.mask ∧
      (u.journal.length < 256 → q.journal = u.journal ++ [entry] ∧ q.latched = u.latched ∧ q.contact = u.contact) ∧
      (u.journal.length = 256 →
        q.journal = u.journal.drop 1 ++ [entry] ∧ q.latched = { u.latched with journalOverflow := true } ∧
          (u.latched.journalOverflow = false → q.contact = true ∧ q.attention.alarm = true)) ∧
      (u.journal = [] ∨ 191 ≤ u.journal.length → q.attention.journal = true))) ∧
    (∀ a : Alarm,
      (u.latched.get a = true → u.latch e a = u) ∧
      (u.latched.get a = false →
        (let q := u.latch e a
        (∀ b, q.latched.get b = if b = a then true else u.latched.get b) ∧ q.contact = true ∧
          q.attention.alarm = true ∧ q.journal = u.journal))) ∧
    (∀ f : AttentionFlag,
      (u.attention.get f = true → u.raise e f = u) ∧
      (u.attention.get f = false →
        (let q := u.raise e f
        (∀ g, q.attention.get g = if g = f then true else u.attention.get g) ∧
        (u.mask.get f = false →
          q.pendingFlags = u.pendingFlags ∧ q.notice = u.notice ∧ q.holdoff = u.holdoff) ∧
        (u.mask.get f = true → u.holdoff = none → u.notice = none →
          (∀ g, q.pendingFlags.get g = false) ∧ q.holdoff = some (e.time.tick + 800) ∧
          ∃ n, q.notice = some n ∧ n.attention = q.attention ∧ n.entries = u.journal.length ∧
            ∀ g, n.pending.get g = (decide (g = f) || u.pendingFlags.get g)) ∧
        (u.mask.get f = true → u.holdoff.isSome ∨ u.notice.isSome →
          q.notice = u.notice ∧ q.holdoff = u.holdoff ∧
            ∀ g, q.pendingFlags.get g = (decide (g = f) || u.pendingFlags.get g)))))

/-- O49. Release Journal removes the entry named and every older one; Acknowledge Alarms keeps exactly the flags
whose conditions are live. (R178, R179, R182) -/
def Obligations.JournalIsReleasedAndAlarmsAcknowledged : Prop :=
  ∀ (head : RequestHead) (s : State), s.link.takesAtOnce = true →
    (let u := s.plant.unit
    (∀ (x : Word16) (before after : List Entry) (y : Entry),
      u.journal = before ++ y :: after → y.index = x → (∀ z ∈ before, z.index ≠ x) →
      exec (.releaseJournal head x) s =
        .next (s.repliedWith head .releaseJournal
          [0, BitVec.ofNat 8 (before.length + 1), BitVec.ofNat 8 ((before.length + 1) / 256),
            BitVec.ofNat 8 after.length]
          { s.plant with unit := { u with journal := after } })) ∧
    (∀ x : Word16, (∀ z ∈ u.journal, z.index ≠ x) →
      exec (.releaseJournal head x) s = .next (s.repliedWith head .releaseJournal [7] s.plant)) ∧
    (u.journal.length < 256 →
      ∃ v, exec (.acknowledgeAlarms head) s =
          .next (s.repliedWith head .acknowledgeAlarms
            (0 :: BitVec.ofNat 8 v.latched.numbers.length :: v.latched.numbers.map (BitVec.ofNat 8))
            { s.plant with unit := v }) ∧
        (∀ a, v.latched.get a = (u.latched.get a && (s.plant.live s.env).get a)) ∧
        (v.contact = true ↔ ∃ a, v.latched.get a = true) ∧
        v.journal = u.journal ++
          [⟨u.nextIndex, s.time.stamp, .station, .alarmsAcked,
            [(u.latched.count : Int) - v.latched.count, v.latched.count]⟩]) ∧
    (∀ n : Byte, ∃ fields,
      exec (.fetchJournal head n) s =
        .next (s.repliedWith head .fetchJournal
          (0 :: BitVec.ofNat 8 u.journal.length :: BitVec.ofNat 8 (u.journal.length / 256) ::
            BitVec.ofNat 8 u.nextIndex.toNat :: BitVec.ofNat 8 (u.nextIndex.toNat / 256) ::
            BitVec.ofNat 8 (min u.journal.length (min 8 (max 1 n.toNat))) :: fields) s.plant) ∧
      fields = ((u.journal.take (min 8 (max 1 n.toNat))).map Entry.bytes).flatten))

/-- O50. Read Attention reports and clears the nine flags in one step; Notice Mask takes the mask and drops disabled
flags from the pending set. (R186, R189) -/
def Obligations.AttentionIsReadAndMasked : Prop :=
  ∀ (head : RequestHead) (s : State), s.link.takesAtOnce = true →
    (let u := s.plant.unit
    exec (.readAttention head) s =
      .next (s.repliedWith head .readAttention
        [0, BitVec.ofBoolListLE [u.attention.trip, u.attention.lockout, u.attention.switchgear,
            u.attention.rectifier, u.attention.rail, u.attention.alarm, u.attention.journal, u.attention.record],
          if u.attention.restart then 1 else 0]
        { s.plant with unit := { u with attention := FlagSet.empty } }) ∧
    (∀ f, FlagSet.empty.get f = false) ∧
    (∀ m : Word16, ∃ mask left,
      exec (.noticeMask head m) s =
        .next (s.repliedWith head .noticeMask
          [0, m.setWidth 8, if m.getLsbD 8 then 1 else 0]
          { s.plant with unit := { u with mask := mask, pendingFlags := left } }) ∧
      mask = ⟨m.getLsbD 0, m.getLsbD 1, m.getLsbD 2, m.getLsbD 3, m.getLsbD 4, m.getLsbD 5, m.getLsbD 6,
        m.getLsbD 7, m.getLsbD 8⟩ ∧
      (∀ f, left.get f = (u.pendingFlags.get f && mask.get f))))

/-- O51. Every step keeps the journal's consecutive indices, every live condition latched, the contact equal to any
flag, and notices due. (R175, R176, R180, R181, R187, R188, R189) -/
def Obligations.JournalAndAlarmLawsAreKept : Prop :=
  ∀ s t : State, step s = .next t →
    (s.journalLaw → t.journalLaw) ∧ (s.alarmLaw → t.alarmLaw) ∧ (s.noticeLaw → t.noticeLaw)

/-- O52. A received frame's bytes end in the execution or queueing of that frame; its characters stand on the line
as R191 lays them out. That a data bit of 1 stands at mark is log 47 (PRESUMED). (R193, R194, R195, R197,
notes/assumptions/8.md, R191) -/
def Obligations.ReceivedFramesAreOffered : Prop :=
  (∀ (f : LinkFrame) (pins : Pins) (s : State), f.payload.length ≤ 238 → s.link.assembly = .hunt →
    execAll (f.bytes.map (fun b => .receivedCharacter (.byte b) pins)) s =
      .next (s.offer pins f (serveFrame f))) ∧
    (∀ b : Byte,
    characterLevels b =
      [.space, .ofBit (b.getLsbD 0), .ofBit (b.getLsbD 1), .ofBit (b.getLsbD 2), .ofBit (b.getLsbD 3),
        .ofBit (b.getLsbD 4), .ofBit (b.getLsbD 5), .ofBit (b.getLsbD 6), .ofBit (b.getLsbD 7), .mark] ∧
    sampledCharacter (characterLevels b) = some (.byte b) ∧
    sampledCharacter ((characterLevels b).dropLast ++ [.space]) = some .framingError) ∧
    (∀ (bytes : List Byte) (bits : Nat),
    Transmitter.lineLevel .idle bits = .mark ∧
    (10 * bytes.length ≤ bits →
      (Transmitter.sendingReply bytes).lineLevel bits = .mark ∧
        (Transmitter.sendingNotice bytes).lineLevel bits = .mark) ∧
    (∀ b, bytes[bits / 10]? = some b →
      some ((Transmitter.sendingReply bytes).lineLevel bits) = (characterLevels b)[bits % 10]? ∧
        some ((Transmitter.sendingNotice bytes).lineLevel bits) = (characterLevels b)[bits % 10]?)) ∧
    (bitRate 0 = 19200 ∧ bitRate 1 = 38400 ∧ bitRate 2 = 57600 ∧ bitRate 3 = 115200)

/-- O53. A request command does exactly what the completion of its frame does: its operands survive the frame's
payload. That a request comes as one command with the contents of its frame is the model's choice (log 8).
(R193, R198, R204, R213, notes/assumptions/8.md) -/
def Obligations.RequestsAreTheirFrames : Prop :=
  ∀ (head : RequestHead) (s : State),
    (let carried (c : Instr) (kind : Byte) (payload : List Byte) : Prop :=
      exec c s = .next (s.offer head.pins ⟨kind, head.tag, payload⟩ (serveFrame ⟨kind, head.tag, payload⟩))
    let word (v : Word16) : List Byte := [v.setWidth 8, (v >>> 8).setWidth 8]
    (∀ p : List Byte, p.length ≤ 237 → carried (.echo head p) 0x02 p) ∧
    carried (.identify head) 0x01 [] ∧ carried (.readStatus head) 0x03 [] ∧ carried (.readAttention head) 0x04 [] ∧
    (∀ m, carried (.noticeMask head m) 0x05 (word m)) ∧
    (∀ c : Millis, carried (.setTime head c) 0x06
      [c.setWidth 8, (c >>> 8).setWidth 8, (c >>> 16).setWidth 8, (c >>> 24).setWidth 8, (c >>> 32).setWidth 8,
        (c >>> 40).setWidth 8]) ∧
    carried (.restart head) 0x07 [] ∧ carried (.readMeasurements head) 0x08 [] ∧
    carried (.readEnergy head) 0x09 [] ∧ carried (.clearEnergy head) 0x0A [] ∧
    (∀ (n : Byte) (f : SetFields), carried (.writeSet head n f) 0x10 (n :: (f.toList.map word).flatten)) ∧
    (∀ n, carried (.readSet head n) 0x11 [n]) ∧ (∀ n, carried (.eraseSet head n) 0x12 [n]) ∧
    (∀ a b c, carried (.writeMapEntry head a b c) 0x13 [a, b, c]) ∧ carried (.readMap head) 0x14 [] ∧
    (∀ f : StationFields, carried (.writeStationRecord head f) 0x15 (f.toList.map word).flatten) ∧
    carried (.readStationRecord head) 0x16 [] ∧ (∀ a b, carried (.setFeedState head a b) 0x17 [a, b]) ∧
    (∀ k, carried (.readFeeder head k) 0x18 [k]) ∧ (∀ k, carried (.feederClose head k) 0x19 [k]) ∧
    (∀ k, carried (.feederOpen head k) 0x1A [k]) ∧ (∀ k, carried (.resetLockout head k) 0x1B [k]) ∧
    (∀ k, carried (.clearFeederCounters head k) 0x1C [k]) ∧ carried (.readItems head) 0x20 [] ∧
    carried (.rectifierStart head) 0x21 [] ∧ carried (.rectifierStop head) 0x22 [] ∧
    (∀ v, carried (.setVoltageReference head v) 0x23 (word v)) ∧ carried (.readRectifier head) 0x24 [] ∧
    carried (.readRail head) 0x28 [] ∧ carried (.releaseEarthing head) 0x29 [] ∧
    carried (.clearFrameFault head) 0x2A [] ∧ (∀ n, carried (.fetchJournal head n) 0x30 [n]) ∧
    (∀ x, carried (.releaseJournal head x) 0x31 (word x)) ∧ carried (.readAlarms head) 0x32 [] ∧
    carried (.acknowledgeAlarms head) 0x33 [] ∧ carried (.listRecords head) 0x38 [] ∧
    (∀ a b, carried (.readRecordPiece head a b) 0x39 [a, b]) ∧ (∀ a, carried (.freeRecord head a) 0x3A [a]))

/-- O54. Characters build a frame; a framing error, a gap or a break discards what is assembled and counts; a break
also empties the queue. (R192, R194, R196, R202, R195) -/
def Obligations.LineEventsResetTheAssembly : Prop :=
  ∀ (s : State) (pins : Pins),
    (let l := s.link
    let up (n : Nat) : Nat := if n < 65535 then n + 1 else n
    let partly := l.assembly ≠ .hunt ∧ l.assembly ≠ .lineBreak
    (∀ b : Byte, l.assembly = .hunt →
      exec (.receivedCharacter (.byte b) pins) s =
        .next (if b = 0xA5 then { s with link := { l with assembly := .length } } else s)) ∧
    (∀ b : Byte, l.assembly = .length →
      exec (.receivedCharacter (.byte b) pins) s =
        .next { s with link :=
          if 2 ≤ b.toNat ∧ b.toNat ≤ 240 then { l with assembly := .body b.toNat [] }
          else { l with assembly := .hunt, counters := { l.counters with length := up l.counters.length } } }) ∧
    (l.assembly ≠ .lineBreak →
      exec (.receivedCharacter .framingError pins) s =
        .next { s with link :=
          { l with assembly := .hunt, counters := { l.counters with framing := up l.counters.framing } } }) ∧
    (partly →
      exec .gapTimerExpiry s =
        .next { s with link :=
          { l with assembly := .hunt, counters := { l.counters with gap := up l.counters.gap } } }) ∧
    (l.assembly ≠ .lineBreak →
      ∃ u, exec .linkBreak s =
          .next { s with
            link :=
              { l with
                assembly := .lineBreak, queue := []
                counters := { l.counters with breaks := up l.counters.breaks } }
            plant := { s.plant with unit := u } } ∧
        ∃ partial' : Int, (partial' = 1 ∧ partly ∨ partial' = 0 ∧ ¬ partly) ∧
          u.journal.getLast? = some
            ⟨s.plant.unit.nextIndex, s.time.stamp, .link, .linkReset, [(l.queue.length : Int), partial']⟩ ∧
          ∀ n, s.plant.unit.notice = some n → u.notice = some n) ∧
    (∀ (n : Nat) (body : List Byte) (c b : Byte), l.assembly = .check n body [c] →
      (crc (BitVec.ofNat 8 n :: body)).toNat ≠ c.toNat + 256 * b.toNat →
      exec (.receivedCharacter (.byte b) pins) s =
        .next { s with link :=
          { l with assembly := .hunt, counters := { l.counters with crc := up l.counters.crc } } }) ∧
    (l.assembly = .lineBreak →
      exec .linkBreakEnd s = .next { s with link := { l with assembly := .hunt } }))

/-- O55. Two frames wait; the oldest is executed at the start of the reply before it; the transmitter begins the
reply before the notice. FRAME_TRANSMIT_START as the step at which a frame due for an IDLE transmitter begins is
log 9; the levels of REMOTE and ENG_KEY that an execution within it reads are log 7 (DESIGN CHOICE). A handling
after the holdoff's instant acts at the present one (log 5). Taken before the samples of its own instant, an
expiry begins that instant (O4). (R188, R197, R198, R199, R201, notes/assumptions/9.md, R204, R207) -/
def Obligations.FramesWaitAndAreSent : Prop :=
  ∀ s : State,
    (let l := s.link
    (∀ (head : RequestHead) (kind : Byte) (payload : List Byte), RequestKind.ofByte kind = none →
      (l.takesAtOnce = true →
        exec (.unknownKind head kind payload) s =
          .next { s with
            panel := { s.panel with remote := head.pins.remote, engKey := head.pins.engKey }
            link := { l with
              slot := some ⟨if kind.toNat < 127 then kind + 0x80 else 0xFE, head.tag, [1, kind]⟩ } }) ∧
      (l.takesAtOnce = false →
        exec (.unknownKind head kind payload) s =
          .next { s with link :=
            if l.queue.length < 2 then { l with queue := l.queue ++ [⟨kind, head.tag, payload⟩] }
            else { l with counters := { l.counters with
              overflow := if l.counters.overflow < 65535 then l.counters.overflow + 1
                else l.counters.overflow } } })) ∧
    (∀ (pins : Pins) (f : LinkFrame) (rest : List LinkFrame), l.free = true → l.queue = f :: rest →
      exec (.requestExecutionStart pins) s =
        .next (State.execute pins f.kind f.tag (serveFrame f) { s with link := { l with queue := rest } })) ∧
    (∀ (pins : Pins) (f : LinkFrame) (r : RequestKind) (rest : List LinkFrame), l.free = true → l.queue = f :: rest →
      RequestKind.ofByte f.kind = some r → r.accepts f.payload.length = false →
      exec (.requestExecutionStart pins) s =
        .next { s with
          panel := { s.panel with remote := pins.remote, engKey := pins.engKey }
          link := { l with queue := rest, slot := some ⟨f.kind + 0x80, f.tag, [2]⟩ } }) ∧
    (∀ pins : Pins, l.free = false ∨ l.queue = [] →
      exec (.requestExecutionStart pins) s =
        .next { s with panel := { s.panel with remote := pins.remote, engKey := pins.engKey } }) ∧
    (∀ f : LinkFrame, l.transmitter = .idle → l.slot = some f → l.restart = .none →
      (let begun : Link := { l with slot := none, transmitter := .sendingReply f.bytes }
      (l.queue = [] ∨ l.executing.isSome → exec .frameTransmitStart s = .next { s with link := begun }) ∧
      (∀ g rest, l.queue = g :: rest → l.executing = none →
        exec .frameTransmitStart s =
          .next (State.execute ⟨s.panel.remote, s.panel.engKey⟩ g.kind g.tag (serveFrame g)
            { s with link := { begun with queue := rest } })))) ∧
    (∀ n : Notice, l.transmitter = .idle → l.slot = none → l.restart = .none →
      s.plant.unit.notice = some n →
      (let sent (u : JournalUnit) : State :=
        { s with link := { l with transmitter := .sendingNotice n.frame.bytes }, plant := { s.plant with unit := u } }
      (s.plant.unit.holdoff.isSome ∨ (∀ f, s.plant.unit.pendingFlags.get f = false) →
        exec .frameTransmitStart s = .next (sent { s.plant.unit with notice := none })) ∧
      (∀ f, s.plant.unit.holdoff = none → s.plant.unit.pendingFlags.get f = true →
        ∃ n', exec .frameTransmitStart s =
            .next (sent { s.plant.unit with
              notice := some n', pendingFlags := FlagSet.empty, holdoff := some (s.time.tick + 800) }) ∧
          n'.pending = s.plant.unit.pendingFlags ∧ n'.attention = s.plant.unit.attention))) ∧
    (l.transmitter ≠ .idle →
      (l.restart ≠ .replySending →
        exec .frameTransmitEnd s =
          exec .frameTransmitStart { s with link := { l with transmitter := .idle } }) ∧
      (l.restart ≠ .replySending → l.slot = none → s.plant.unit.notice = none →
        exec .frameTransmitEnd s = .next { s with link := { l with transmitter := .idle } }) ∧
      (∀ f, l.restart = .none → l.slot = some f → l.queue = [] →
        exec .frameTransmitEnd s =
          .next { s with link := { l with slot := none, transmitter := .sendingReply f.bytes } }) ∧
      (l.restart = .replySending →
        exec .frameTransmitEnd s =
          .next { s with link := { l with transmitter := .idle, restart := .replySent } })) ∧
    (∀ x, s.plant.unit.holdoff = some x → x ≤ s.time.tick → (∀ f, s.plant.unit.pendingFlags.get f = false) →
      exec .noticeHoldoffExpiry s =
        .next { s with plant := { s.plant with unit := { s.plant.unit with holdoff := none } } }) ∧
    (∀ x f, s.plant.unit.holdoff = some x → x ≤ s.time.tick → s.plant.unit.pendingFlags.get f = true →
      s.plant.unit.notice = none →
      ∃ n, exec .noticeHoldoffExpiry s =
          .next { s with
            plant := { s.plant with
              unit := { s.plant.unit with
                holdoff := some (s.time.tick + 800), notice := some n, pendingFlags := FlagSet.empty } } } ∧
        n.pending = s.plant.unit.pendingFlags ∧ n.attention = s.plant.unit.attention))

/-- O56. Every step keeps one request at a time: one under execution exactly while a write is programmed, and at
most two frames queued. (R47, R52, R59, R62, R197, R198) -/
def Obligations.LinkLawIsKept : Prop :=
  ∀ s t : State, s.linkLaw → step s = .next t → t.linkLaw

/-- O57. A read request taken at once is answered OK with what its rule lists and leaves the part as it is but for
the pins read and the reply. The layout of the fields where no rule gives it, and the values of the two-valued
fields, are the model's reading of R204 (logs 21 to 23, 45, 48, 51, 58 and 59, DEDUCED; logs 44, 50, 52 to 54,
56 and 57, DESIGN CHOICE), and so is how a part of a millisecond is reported (log 18, a free value). (R198,
R199, R204, R205, R161, R208, R206, R209, R172, R212, R88, R210, R183, R211, R142, R157, R44, R117) -/
def Obligations.ReadRequestsChangeNothing : Prop :=
  ∀ (head : RequestHead) (s : State), s.link.takesAtOnce = true →
    (let answers (c : Instr) (kind : RequestKind) : Prop :=
      ∃ fields, exec c s = .next (s.repliedWith head kind (0 :: fields) s.plant)
    exec (.identify head) s =
      .next (s.repliedWith head .identify
        [0, 0x6E, 0x0B, 0x64, 0x02, 1, BitVec.ofNat 8 s.panel.unit.toNat, BitVec.ofNat 8 s.link.rate.toNat]
        s.plant) ∧
    exec (.readStatus head) s = .next (s.repliedWith head .readStatus
      (0 :: [BitVec.ofNat 8 s.panel.cause.code] ++ packFlags [head.pins.remote, head.pins.engKey] ++
        leBytes 6 s.time.clock.toNat ++ [BitVec.ofNat 8 s.time.eighth.toNat, if s.time.unsync then 1 else 0,
          BitVec.ofNat 8 s.time.source.code, BitVec.ofNat 8 s.plant.rect.state.code] ++
        FeederId.all.map (fun k => BitVec.ofNat 8 (s.plant.feeder k).state.code) ++
        packFlags s.plant.unit.attention.toList ++
        (let c := s.link.counters
        [c.framing, c.gap, c.length, c.crc, c.breaks, c.overflow].flatMap (fun n : Nat => leBytes 2 n))) s.plant) ∧
    (let channels : List Channel := [.vab, .vbc, .vca, .vbus, .idc] ++ FeederId.all.map .feederCurrent ++
      FeederId.all.map .lineVoltage ++ [.vre, .ire]
    let f := s.front
    let r := s.plant.tracker
    exec (.readMeasurements head) s = .next (s.repliedWith head .readMeasurements
      (0 :: channels.flatMap (fun c => leBytes 2 (f.latest.get c) ++ leBytes 2 (f.mean1 c) ++ leBytes 2 (f.mean20 c)) ++
        packFlags (channels.map (fun c => decide (0 < f.saturation.get c))) ++ [if r.locked then 1 else 0] ++
        leBytes 1 r.run ++ leBytes 2 r.period ++ leBytes 2 r.acPeak ++
        packFlags [r.supplyLow, !r.locked || r.supplyLow]) s.plant)) ∧
    (let wh (mj : Nat) : List Byte := leBytes 6 (mj / 3600000 : Nat)
    let en := s.energy
    exec (.readEnergy head) s = .next (s.repliedWith head .readEnergy
      (0 :: FeederId.all.flatMap (fun k => wh (en.plus.get k) ++ wh (en.minus.get k)) ++ wh en.rectPlus ++
        wh en.rectMinus ++ leBytes 6 en.credited ++ leBytes 2 en.pulses ++
        [(match en.output with | .idle => 0 | .on _ => 1 | .gap _ => 2 : Byte)] ++
        (match s.store.stationFields with
          | some st => leBytes 1 st.icreep.toNat ++ [1]
          | none => [5, 0])) s.plant)) ∧
    exec (.readMap head) s = .next (s.repliedWith head .readMap
      (0 :: FeederId.all.flatMap (fun k => [FeedState.double, .single, .extended, .unknown].map (fun f =>
          BitVec.ofNat 8 (match (s.store.map.get k).get f with
            | some n => n.val
            | none => 255))) ++
        FeederId.all.map (fun k => BitVec.ofNat 8 (s.store.feed.get k).code) ++
        FeederId.all.flatMap (fun k =>
          (let b := s.store.binding.get k
          [BitVec.ofNat 8 b.feed.code, BitVec.ofNat 8 (match b.set with | some n => n.val | none => 16),
            BitVec.ofNat 8 b.fault.code]))) s.plant) ∧
    (∀ (n : SetId) (b : Byte), b.toNat = n.val →
      (let r := s.store.sets[n]
      let reads (fields : List Byte) : Prop :=
        exec (.readSet head b) s = .next (s.repliedWith head .readSet
          (0 :: b :: BitVec.ofNat 8 r.state.code :: leBytes 1 s.store.inUse[n] ++ fields) s.plant)
      (∀ f, r.stored = some f → r.state = .valid ∨ r.state = .invalid →
        reads (f.toList.flatMap (fun w => leBytes 2 w.toNat))) ∧
      (r.state = .empty → reads []))) ∧
    (let r := s.store.station
    let reads (fields : List Byte) : Prop :=
      exec (.readStationRecord head) s = .next (s.repliedWith head .readStationRecord
        (0 :: BitVec.ofNat 8 r.state.code :: fields) s.plant)
    (∀ f, r.stored = some f → r.state = .valid ∨ r.state = .invalid →
      reads (f.toList.flatMap (fun w => leBytes 2 w.toNat))) ∧
    (r.state = .empty → reads [])) ∧
    exec (.listRecords head) s = .next (s.repliedWith head .listRecords
      (0 :: s.plant.records.slots.toList.flatMap (fun x =>
          (let shown (code : Byte) (r : FaultRecord) : List Byte :=
            [code, BitVec.ofNat 8 r.feeder.number, BitVec.ofNat 8 r.cause.code] ++ r.stamp.fields ++
              leBytes 1 r.triples.length
          match x with
          | .free => [0]
          | .filling r => shown 1 r
          | .complete r => shown 2 r
          | .held r => shown 3 r)) ++
        leBytes 1 s.plant.records.claims.length ++
        s.plant.records.claims.map (fun n => BitVec.ofNat 8 n.val) ++
        (match s.plant.records.hold with
          | some (n, due) => BitVec.ofNat 8 n.val :: leBytes 2 (s.time.msLeft due)
          | none => [0xFF, 0xFF, 0xFF])) s.plant) ∧
    exec (.readItems head) s = .next (s.repliedWith head .readItems
      (0 :: ItemId.all.flatMap (fun i =>
        (let it := s.plant.item i
        [BitVec.ofNat 8 it.state.code, BitVec.ofNat 8 it.sensed.code] ++ noneOr 1 (it.firm.map Position.code) ++
          (match it.levels with
            | some l => packFlags [l.released, l.pullDown, l.pullUp]
            | none => [0xFF]) ++ noneOr 1 (it.result.map Position.code) ++ leBytes 1 it.run ++
          (match it.operation with
            | some op => BitVec.ofNat 8 op.direction.code :: leBytes 2 (s.time.msLeft op.limit)
            | none => [0xFF, 0xFF, 0xFF]) ++
          (if ItemId.maintained i then packFlags [it.held] else packFlags [it.openCoil.isSome, it.closeCoil.isSome]) ++
          (match it.openCoil, it.closeCoil with
            | some x, _ | none, some x => leBytes 1 (s.time.msLeft x)
            | none, none => [0xFF]) ++
          packFlags [decide (it.state = .failedOpen ∨ it.state = .failedClose), decide (it.sensed = .unsensed)])))
        s.plant) ∧
    (∀ p, p.length ≤ 237 → exec (.echo head p) s = .next (s.repliedWith head .echo (0 :: p) s.plant)) ∧
    answers (.readStationRecord head) .readStationRecord ∧
    (let r := s.plant.rect
    let g := r.regulator
    let now := 1000 * s.time.elapsed.toNat + 125 * s.time.eighth.toNat
    exec (.readRectifier head) s = .next (s.repliedWith head .readRectifier
      (0 :: [BitVec.ofNat 8 r.state.code, BitVec.ofNat 8 r.stopCause.code, BitVec.ofNat 8 r.blockCause.code] ++
        leBytes 2 r.alpha ++ leBytes 2 r.reference ++
        leBytes 2 g.vtarget ++ leBytes 2 g.e ++ leBytes 1 g.step ++ leBytes 2 g.idc20 ++ leBytes 2 g.vbus20 ++
        leBytes 1 r.overcurrent ++ leBytes 1 r.overvoltage ++ leBytes 2 r.limitCount ++
        (match r.schedule with
          | some sch =>
            1 :: leBytes 6 (sch.crossing % 2 ^ 48 : Nat) ++ leBytes 2 sch.period ++ leBytes 2 sch.offset ++
              leBytes 2 sch.burst ++ sch.pulses.flatMap (fun x =>
                BitVec.ofNat 8 x.gate.val :: leBytes 2 x.angle ++ leBytes 2 x.position ++
                  leBytes 2 (x.moment - sch.crossing : Nat) ++ [BitVec.ofNat 8 x.status.code])
          | none => List.replicate 109 0) ++
        r.bursts.toList.flatMap (fun b => match b with
          | some b => 1 :: leBytes 2 (b.ends - now : Nat)
          | none => [0, 0xFF, 0xFF]) ++
        [BitVec.ofNat 8 (s.plant.item .acb).state.code, if s.plant.tracker.locked then 1 else 0] ++
        leBytes 2 s.plant.tracker.period ++
        packFlags (FeederId.all.map (fun k => decide (k ∈ s.plant.pendingOpen))) ++
        [if r.trippedLive then 1 else 0]) s.plant)) ∧
    (let r := s.plant.rail
    let lv := s.env.railLevels
    exec (.readRail head) s = .next (s.repliedWith head .readRail
      (0 :: BitVec.ofNat 8 r.state.code :: leBytes 2 r.rl1 ++ leBytes 1 r.rl2 ++ leBytes 1 r.rl3 ++
        leBytes 1 r.frameRun ++
        packFlags [r.rl1Held, decide (8 ≤ r.rl2), decide (8 ≤ r.rl3), r.frameHeld] ++
        leBytes 2 r.watchPeak ++ [if r.watchBelow then 1 else 0] ++
        leBytes 1 r.closures.length ++
        r.closures.flatMap (fun c => c.stamp.fields ++ leBytes 6 (s.time.elapsed - c.elapsed).toNat) ++
        (match r.holdTimer with
          | some due => leBytes 4 (s.time.msLeft due)
          | none => [0xFF, 0xFF, 0xFF, 0xFF]) ++
        packFlags [r.frameFault, decide (r.state = .permanent)] ++
        (match r.lastFault with
          | some x => 1 :: BitVec.ofNat 8 x.cause.code :: leBytes 2 x.value ++ x.stamp.fields
          | none => List.replicate 12 0) ++
        [BitVec.ofNat 8 (s.plant.item .re).state.code, BitVec.ofNat 8 (s.plant.item .re).sensed.code,
          if s.store.stationFields.isSome then 1 else 0] ++
        leBytes 2 lv.u1 ++ leBytes 2 lv.t1 ++ leBytes 2 lv.u2 ++ leBytes 2 lv.u3 ++ leBytes 2 lv.th ++
        leBytes 1 lv.nrep ++ leBytes 1 lv.w ++ leBytes 2 lv.ireopen ++ leBytes 2 lv.iframe ++
        leBytes 1 lv.tf) s.plant)) ∧
    exec (.readAlarms head) s =
      .next (s.repliedWith head .readAlarms
        (0 :: packFlags (s.plant.live s.env).toList ++ packFlags s.plant.unit.latched.toList ++
          [if s.plant.unit.contact then 1 else 0]) s.plant) ∧
    (∀ n : Byte, n.toNat < 16 → answers (.readSet head n) .readSet) ∧
    (∀ n : Byte, 16 ≤ n.toNat → exec (.readSet head n) s = .next (s.repliedWith head .readSet [3] s.plant)) ∧
    (∀ (k : FeederId) (n : Byte), n.toNat = k.number →
      (let d := s.plant.disc k
      let b := s.store.binding.get k
      let f := s.plant.feeder k
      let bindingCode (x : Option SetId) : Byte := BitVec.ofNat 8 (match x with
        | some n => n.val
        | none => 16)
      let ms (width : Nat) (due : Option Nat) : List Byte := noneOr width (due.map s.time.msLeft)
      let discFields : List Byte :=
        [BitVec.ofNat 8 d.state.code] ++ leBytes 1 d.instant ++
        (match d.event with
          | some v => 1 :: leBytes 1 d.startRun ++ 1 :: leBytes 2 v.ib ++ leBytes 2 v.age ++ leBytes 1 v.endCount ++
              leBytes 2 v.dfall ++ leBytes 1 v.nend ++ leBytes 2 v.deltaI ++ leBytes 2 v.tmin ++ leBytes 2 v.tmax
          | none => 0 :: leBytes 1 d.startRun ++ [0, 0, 0] ++ List.replicate 12 0xFF) ++
        leBytes 2 d.blocking ++ leBytes 4 d.theta ++ [if d.alarm then 1 else 0] ++ leBytes 2 d.events ++
        [BitVec.ofNat 8 d.outcome.code, BitVec.ofNat 8 b.feed.code, bindingCode b.set, BitVec.ofNat 8 b.fault.code]
      let snapFields : List Byte := match f.snapshot with
        | some x => 1 :: BitVec.ofNat 8 x.cause.code :: x.stamp.fields ++ leBytes 2 x.i ++ leBytes 4 x.d ++
            (match x.rise with
              | some y => 1 :: leBytes 2 y.ib ++ 1 :: leBytes 4 y.deltaI ++ leBytes 2 y.age
              | none => List.replicate 8 0 ++ [0xFF, 0xFF]) ++ leBytes 4 x.theta ++ [bindingCode x.binding]
        | none => List.replicate 31 0
      let exitFields : List Byte := match f.exit with
        | some (.lockedOut c) => [7, BitVec.ofNat 8 c.code]
        | some x => [BitVec.ofNat 8 x.code, 0xFF]
        | none => [0xFF, 0xFF]
      let test := f.lastTest
      let seqFields : List Byte :=
        [BitVec.ofNat 8 f.state.code] ++ exitFields ++
        [BitVec.ofNat 8 (match f.reclose with
          | some b => if b then 1 else 0
          | none => 255)] ++ noneOr 1 (f.lastCause.map TripCause.code) ++ snapFields ++
        noneOr 1 (f.lockout.map LockoutCause.code) ++ leBytes 1 f.attempts ++ leBytes 1 (s.store.values k).attempts ++
        [if f.manual then 1 else 0] ++
        (match f.state with
          | .deadTime x => [BitVec.ofNat 8 x.code]
          | _ => [0xFF]) ++ ms 2 f.deadTimer ++
        noneOr 4 (f.deferral.map (fun x => (s.time.elapsed - x).toNat)) ++
        (match f.state with
          | .lineTest x => [BitVec.ofNat 8 x.code]
          | _ => [0xFF]) ++ ms 2 f.settleTimer ++ ms 2 f.serviceTimer ++
        [BitVec.ofNat 8 test.result.code] ++
        (match test.rline with
          | some x => 1 :: leBytes 2 x
          | none => [0, 0, 0]) ++ noneOr 2 (test.vl.map Int.toNat) ++ noneOr 2 (test.vb.map Int.toNat) ++
        (match test.stamp with
          | some x => 1 :: x.fields
          | none => List.replicate 9 0) ++ [if test.manual then 1 else 0]
      exec (.readFeeder head n) s =
        .next (s.repliedWith head .readFeeder (0 :: n :: discFields ++ seqFields) s.plant))) ∧
    (∀ n : Byte, n.toNat < 1 ∨ 6 < n.toNat →
      exec (.readFeeder head n) s = .next (s.repliedWith head .readFeeder [3] s.plant)))

/-- O58. Set Time loads the clock and clears UNSYNC with its entry; a Restart is answered, blocks further requests,
and resets after its reply. RESTART_RESET as a step after the end of the reply, without effect before it, is the
model's reading (log 36, DEDUCED; log 3). (R10, R11, R207, R198) -/
def Obligations.SetTimeAndRestartAreTaken : Prop :=
  ∀ (head : RequestHead) (s : State), s.link.takesAtOnce = true →
    (∀ count : Millis,
      ∃ u, exec (.setTime head count) s =
          .next { s.repliedWith head .setTime [0] { s.plant with unit := u } with
            time := { s.time with clock := count, unsync := false } } ∧
        u.journal.getLast? = some
          ⟨s.plant.unit.nextIndex, ⟨count, s.time.eighth, false, s.time.stamp.free⟩, .station, .timeSet,
            [(s.time.clock.toNat : Int), (count.toNat : Int)]⟩) ∧
    (head.pins.remote = false →
      exec (.restart head) s = .next (s.repliedWith head .restart [4] s.plant)) ∧
    (head.pins.remote = true →
      ∃ t1 t2 t3, exec (.restart head) s = .next t1 ∧
        t1.link.slot = some ⟨0x87, head.tag, [0]⟩ ∧ t1.link.takesAtOnce = false ∧ t1.plant = s.plant ∧
        t1.store = s.store ∧ t1.time = s.time ∧ t1.energy = s.energy ∧ t1.front = s.front ∧
        exec (if s.link.transmitter = .idle then .frameTransmitStart else .frameTransmitEnd) t1 = .next t2 ∧
        t2.link.transmitter = .sendingReply (LinkFrame.bytes ⟨0x87, head.tag, [0]⟩) ∧ t2.link.queue = s.link.queue ∧
        exec .frameTransmitEnd t2 = .next t3 ∧
        t3.link.transmitter = .idle ∧ t3.link.takesAtOnce = false ∧ t3.link.queue = s.link.queue ∧
        (∀ x, exec (.restartReset x) t1 = .next t1 ∧ exec (.restartReset x) t2 = .next t2) ∧
        ∀ x, ∃ t4, exec (.restartReset x) t3 = .next t4 ∧ t4.panel.cause = .restartRequest ∧
          t4.link = Link.reset x.rate) ∧
    (∀ x (u : State), u.link.restart ≠ .replySent → exec (.restartReset x) u = .next u)

/-- O59. Power-on, pin reset and Restart leave every block at its reset values and keep what their rules keep. The
model's own reading or choice are these: a record INVALID before the reset, also one that an earlier cut-off
write left, is judged by the check word alone (log 41, DESIGN CHOICE); disturbed contents are taken as found
(log 26, DESIGN CHOICE); the last line test record within Sequencer.reset holds nothing beside its result NONE
(log 55, DESIGN CHOICE); the latest and last samples are 0 (log 16, DESIGN CHOICE); a reset with the instants
held in it and its start-up is one step (log 31, DESIGN CHOICE); the qualification of a crystal return runs on
as the crystalRun clause says (log 30, DEDUCED); the grid stands at the first instant after the reset (log 4,
DEDUCED); the watch peak of 0 has the sign above earth (log 34, DEDUCED). Of a write that this reset cut off the
record's state INVALID is stated, and nothing of its contents, which are a free value (log 13, DESIGN CHOICE).
(01_sampling_and_the_station_time_base.md, R7, R13, R18 and R19, R46, R89, R118, R119, R158,
09_event_journal_alarms_and_attention.md, R176, R177, R184 and R190, R203, R207,
03_setting_sets_and_the_feed_configuration_map.md, R49 and R67, 08_energy_metering_and_fault_records.md, R165,
R166 and R173) -/
def Obligations.ResetsLeaveTheirValues : Prop :=
  ∀ (x : ResetInputs) (s : State),
    (let atRest (cause : ResetCause) (t : State) : Prop :=
      t.pending = s.pending ∧ t.panel.cause = cause ∧ t.panel.unit = x.unit ∧
      t.front = FrontEnd.reset ∧ t.plant.items = PerItem.all Item.reset ∧
      t.plant.discs = Six.all Discriminator.reset ∧ t.plant.feeders = Six.all Sequencer.reset ∧
      t.plant.pendingOpen = [] ∧ t.plant.rail = RailMonitor.reset ∧ t.link = Link.reset x.rate ∧
      t.plant.tracker = { Tracker.reset with supplyLow := decide (0 < t.env.supplyLevel) } ∧
      t.plant.rect = Rectifier.reset (match t.store.stationFields with
        | some f => f.vref.toNat
        | none => 750) ∧
      t.time.elapsed = 0 ∧ t.time.tick = 0 ∧ (∀ k, t.store.feed.get k = .unknown) ∧
      (∀ k, t.store.binding.get k = t.store.resolved k) ∧ t.store.write = none ∧ t.store.scan = 0 ∧
      t.plant.unit.attention.restart = true ∧ t.plant.unit.mask = FlagSet.empty ∧
      t.plant.unit.latched.supplyLost = true ∧ t.plant.unit.pendingFlags = FlagSet.empty ∧
      t.plant.unit.holdoff = none ∧ t.plant.unit.notice = none ∧
      (∀ k, t.plant.records.rings.get k = List.replicate 32 ⟨0, 0, 0⟩) ∧ t.store.scanDue = 80 ∧
      (∀ n : SetId, t.store.inUse[n] =
        (FeederId.all.filter (fun k => decide ((t.store.binding.get k).set = some n))).length) ∧
      (let found := x.found.foldl Store.disturb s.store
      let state (words : List Word16) : RecordState :=
        if (words.map BitVec.toNat).sum % 65536 = 65535 then .valid else .invalid
      (∀ n : SetId,
        (let r := found.sets[n]
        ((∃ y, r.state = .programming y) → (t.store.sets[n]).state = .invalid) ∧
        (r.state = .empty → t.store.sets[n] = ⟨.empty, none⟩) ∧
        (∀ f, r.stored = some f → r.state = .valid ∨ r.state = .invalid →
          t.store.sets[n] = ⟨state f.toList, some f⟩))) ∧
      (let r := found.station
      ((∃ y, r.state = .programming y) → t.store.station.state = .invalid) ∧
      (r.state = .empty → t.store.station = ⟨.empty, none⟩) ∧
      (∀ f, r.stored = some f → r.state = .valid ∨ r.state = .invalid →
        t.store.station = ⟨state f.toList, some f⟩))) ∧
      (∀ k f, (t.store.map.get k).get f =
        match s.store.write with
        | some ⟨.mapEntry j g _, _⟩ => if j = k ∧ g = f then none else (s.store.map.get k).get f
        | _ => (s.store.map.get k).get f)
    let warm (cause : ResetCause) (t : State) : Prop :=
      (let now := TimeBase.advanceBy x.held s.time.begin
      atRest cause t ∧ t.time.clock = now.clock ∧ t.time.eighth = now.eighth ∧ t.time.unsync = s.time.unsync ∧
      t.time.source = s.time.source ∧
      t.time.crystalRun = (match s.time.source with
        | .crystal => 0
        | .fallback => min 800 (if x.crystal then s.time.crystalRun + x.held else min x.since x.held)) ∧
      t.energy = { s.energy with output := .idle } ∧
      (∀ n : SlotId, t.plant.records.slots[n] = match s.plant.records.slots[n] with
        | .free | .filling _ => .free
        | .complete r | .held r => .complete r) ∧
      t.plant.records.hold = none ∧
      t.plant.records.claims =
        s.plant.records.claims.filter (fun n => !(t.plant.records.slots[n]).isFree) ∧
      (let old := s.plant.unit.journal
      ∃ later : List Entry, later.length ≤ 128 ∧
        t.plant.unit.journal = (old ++ later).drop (old.length + later.length - 256) ∧
        later.head? = some
          ⟨s.plant.unit.nextIndex, t.time.stamp, .station, .startUp, [(cause.code : Int), (old.length : Int)]⟩ ∧
        ∀ k f value due, s.store.write = some ⟨.mapEntry k f value, due⟩ →
          ∃ y ∈ later, y.source = .store ∧ y.kind = .recordInvalid ∧
            y.details = [17, 1, (4 * (k.number - 1) + FeedState.code f : Nat)]))
    (∃ t, exec (.powerOnReset x) s = .next t ∧ atRest .powerOn t ∧ t.time.clock = 0 ∧ t.time.eighth = 0 ∧
      t.time.unsync = true ∧ t.energy = Energy.reset ∧ t.plant.records = RecordStore.reset ∧
      t.time.source = (if x.crystal then .crystal else .fallback) ∧
      (t.plant.unit.journal.head?.map Entry.index) = some 0) ∧
    (∃ t, exec (.pinReset x) s = .next t ∧ warm .resetPin t) ∧
    (s.link.restart = .replySent → ∃ t, exec (.restartReset x) s = .next t ∧ warm .restartRequest t))

/-- O60. State.reset meets every law that each step keeps, and it is what a power-on reset of a never-written store
leaves. (R13, R49, R64, R67, R69, R89, R92, R173, R177, R190, notes/assumptions/14.md) -/
def Obligations.LawsHoldAtReset : Prop :=
  State.reset.bindingLaw ∧ State.reset.attemptsLaw ∧ State.reset.itemLaw ∧ State.reset.feederLaw ∧
    State.reset.rectifierLaw ∧ State.reset.recordLaw ∧ State.reset.journalLaw ∧ State.reset.alarmLaw ∧
    State.reset.noticeLaw ∧ State.reset.linkLaw ∧ State.reset.energy.everyCounter (· ≤ 2 ^ 64 - 1) ∧
    exec (.powerOnReset ⟨0, 0, true, 0, 0, []⟩) State.reset = .next State.reset
end

