-- ==== Sys2Proof/Laws/State.lean ====
section
/-! SUPPORT. One small lemma per field and per update, so that no later proof unfolds a record update: containers, the
plant, the journal unit and the whole state. -/

namespace Sys2Proof

/-! ### Containers -/

@[simp] theorem Six.get_all {α : Type} (x : α) (k : FeederId) : (Six.all x).get k = x := by cases k <;> rfl

@[simp] theorem Six.get_set {α : Type} (v : Six α) (k j : FeederId) (x : α) :
    (v.set k x).get j = if j = k then x else v.get j := by cases k <;> cases j <;> rfl

@[simp] theorem Six.set_get {α : Type} (v : Six α) (k : FeederId) : v.set k (v.get k) = v := by cases k <;> rfl

@[simp] theorem Six.get_map {α β : Type} (f : α → β) (v : Six α) (k : FeederId) : (v.map f).get k = f (v.get k) := by
  cases k <;> rfl

@[simp] theorem Six.get_zip {α β γ : Type} (f : α → β → γ) (v : Six α) (w : Six β) (k : FeederId) :
    (Six.zip f v w).get k = f (v.get k) (w.get k) := by cases k <;> rfl

theorem Six.ext_get {α : Type} {v w : Six α} (h : ∀ k, v.get k = w.get k) : v = w := by
  have h1 := h .f1; have h2 := h .f2; have h3 := h .f3; have h4 := h .f4; have h5 := h .f5; have h6 := h .f6
  cases v; cases w; simp only [Six.get] at h1 h2 h3 h4 h5 h6; subst h1 h2 h3 h4 h5 h6; rfl

@[simp] theorem PerItem.get_all {α : Type} (x : α) (i : ItemId) : (PerItem.all x).get i = x := by
  cases i <;> first | rfl | exact Six.get_all x _

@[simp] theorem PerItem.get_map {α β : Type} (f : α → β) (v : PerItem α) (i : ItemId) :
    (v.map f).get i = f (v.get i) := by
  cases i <;> first | rfl | exact Six.get_map f _ _

@[simp] theorem PerItem.get_set {α : Type} (v : PerItem α) (i j : ItemId) (x : α) :
    (v.set i x).get j = if j = i then x else v.get j := by
  cases i <;> cases j <;> simp [PerItem.get, PerItem.set]

@[simp] theorem PerChannel.get_all {α : Type} (x : α) (c : Channel) : (PerChannel.all x).get c = x := by
  cases c <;> first | rfl | exact Six.get_all x _

@[simp] theorem PerChannel.get_map {α β : Type} (f : α → β) (v : PerChannel α) (c : Channel) :
    (v.map f).get c = f (v.get c) := by
  cases c <;> first | rfl | exact Six.get_map f _ _

@[simp] theorem PerChannel.get_zip {α β γ : Type} (f : α → β → γ) (v : PerChannel α) (w : PerChannel β)
    (c : Channel) : (PerChannel.zip f v w).get c = f (v.get c) (w.get c) := by
  cases c <;> first | rfl | exact Six.get_zip f _ _ _

@[simp] theorem Channel.get_everyChannel (c : Channel) : Channel.all.get c = c := by
  cases c with
  | feederCurrent k => cases k <;> rfl
  | lineVoltage k => cases k <;> rfl
  | _ => rfl

theorem FeederId.mem_everyFeeder (k : FeederId) : k ∈ FeederId.all := by cases k <;> decide

@[simp] theorem FeederId.ofNumber_number (k : FeederId) : FeederId.ofNumber k.number = some k := by cases k <;> rfl

namespace Machine

/-! ### The plant -/

@[simp] theorem Plant.setItem_tracker (p : Plant) (i : ItemId) (x : Item) : (p.setItem i x).tracker = p.tracker := rfl
@[simp] theorem Plant.setItem_discs (p : Plant) (i : ItemId) (x : Item) : (p.setItem i x).discs = p.discs := rfl
@[simp] theorem Plant.setItem_feeders (p : Plant) (i : ItemId) (x : Item) : (p.setItem i x).feeders = p.feeders := rfl
@[simp] theorem Plant.setItem_pendingOpen (p : Plant) (i : ItemId) (x : Item) : (p.setItem i x).pendingOpen = p.pendingOpen := rfl
@[simp] theorem Plant.setItem_rect (p : Plant) (i : ItemId) (x : Item) : (p.setItem i x).rect = p.rect := rfl
@[simp] theorem Plant.setItem_rail (p : Plant) (i : ItemId) (x : Item) : (p.setItem i x).rail = p.rail := rfl
@[simp] theorem Plant.setItem_records (p : Plant) (i : ItemId) (x : Item) : (p.setItem i x).records = p.records := rfl
@[simp] theorem Plant.setItem_unit (p : Plant) (i : ItemId) (x : Item) : (p.setItem i x).unit = p.unit := rfl
@[simp] theorem Plant.setDisc_tracker (p : Plant) (k : FeederId) (x : Discriminator) : (p.setDisc k x).tracker = p.tracker := rfl
@[simp] theorem Plant.setDisc_items (p : Plant) (k : FeederId) (x : Discriminator) : (p.setDisc k x).items = p.items := rfl
@[simp] theorem Plant.setDisc_feeders (p : Plant) (k : FeederId) (x : Discriminator) : (p.setDisc k x).feeders = p.feeders := rfl
@[simp] theorem Plant.setDisc_pendingOpen (p : Plant) (k : FeederId) (x : Discriminator) : (p.setDisc k x).pendingOpen = p.pendingOpen := rfl
@[simp] theorem Plant.setDisc_rect (p : Plant) (k : FeederId) (x : Discriminator) : (p.setDisc k x).rect = p.rect := rfl
@[simp] theorem Plant.setDisc_rail (p : Plant) (k : FeederId) (x : Discriminator) : (p.setDisc k x).rail = p.rail := rfl
@[simp] theorem Plant.setDisc_records (p : Plant) (k : FeederId) (x : Discriminator) : (p.setDisc k x).records = p.records := rfl
@[simp] theorem Plant.setDisc_unit (p : Plant) (k : FeederId) (x : Discriminator) : (p.setDisc k x).unit = p.unit := rfl
@[simp] theorem Plant.setFeeder_tracker (p : Plant) (k : FeederId) (x : Sequencer) : (p.setFeeder k x).tracker = p.tracker := rfl
@[simp] theorem Plant.setFeeder_items (p : Plant) (k : FeederId) (x : Sequencer) : (p.setFeeder k x).items = p.items := rfl
@[simp] theorem Plant.setFeeder_discs (p : Plant) (k : FeederId) (x : Sequencer) : (p.setFeeder k x).discs = p.discs := rfl
@[simp] theorem Plant.setFeeder_pendingOpen (p : Plant) (k : FeederId) (x : Sequencer) : (p.setFeeder k x).pendingOpen = p.pendingOpen := rfl
@[simp] theorem Plant.setFeeder_rect (p : Plant) (k : FeederId) (x : Sequencer) : (p.setFeeder k x).rect = p.rect := rfl
@[simp] theorem Plant.setFeeder_rail (p : Plant) (k : FeederId) (x : Sequencer) : (p.setFeeder k x).rail = p.rail := rfl
@[simp] theorem Plant.setFeeder_records (p : Plant) (k : FeederId) (x : Sequencer) : (p.setFeeder k x).records = p.records := rfl
@[simp] theorem Plant.setFeeder_unit (p : Plant) (k : FeederId) (x : Sequencer) : (p.setFeeder k x).unit = p.unit := rfl

@[simp] theorem Plant.item_setItem (p : Plant) (i j : ItemId) (x : Item) :
    (p.setItem i x).item j = if j = i then x else p.item j := PerItem.get_set _ _ _ _
@[simp] theorem Plant.disc_setDisc (p : Plant) (k j : FeederId) (x : Discriminator) :
    (p.setDisc k x).disc j = if j = k then x else p.disc j := Six.get_set _ _ _ _
@[simp] theorem Plant.feeder_setFeeder (p : Plant) (k j : FeederId) (x : Sequencer) :
    (p.setFeeder k x).feeder j = if j = k then x else p.feeder j := Six.get_set _ _ _ _
@[simp] theorem Plant.item_setDisc (p : Plant) (k : FeederId) (x : Discriminator) (i : ItemId) : (p.setDisc k x).item i = p.item i := rfl
@[simp] theorem Plant.item_setFeeder (p : Plant) (k : FeederId) (x : Sequencer) (i : ItemId) : (p.setFeeder k x).item i = p.item i := rfl
@[simp] theorem Plant.disc_setItem (p : Plant) (i : ItemId) (x : Item) (j : FeederId) : (p.setItem i x).disc j = p.disc j := rfl
@[simp] theorem Plant.disc_setFeeder (p : Plant) (k : FeederId) (x : Sequencer) (j : FeederId) : (p.setFeeder k x).disc j = p.disc j := rfl
@[simp] theorem Plant.feeder_setItem (p : Plant) (i : ItemId) (x : Item) (j : FeederId) : (p.setItem i x).feeder j = p.feeder j := rfl
@[simp] theorem Plant.feeder_setDisc (p : Plant) (k : FeederId) (x : Discriminator) (j : FeederId) : (p.setDisc k x).feeder j = p.feeder j := rfl

@[simp] theorem Plant.feeder_onFeeder (p : Plant) (k j : FeederId) (g : Sequencer → Sequencer) :
    (p.onFeeder k g).feeder j = if j = k then g (p.feeder k) else p.feeder j := Plant.feeder_setFeeder _ _ _ _
@[simp] theorem Plant.onFeeder_tracker (p : Plant) (k : FeederId) (g : Sequencer → Sequencer) : (p.onFeeder k g).tracker = p.tracker := rfl
@[simp] theorem Plant.onFeeder_items (p : Plant) (k : FeederId) (g : Sequencer → Sequencer) : (p.onFeeder k g).items = p.items := rfl
@[simp] theorem Plant.onFeeder_discs (p : Plant) (k : FeederId) (g : Sequencer → Sequencer) : (p.onFeeder k g).discs = p.discs := rfl
@[simp] theorem Plant.onFeeder_pendingOpen (p : Plant) (k : FeederId) (g : Sequencer → Sequencer) : (p.onFeeder k g).pendingOpen = p.pendingOpen := rfl
@[simp] theorem Plant.onFeeder_rect (p : Plant) (k : FeederId) (g : Sequencer → Sequencer) : (p.onFeeder k g).rect = p.rect := rfl
@[simp] theorem Plant.onFeeder_rail (p : Plant) (k : FeederId) (g : Sequencer → Sequencer) : (p.onFeeder k g).rail = p.rail := rfl
@[simp] theorem Plant.onFeeder_records (p : Plant) (k : FeederId) (g : Sequencer → Sequencer) : (p.onFeeder k g).records = p.records := rfl
@[simp] theorem Plant.onFeeder_unit (p : Plant) (k : FeederId) (g : Sequencer → Sequencer) : (p.onFeeder k g).unit = p.unit := rfl
@[simp] theorem Plant.item_onFeeder (p : Plant) (k : FeederId) (g : Sequencer → Sequencer) (i : ItemId) : (p.onFeeder k g).item i = p.item i := rfl
@[simp] theorem Plant.disc_onFeeder (p : Plant) (k : FeederId) (g : Sequencer → Sequencer) (j : FeederId) : (p.onFeeder k g).disc j = p.disc j := rfl
@[simp] theorem Plant.onRail_rail (p : Plant) (g : RailMonitor → RailMonitor) : (p.onRail g).rail = g p.rail := rfl
@[simp] theorem Plant.onRail_tracker (p : Plant) (g : RailMonitor → RailMonitor) : (p.onRail g).tracker = p.tracker := rfl
@[simp] theorem Plant.onRail_items (p : Plant) (g : RailMonitor → RailMonitor) : (p.onRail g).items = p.items := rfl
@[simp] theorem Plant.onRail_discs (p : Plant) (g : RailMonitor → RailMonitor) : (p.onRail g).discs = p.discs := rfl
@[simp] theorem Plant.onRail_feeders (p : Plant) (g : RailMonitor → RailMonitor) : (p.onRail g).feeders = p.feeders := rfl
@[simp] theorem Plant.onRail_pendingOpen (p : Plant) (g : RailMonitor → RailMonitor) : (p.onRail g).pendingOpen = p.pendingOpen := rfl
@[simp] theorem Plant.onRail_rect (p : Plant) (g : RailMonitor → RailMonitor) : (p.onRail g).rect = p.rect := rfl
@[simp] theorem Plant.onRail_records (p : Plant) (g : RailMonitor → RailMonitor) : (p.onRail g).records = p.records := rfl
@[simp] theorem Plant.onRail_unit (p : Plant) (g : RailMonitor → RailMonitor) : (p.onRail g).unit = p.unit := rfl
@[simp] theorem Plant.item_onRail (p : Plant) (g : RailMonitor → RailMonitor) (i : ItemId) : (p.onRail g).item i = p.item i := rfl
@[simp] theorem Plant.feeder_onRail (p : Plant) (g : RailMonitor → RailMonitor) (k : FeederId) : (p.onRail g).feeder k = p.feeder k := rfl
@[simp] theorem Plant.disc_onRail (p : Plant) (g : RailMonitor → RailMonitor) (k : FeederId) : (p.onRail g).disc k = p.disc k := rfl

/-! ### The rail monitor: what the runs of a millisecond event leave alone -/

@[simp] theorem RailMonitor.meanRuns_state (lv : RailLevels) (v i : Int) (o : Bool) (r : RailMonitor) :
    (r.meanRuns lv v i o).state = r.state := rfl
@[simp] theorem RailMonitor.meanRuns_rl2 (lv : RailLevels) (v i : Int) (o : Bool) (r : RailMonitor) :
    (r.meanRuns lv v i o).rl2 = r.rl2 := rfl
@[simp] theorem RailMonitor.meanRuns_rl3 (lv : RailLevels) (v i : Int) (o : Bool) (r : RailMonitor) :
    (r.meanRuns lv v i o).rl3 = r.rl3 := rfl
@[simp] theorem RailMonitor.meanRuns_watchPeak (lv : RailLevels) (v i : Int) (o : Bool) (r : RailMonitor) :
    (r.meanRuns lv v i o).watchPeak = r.watchPeak := rfl
@[simp] theorem RailMonitor.meanRuns_watchBelow (lv : RailLevels) (v i : Int) (o : Bool) (r : RailMonitor) :
    (r.meanRuns lv v i o).watchBelow = r.watchBelow := rfl
@[simp] theorem RailMonitor.meanRuns_closures (lv : RailLevels) (v i : Int) (o : Bool) (r : RailMonitor) :
    (r.meanRuns lv v i o).closures = r.closures := rfl
@[simp] theorem RailMonitor.meanRuns_holdTimer (lv : RailLevels) (v i : Int) (o : Bool) (r : RailMonitor) :
    (r.meanRuns lv v i o).holdTimer = r.holdTimer := rfl
@[simp] theorem RailMonitor.meanRuns_frameFault (lv : RailLevels) (v i : Int) (o : Bool) (r : RailMonitor) :
    (r.meanRuns lv v i o).frameFault = r.frameFault := rfl
@[simp] theorem RailMonitor.meanRuns_lastFault (lv : RailLevels) (v i : Int) (o : Bool) (r : RailMonitor) :
    (r.meanRuns lv v i o).lastFault = r.lastFault := rfl

/-! ### The link: what the start and the end of a transmission leave alone -/

@[simp] theorem Link.beginReply_slot (l : Link) (f : LinkFrame) : (l.beginReply f).slot = none := rfl
@[simp] theorem Link.beginReply_queue (l : Link) (f : LinkFrame) : (l.beginReply f).queue = l.queue := rfl
@[simp] theorem Link.beginReply_executing (l : Link) (f : LinkFrame) : (l.beginReply f).executing = l.executing := rfl
@[simp] theorem Link.beginReply_assembly (l : Link) (f : LinkFrame) : (l.beginReply f).assembly = l.assembly := rfl
@[simp] theorem Link.transmitEnd_slot (l : Link) : l.transmitEnd.slot = l.slot := rfl
@[simp] theorem Link.transmitEnd_queue (l : Link) : l.transmitEnd.queue = l.queue := rfl
@[simp] theorem Link.transmitEnd_executing (l : Link) : l.transmitEnd.executing = l.executing := rfl
@[simp] theorem Link.transmitEnd_transmitter (l : Link) : l.transmitEnd.transmitter = .idle := rfl

/-! ### The journal and alarm unit: what posting, raising and latching leave alone -/

@[simp] theorem Plant.post_tracker (e : Env) (p : Plant) (x : Source) (y : Kind) (z : List Int) : (p.post e x y z).tracker = p.tracker := rfl
@[simp] theorem Plant.post_items (e : Env) (p : Plant) (x : Source) (y : Kind) (z : List Int) : (p.post e x y z).items = p.items := rfl
@[simp] theorem Plant.post_discs (e : Env) (p : Plant) (x : Source) (y : Kind) (z : List Int) : (p.post e x y z).discs = p.discs := rfl
@[simp] theorem Plant.post_feeders (e : Env) (p : Plant) (x : Source) (y : Kind) (z : List Int) : (p.post e x y z).feeders = p.feeders := rfl
@[simp] theorem Plant.post_pendingOpen (e : Env) (p : Plant) (x : Source) (y : Kind) (z : List Int) : (p.post e x y z).pendingOpen = p.pendingOpen := rfl
@[simp] theorem Plant.post_rect (e : Env) (p : Plant) (x : Source) (y : Kind) (z : List Int) : (p.post e x y z).rect = p.rect := rfl
@[simp] theorem Plant.post_rail (e : Env) (p : Plant) (x : Source) (y : Kind) (z : List Int) : (p.post e x y z).rail = p.rail := rfl
@[simp] theorem Plant.post_records (e : Env) (p : Plant) (x : Source) (y : Kind) (z : List Int) : (p.post e x y z).records = p.records := rfl
@[simp] theorem Plant.item_post (e : Env) (p : Plant) (x : Source) (y : Kind) (z : List Int) (i : ItemId) : (p.post e x y z).item i = p.item i := rfl
@[simp] theorem Plant.disc_post (e : Env) (p : Plant) (x : Source) (y : Kind) (z : List Int) (k : FeederId) : (p.post e x y z).disc k = p.disc k := rfl
@[simp] theorem Plant.feeder_post (e : Env) (p : Plant) (x : Source) (y : Kind) (z : List Int) (k : FeederId) : (p.post e x y z).feeder k = p.feeder k := rfl
@[simp] theorem Plant.post_unit (e : Env) (p : Plant) (x : Source) (y : Kind) (z : List Int) : (p.post e x y z).unit = JournalUnit.post e x y z p.unit := rfl
@[simp] theorem Plant.raise_tracker (e : Env) (p : Plant) (x : AttentionFlag) : (p.raise e x).tracker = p.tracker := rfl
@[simp] theorem Plant.raise_items (e : Env) (p : Plant) (x : AttentionFlag) : (p.raise e x).items = p.items := rfl
@[simp] theorem Plant.raise_discs (e : Env) (p : Plant) (x : AttentionFlag) : (p.raise e x).discs = p.discs := rfl
@[simp] theorem Plant.raise_feeders (e : Env) (p : Plant) (x : AttentionFlag) : (p.raise e x).feeders = p.feeders := rfl
@[simp] theorem Plant.raise_pendingOpen (e : Env) (p : Plant) (x : AttentionFlag) : (p.raise e x).pendingOpen = p.pendingOpen := rfl
@[simp] theorem Plant.raise_rect (e : Env) (p : Plant) (x : AttentionFlag) : (p.raise e x).rect = p.rect := rfl
@[simp] theorem Plant.raise_rail (e : Env) (p : Plant) (x : AttentionFlag) : (p.raise e x).rail = p.rail := rfl
@[simp] theorem Plant.raise_records (e : Env) (p : Plant) (x : AttentionFlag) : (p.raise e x).records = p.records := rfl
@[simp] theorem Plant.item_raise (e : Env) (p : Plant) (x : AttentionFlag) (i : ItemId) : (p.raise e x).item i = p.item i := rfl
@[simp] theorem Plant.disc_raise (e : Env) (p : Plant) (x : AttentionFlag) (k : FeederId) : (p.raise e x).disc k = p.disc k := rfl
@[simp] theorem Plant.feeder_raise (e : Env) (p : Plant) (x : AttentionFlag) (k : FeederId) : (p.raise e x).feeder k = p.feeder k := rfl
@[simp] theorem Plant.raise_unit (e : Env) (p : Plant) (x : AttentionFlag) : (p.raise e x).unit = JournalUnit.raise e x p.unit := rfl
@[simp] theorem Plant.latch_tracker (e : Env) (p : Plant) (x : Alarm) : (p.latch e x).tracker = p.tracker := rfl
@[simp] theorem Plant.latch_items (e : Env) (p : Plant) (x : Alarm) : (p.latch e x).items = p.items := rfl
@[simp] theorem Plant.latch_discs (e : Env) (p : Plant) (x : Alarm) : (p.latch e x).discs = p.discs := rfl
@[simp] theorem Plant.latch_feeders (e : Env) (p : Plant) (x : Alarm) : (p.latch e x).feeders = p.feeders := rfl
@[simp] theorem Plant.latch_pendingOpen (e : Env) (p : Plant) (x : Alarm) : (p.latch e x).pendingOpen = p.pendingOpen := rfl
@[simp] theorem Plant.latch_rect (e : Env) (p : Plant) (x : Alarm) : (p.latch e x).rect = p.rect := rfl
@[simp] theorem Plant.latch_rail (e : Env) (p : Plant) (x : Alarm) : (p.latch e x).rail = p.rail := rfl
@[simp] theorem Plant.latch_records (e : Env) (p : Plant) (x : Alarm) : (p.latch e x).records = p.records := rfl
@[simp] theorem Plant.item_latch (e : Env) (p : Plant) (x : Alarm) (i : ItemId) : (p.latch e x).item i = p.item i := rfl
@[simp] theorem Plant.disc_latch (e : Env) (p : Plant) (x : Alarm) (k : FeederId) : (p.latch e x).disc k = p.disc k := rfl
@[simp] theorem Plant.feeder_latch (e : Env) (p : Plant) (x : Alarm) (k : FeederId) : (p.latch e x).feeder k = p.feeder k := rfl
@[simp] theorem Plant.latch_unit (e : Env) (p : Plant) (x : Alarm) : (p.latch e x).unit = JournalUnit.latch e x p.unit := rfl
@[simp] theorem Plant.latchIfNew_tracker (e : Env) (p : Plant) (x : Alarm) (b c : Bool) : (p.latchIfNew e x b c).tracker = p.tracker := rfl
@[simp] theorem Plant.latchIfNew_items (e : Env) (p : Plant) (x : Alarm) (b c : Bool) : (p.latchIfNew e x b c).items = p.items := rfl
@[simp] theorem Plant.latchIfNew_discs (e : Env) (p : Plant) (x : Alarm) (b c : Bool) : (p.latchIfNew e x b c).discs = p.discs := rfl
@[simp] theorem Plant.latchIfNew_feeders (e : Env) (p : Plant) (x : Alarm) (b c : Bool) : (p.latchIfNew e x b c).feeders = p.feeders := rfl
@[simp] theorem Plant.latchIfNew_pendingOpen (e : Env) (p : Plant) (x : Alarm) (b c : Bool) : (p.latchIfNew e x b c).pendingOpen = p.pendingOpen := rfl
@[simp] theorem Plant.latchIfNew_rect (e : Env) (p : Plant) (x : Alarm) (b c : Bool) : (p.latchIfNew e x b c).rect = p.rect := rfl
@[simp] theorem Plant.latchIfNew_rail (e : Env) (p : Plant) (x : Alarm) (b c : Bool) : (p.latchIfNew e x b c).rail = p.rail := rfl
@[simp] theorem Plant.latchIfNew_records (e : Env) (p : Plant) (x : Alarm) (b c : Bool) : (p.latchIfNew e x b c).records = p.records := rfl
@[simp] theorem Plant.item_latchIfNew (e : Env) (p : Plant) (x : Alarm) (b c : Bool) (i : ItemId) : (p.latchIfNew e x b c).item i = p.item i := rfl
@[simp] theorem Plant.disc_latchIfNew (e : Env) (p : Plant) (x : Alarm) (b c : Bool) (k : FeederId) : (p.latchIfNew e x b c).disc k = p.disc k := rfl
@[simp] theorem Plant.feeder_latchIfNew (e : Env) (p : Plant) (x : Alarm) (b c : Bool) (k : FeederId) : (p.latchIfNew e x b c).feeder k = p.feeder k := rfl
@[simp] theorem Plant.latchIfNew_unit (e : Env) (p : Plant) (x : Alarm) (b c : Bool) : (p.latchIfNew e x b c).unit = JournalUnit.latchIfNew e x b c p.unit := rfl

@[simp] theorem JournalUnit.tryNotice_journal (e : Env) (u : JournalUnit) : (u.tryNotice e).journal = u.journal := by
  unfold JournalUnit.tryNotice; split <;> rfl
@[simp] theorem JournalUnit.tryNotice_nextIndex (e : Env) (u : JournalUnit) : (u.tryNotice e).nextIndex = u.nextIndex := by
  unfold JournalUnit.tryNotice; split <;> rfl
@[simp] theorem JournalUnit.tryNotice_latched (e : Env) (u : JournalUnit) : (u.tryNotice e).latched = u.latched := by
  unfold JournalUnit.tryNotice; split <;> rfl
@[simp] theorem JournalUnit.tryNotice_contact (e : Env) (u : JournalUnit) : (u.tryNotice e).contact = u.contact := by
  unfold JournalUnit.tryNotice; split <;> rfl
@[simp] theorem JournalUnit.tryNotice_mask (e : Env) (u : JournalUnit) : (u.tryNotice e).mask = u.mask := by
  unfold JournalUnit.tryNotice; split <;> rfl
@[simp] theorem JournalUnit.tryNotice_attention (e : Env) (u : JournalUnit) : (u.tryNotice e).attention = u.attention := by
  unfold JournalUnit.tryNotice; split <;> rfl
@[simp] theorem JournalUnit.raise_journal (e : Env) (x : AttentionFlag) (u : JournalUnit) :
    (u.raise e x).journal = u.journal := by
  unfold JournalUnit.raise; split
  · rfl
  · dsimp only; split <;> simp
@[simp] theorem JournalUnit.raise_nextIndex (e : Env) (x : AttentionFlag) (u : JournalUnit) :
    (u.raise e x).nextIndex = u.nextIndex := by
  unfold JournalUnit.raise; split
  · rfl
  · dsimp only; split <;> simp
@[simp] theorem JournalUnit.raise_latched (e : Env) (x : AttentionFlag) (u : JournalUnit) :
    (u.raise e x).latched = u.latched := by
  unfold JournalUnit.raise; split
  · rfl
  · dsimp only; split <;> simp
@[simp] theorem JournalUnit.raise_contact (e : Env) (x : AttentionFlag) (u : JournalUnit) :
    (u.raise e x).contact = u.contact := by
  unfold JournalUnit.raise; split
  · rfl
  · dsimp only; split <;> simp
@[simp] theorem JournalUnit.raise_mask (e : Env) (x : AttentionFlag) (u : JournalUnit) :
    (u.raise e x).mask = u.mask := by
  unfold JournalUnit.raise; split
  · rfl
  · dsimp only; split <;> simp
@[simp] theorem JournalUnit.latch_journal (e : Env) (a : Alarm) (u : JournalUnit) :
    (u.latch e a).journal = u.journal := by
  unfold JournalUnit.latch; split <;> simp
@[simp] theorem JournalUnit.latch_nextIndex (e : Env) (a : Alarm) (u : JournalUnit) :
    (u.latch e a).nextIndex = u.nextIndex := by
  unfold JournalUnit.latch; split <;> simp
@[simp] theorem JournalUnit.latch_mask (e : Env) (a : Alarm) (u : JournalUnit) :
    (u.latch e a).mask = u.mask := by
  unfold JournalUnit.latch; split <;> simp

/-! ### The whole state -/

@[simp] theorem State.onPlant_pending (s : State) (g : Env → Plant → Plant) : (s.onPlant g).pending = s.pending := rfl
@[simp] theorem State.onPlant_panel (s : State) (g : Env → Plant → Plant) : (s.onPlant g).panel = s.panel := rfl
@[simp] theorem State.onPlant_time (s : State) (g : Env → Plant → Plant) : (s.onPlant g).time = s.time := rfl
@[simp] theorem State.onPlant_front (s : State) (g : Env → Plant → Plant) : (s.onPlant g).front = s.front := rfl
@[simp] theorem State.onPlant_store (s : State) (g : Env → Plant → Plant) : (s.onPlant g).store = s.store := rfl
@[simp] theorem State.onPlant_energy (s : State) (g : Env → Plant → Plant) : (s.onPlant g).energy = s.energy := rfl
@[simp] theorem State.onPlant_link (s : State) (g : Env → Plant → Plant) : (s.onPlant g).link = s.link := rfl
@[simp] theorem State.onPlant_plant (s : State) (g : Env → Plant → Plant) : (s.onPlant g).plant = g s.env s.plant := rfl
@[simp] theorem State.onPlant_env (s : State) (g : Env → Plant → Plant) : (s.onPlant g).env = s.env := rfl
@[simp] theorem State.reply_pending (s : State) (l : List Byte) : (s.reply l).pending = s.pending := rfl
@[simp] theorem State.reply_panel (s : State) (l : List Byte) : (s.reply l).panel = s.panel := rfl
@[simp] theorem State.reply_time (s : State) (l : List Byte) : (s.reply l).time = s.time := rfl
@[simp] theorem State.reply_front (s : State) (l : List Byte) : (s.reply l).front = s.front := rfl
@[simp] theorem State.reply_store (s : State) (l : List Byte) : (s.reply l).store = s.store := rfl
@[simp] theorem State.reply_energy (s : State) (l : List Byte) : (s.reply l).energy = s.energy := rfl
@[simp] theorem State.reply_plant (s : State) (l : List Byte) : (s.reply l).plant = s.plant := rfl
@[simp] theorem State.setPins_pending (x : Pins) (s : State) : (s.setPins x).pending = s.pending := rfl
@[simp] theorem State.setPins_time (x : Pins) (s : State) : (s.setPins x).time = s.time := rfl
@[simp] theorem State.setPins_front (x : Pins) (s : State) : (s.setPins x).front = s.front := rfl
@[simp] theorem State.setPins_store (x : Pins) (s : State) : (s.setPins x).store = s.store := rfl
@[simp] theorem State.setPins_energy (x : Pins) (s : State) : (s.setPins x).energy = s.energy := rfl
@[simp] theorem State.setPins_plant (x : Pins) (s : State) : (s.setPins x).plant = s.plant := rfl
@[simp] theorem State.setPins_link (x : Pins) (s : State) : (s.setPins x).link = s.link := rfl
@[simp] theorem State.setPins_pins (x : Pins) (s : State) : (s.setPins x).panel.pins = x := rfl
@[simp] theorem State.begin_setPins (x y : Pins) (a b : Byte) (s : State) : (s.setPins y).begin x a b = s.begin x a b := rfl
@[simp] theorem State.begin_pending (s : State) (x : Pins) (a b : Byte) : (s.begin x a b).pending = s.pending := rfl
@[simp] theorem State.begin_time (s : State) (x : Pins) (a b : Byte) : (s.begin x a b).time = s.time := rfl
@[simp] theorem State.begin_front (s : State) (x : Pins) (a b : Byte) : (s.begin x a b).front = s.front := rfl
@[simp] theorem State.begin_store (s : State) (x : Pins) (a b : Byte) : (s.begin x a b).store = s.store := rfl
@[simp] theorem State.begin_energy (s : State) (x : Pins) (a b : Byte) : (s.begin x a b).energy = s.energy := rfl
@[simp] theorem State.begin_plant (s : State) (x : Pins) (a b : Byte) : (s.begin x a b).plant = s.plant := rfl
@[simp] theorem State.env_time (s : State) : s.env.time = s.time := rfl
@[simp] theorem State.env_front (s : State) : s.env.front = s.front := rfl
@[simp] theorem State.env_store (s : State) : s.env.store = s.store := rfl

end Machine

end Sys2Proof
end

