-- ==== Sys2Proof/Laws/Kept.lean ====
section
/-! SUPPORT. What an event of the plant's blocks can do, said once: `Kept e P` says that a property P of the plant is
kept by each of the small changes that events are made of, and the lemmas below carry P through every operation of the
blocks. The property is indexed by a feeder whose membership in the open-pending set is not yet settled (R92 presents a
departure after the sequencer's own change of state), or by none. -/

namespace Sys2Proof.Machine

/-- A change of an item that keeps it lawful and makes no condition of its live. -/
def Item.Quiet (i : ItemId) (a b : Item) : Prop :=
  (a.lawful i → b.lawful i) ∧ (b.failLive = true → a.failLive = true) ∧
    (b.unsensedLive = true → a.unsensedLive = true)

/-- Feeder k may change its state freely: its membership is open, or it is not TRIPPING. -/
def Plant.Clear (x : Option FeederId) (k : FeederId) (p : Plant) : Prop :=
  x = some k ∨ (p.feeder k).state ≠ .tripping

/-- A change of a sequencer that keeps it lawful and within its attempts, and neither trips nor locks it out. -/
def Sequencer.Quiet (e : Env) (x : Option FeederId) (k : FeederId) (a b : Sequencer) : Prop :=
  (a.lawful → b.lawful) ∧ (x = some k ∨ (b.state = .tripping ↔ a.state = .tripping)) ∧
    (b.state = .lockedOut → a.state = .lockedOut) ∧
    (b.attempts ≤ a.attempts ∨ b.attempts ≤ (e.store.values k).attempts)

/-- R124, R135, R136, R140 of the rectifier alone, for a station record and an open-pending set. -/
def Rectifier.lawful (e : Env) (pending : List FeederId) (r : Rectifier) : Prop :=
  (r.state.running = true → e.store.stationFields.isSome) ∧
  (r.state.firing = true → (r.state = .retard ↔ pending ≠ [])) ∧
  (r.state.firing = false → r.schedule = none ∧ ∀ gate : GateId, r.bursts[gate] = none)

/-- The small changes that keep P. -/
structure Kept (e : Env) (P : Option FeederId → Plant → Prop) : Prop where
  weaken : ∀ {p} (k : FeederId), P none p → P (some k) p
  post : ∀ {x p} (s : Source) (k : Kind) (d : List Int), P x p → P x (p.post e s k d)
  raise : ∀ {x p} (f : AttentionFlag), P x p → P x (p.raise e f)
  latch : ∀ {x p} (a : Alarm), P x p → P x (p.latch e a)
  claim : ∀ {x p} (k : FeederId) (snap : Snapshot), P x p → P x (p.claimRecord k snap).1
  disc : ∀ {x p} (k : FeederId) (d : Discriminator), P x p → d.alarm = (p.disc k).alarm → P x (p.setDisc k d)
  heat : ∀ {x p} (k : FeederId) (d : Discriminator), P x p →
    P x ((p.setDisc k d).latchIfNew e (.thermalAlarm k) (p.disc k).alarm d.alarm)
  seq : ∀ {x p} (k : FeederId) (f : Sequencer), P x p → Sequencer.Quiet e x k (p.feeder k) f → P x (p.setFeeder k f)
  lock : ∀ {x p} (k : FeederId) (c : LockoutCause), P x p → p.Clear x k →
    P x ((p.onFeeder k (Sequencer.enterLockedOut c)).latchIfNew e (.lockedOut k) (p.feeder k).lockedOutLive true)
  join : ∀ {p} (k : FeederId) (reclose : Bool) (exit : Option ExitTarget), P none p →
    P none ((p.onFeeder k (Sequencer.enterTripping reclose exit)).joinPending e k)
  leave : ∀ {p} (k : FeederId), P (some k) p → (p.feeder k).state ≠ .tripping → P none (p.leavePending e k)
  item : ∀ {x p} (i : ItemId) (it : Item), P x p → Item.Quiet i (p.item i) it → P x (p.setItem i it)
  itemFails : ∀ {x p} (i : ItemId) (op : Operation), P x p →
    P x ((p.setItem i ((p.item i).failOperation op)).latchIfNew e (.itemFail i) (p.item i).failLive true)
  itemUnsensed : ∀ {x p} (i : ItemId) (it : Item), P x p → ((p.item i).lawful i → it.lawful i) →
    (it.failLive = true → (p.item i).failLive = true) → P x ((p.setItem i it).latch e (.unsensed i))
  rect : ∀ {x p} (r : Rectifier), P x p → (r.trippedLive = true → p.rect.trippedLive = true) →
    (p.rect.lawful e p.pendingOpen → r.lawful e p.pendingOpen) → P x { p with rect := r }
  rectTrips : ∀ {x p} (r : Rectifier), P x p → (p.rect.lawful e p.pendingOpen → r.lawful e p.pendingOpen) →
    P x (Plant.latch e .rectTripped { p with rect := r })
  rail : ∀ {x p} (r : RailMonitor), P x p → (r.frameFault = true → p.rail.frameFault = true) →
    (r.state = .permanent → p.rail.state = .permanent) → P x { p with rail := r }
  railPermanent : ∀ {x p} (r : RailMonitor), P x p → (r.frameFault = true → p.rail.frameFault = true) →
    P x (Plant.latchIfNew e .railPermanent p.rail.permanentLive true { p with rail := r })
  frameFault : ∀ {x p} (r : RailMonitor), P x p → (r.state = .permanent → p.rail.state = .permanent) →
    P x (Plant.latchIfNew e .frameFault p.rail.frameFault true { p with rail := r })
  tracker : ∀ {x p} (t : Tracker), P x p → P x (p.setTracker e t)
  trackerQuiet : ∀ {x p} (t : Tracker), P x p → (t.supplyLost = true → p.tracker.supplyLost = true) →
    P x { p with tracker := t }
  capture : ∀ {x p}, P x p →
    P x { p with records :=
      { p.records with
        slots := #v[(p.records.slots[0]).capture e, (p.records.slots[1]).capture e,
          (p.records.slots[2]).capture e, (p.records.slots[3]).capture e]
        rings := p.records.updateRings e } }

variable {e : Env} {P : Option FeederId → Plant → Prop} {x : Option FeederId} {p : Plant}

theorem Kept.latchIfNew (K : Kept e P) (a : Alarm) (b c : Bool) (h : P x p) : P x (p.latchIfNew e a b c) := by
  unfold Plant.latchIfNew JournalUnit.latchIfNew
  split
  · exact K.latch a h
  · exact h

theorem Kept.onFeeder (K : Kept e P) {k : FeederId} {g : Sequencer → Sequencer} (h : P x p)
    (q : Sequencer.Quiet e x k (p.feeder k) (g (p.feeder k))) : P x (p.onFeeder k g) := K.seq k _ h q

theorem Kept.onRail (K : Kept e P) {g : RailMonitor → RailMonitor} (h : P x p)
    (a : (g p.rail).frameFault = true → p.rail.frameFault = true)
    (b : (g p.rail).state = .permanent → p.rail.state = .permanent) : P x (p.onRail g) := K.rail _ h a b

/-! ### Switchgear -/

theorem Item.quiet_startOpening {i : ItemId} {c : List Commander} (it : Item)
    (h : ∀ y ∈ c, y.mayCommand .opening i = true) : Item.Quiet i it (it.startOpening e i c) := by
  refine ⟨fun _ => ?_, ?_, ?_⟩
  · refine ⟨by simp [Item.startOpening], by simp [Item.startOpening], ?_, ?_, by simp [Item.startOpening],
      by simp [Item.startOpening]⟩
    · rintro op y hop hy
      simp [Item.startOpening] at hop
      subst hop
      exact h y hy
    · cases hm : ItemId.maintained i <;> simp [Item.startOpening, hm]
  · simp [Item.failLive, Item.startOpening]
  · exact fun h => h

theorem Item.quiet_startClosing {i : ItemId} {c : Commander} (it : Item) (h : c.mayCommand .closing i = true) :
    Item.Quiet i it (it.startClosing e i [c]) := by
  refine ⟨fun _ => ?_, ?_, ?_⟩
  · refine ⟨by simp [Item.startClosing], by simp [Item.startClosing], ?_, by simp [Item.startClosing], ?_,
      by simp [Item.startClosing]⟩
    · rintro op y hop hy
      simp [Item.startClosing] at hop
      subst hop
      simp at hy
      exact hy ▸ h
    · cases hm : ItemId.maintained i <;> simp [Item.startClosing, hm]
  · simp [Item.failLive, Item.startClosing]
  · exact fun h => h

theorem Item.quiet_openCommand {i : ItemId} {c : Commander} (it : Item) (h : c.mayCommand .opening i = true) :
    Item.Quiet i it (it.openCommand e c i) := by
  unfold Item.openCommand
  split
  · rename_i op hs ho
    have hd : (op.join c).direction = op.direction := by unfold Operation.join; split <;> rfl
    refine ⟨fun l => ?_, by simp [Item.failLive], by simp [Item.unsensedLive]⟩
    obtain ⟨l1, l2, l3, l4, l5, l6⟩ := l
    have hdir : op.direction = .opening := by
      obtain ⟨op', h1, h2⟩ := l1.mp hs
      rw [ho] at h1; cases h1; exact h2
    refine ⟨by simp [hs, hd, hdir], by simp [hs, hd, hdir], ?_, l4, l5, l6⟩
    rintro op' y hop hy
    simp at hop
    subst hop
    rw [hd]
    unfold Operation.join at hy
    split at hy
    · exact l3 op y ho hy
    · simp at hy
      rcases hy with hy | hy
      · exact l3 op y ho hy
      · rw [hdir]; exact hy ▸ h
  · exact Item.quiet_startOpening it (by simpa using h)

theorem Kept.openCommand (K : Kept e P) (c : Commander) (i : ItemId) (h : P x p) : P x (p.openCommand e c i) := by
  unfold Plant.openCommand
  split
  · exact K.item i _ h (Item.quiet_openCommand _ ‹_›)
  · exact h

theorem Kept.closeCommand (K : Kept e P) (c : Commander) (i : ItemId) (h : P x p) :
    P x (p.closeCommand e c i).1 := by
  unfold Plant.closeCommand
  split
  · split
    · exact K.item i _ h (Item.quiet_startClosing _ ‹_›)
    · split <;> exact h
  · exact h

@[simp] theorem Plant.openCommand_feeders (c : Commander) (i : ItemId) : (p.openCommand e c i).feeders = p.feeders := by
  unfold Plant.openCommand; split <;> rfl
@[simp] theorem Plant.feeder_openCommand (c : Commander) (i : ItemId) (k : FeederId) :
    (p.openCommand e c i).feeder k = p.feeder k := by
  unfold Plant.openCommand; split <;> rfl
@[simp] theorem Plant.feeder_closeCommand (c : Commander) (i : ItemId) (k : FeederId) :
    (p.closeCommand e c i).1.feeder k = p.feeder k := by
  unfold Plant.closeCommand; split <;> [split; rfl] <;> [rfl; (split <;> rfl)]
@[simp] theorem Plant.openCommand_rect (c : Commander) (i : ItemId) : (p.openCommand e c i).rect = p.rect := by
  unfold Plant.openCommand; split <;> rfl
@[simp] theorem Plant.openCommand_rail (c : Commander) (i : ItemId) : (p.openCommand e c i).rail = p.rail := by
  unfold Plant.openCommand; split <;> rfl
@[simp] theorem Plant.openCommand_unit (c : Commander) (i : ItemId) : (p.openCommand e c i).unit = p.unit := by
  unfold Plant.openCommand; split <;> rfl
@[simp] theorem Plant.openCommand_pendingOpen (c : Commander) (i : ItemId) :
    (p.openCommand e c i).pendingOpen = p.pendingOpen := by
  unfold Plant.openCommand; split <;> rfl
@[simp] theorem Plant.closeCommand_rail (c : Commander) (i : ItemId) : (p.closeCommand e c i).1.rail = p.rail := by
  unfold Plant.closeCommand; split <;> [split; rfl] <;> [rfl; (split <;> rfl)]
@[simp] theorem Plant.closeCommand_rect (c : Commander) (i : ItemId) : (p.closeCommand e c i).1.rect = p.rect := by
  unfold Plant.closeCommand; split <;> [split; rfl] <;> [rfl; (split <;> rfl)]
@[simp] theorem Plant.closeCommand_pendingOpen (c : Commander) (i : ItemId) :
    (p.closeCommand e c i).1.pendingOpen = p.pendingOpen := by
  unfold Plant.closeCommand; split <;> [split; rfl] <;> [rfl; (split <;> rfl)]

/-! ### Rectifier -/

theorem Kept.openIncomer (K : Kept e P) (h : P x p) : P x (p.openIncomer e) := by
  unfold Plant.openIncomer
  split
  · exact h
  · exact K.openCommand _ _ h

theorem Rectifier.lawful_stopWith {pend : List FeederId} (r : Rectifier) (s : RectState) (c : StopCause)
    (hs : s = .stopped ∨ s = .tripped) : (r.stopWith s c).lawful e pend := by
  rcases hs with rfl | rfl <;>
  exact ⟨by simp [Rectifier.stopWith, RectState.running], by simp [Rectifier.stopWith, RectState.firing],
    by simp [Rectifier.stopWith, RectState.firing, Rectifier.cutBursts]⟩

theorem Kept.rectStop (K : Kept e P) (c : StopCause) (h : P x p) : P x (p.rectStop e c) := by
  unfold Plant.rectStop
  have h1 := K.post .rectifier .rectState [(p.rect.state.code : Int), RectState.stopped.code, c.code]
    (K.openIncomer (K.rect (p.rect.stopWith .stopped c) h id
      (fun _ => Rectifier.lawful_stopWith _ _ _ (.inl rfl))))
  dsimp only
  split
  · exact K.raise _ h1
  · exact h1

theorem Plant.openIncomer_latch (q : Plant) (a : Alarm) :
    (q.openIncomer e).latch e a = (q.latch e a).openIncomer e := by
  unfold Plant.openIncomer Plant.openCommand
  rw [Plant.item_latch]
  by_cases h : (q.item .acb).state = .opened
  · rw [if_pos h, if_pos h]
  · rw [if_neg h, if_neg h]
    split <;> rfl

theorem Kept.rectTrip (K : Kept e P) (c : StopCause) (v : Int) (h : P x p) : P x (p.rectTrip e c v) := by
  unfold Plant.rectTrip
  split
  · exact h
  · dsimp only
    refine K.raise _ (K.post _ _ _ ?_)
    rw [Plant.openIncomer_latch]
    refine K.openIncomer (K.rectTrips _ h (fun _ => ?_))
    exact Rectifier.lawful_stopWith p.rect .tripped c (.inr rfl)

theorem Kept.rectBlock (K : Kept e P) (c : BlockCause) (hf : p.rect.state.firing = true) (h : P x p) :
    P x (p.rectBlock e c) := by
  unfold Plant.rectBlock
  refine K.raise _ (K.post _ _ _ (K.rect _ h id (fun l => ?_)))
  refine ⟨fun _ => l.1 ?_, by simp [RectState.firing], by simp [Rectifier.cutBursts]⟩
  revert hf
  cases p.rect.state <;> simp [RectState.firing, RectState.running]

theorem Kept.rectCurrentSample (K : Kept e P) (h : P x p) : P x (p.rectCurrentSample e) := by
  unfold Plant.rectCurrentSample
  split
  · exact h
  · split
    · dsimp only
      split
      · have h1 := K.rect { p.rect with overcurrent := p.rect.overcurrent + 1 } h id id
        split
        · exact K.rectTrip _ _ h1
        · exact h1
      · exact K.rect { p.rect with overcurrent := 0 } h id id
    · exact h

theorem Kept.rectVoltageSample (K : Kept e P) (h : P x p) : P x (p.rectVoltageSample e) := by
  unfold Plant.rectVoltageSample
  split
  · exact h
  · split
    · dsimp only
      split
      · have h1 := K.rect { p.rect with overvoltage := p.rect.overvoltage + 1 } h id id
        split
        · exact K.rectBlock _ (by assumption) h1
        · exact h1
      · exact K.rect { p.rect with overvoltage := 0 } h id id
    · exact h

theorem Kept.rectMean (K : Kept e P) (h : P x p) : P x (p.rectMean e) := by
  unfold Plant.rectMean
  split
  · exact h
  · split
    · rename_i hc; exact K.rectBlock _ hc.1 h
    · exact h

theorem Kept.rectLockLost (K : Kept e P) (h : P x p) : P x (p.rectLockLost e) := by
  unfold Plant.rectLockLost
  split
  · exact K.rectBlock _ ‹_› h
  · exact h

/-- A firing rectifier stays lawful under changes that keep its state, or that leave SOFT_START, REGULATING and
CURRENT_LIMIT for one another. -/
theorem Rectifier.lawful_firing {pend : List FeederId} {a b : Rectifier} (ha : a.state.firing = true)
    (hb : b.state.firing = true) (hr : b.state = .retard ↔ a.state = .retard) (l : a.lawful e pend) :
    b.lawful e pend := by
  refine ⟨fun _ => l.1 ?_, fun _ => ?_, fun hn => ?_⟩
  · revert ha; cases a.state <;> simp [RectState.firing, RectState.running]
  · rw [hr]; exact l.2.1 ha
  · rw [hb] at hn; cases hn

theorem Rectifier.fireDue_state (now : Nat) (sch : Schedule) (r : Rectifier) : (r.fireDue now sch).state = r.state := by
  unfold Rectifier.fireDue
  dsimp only
  generalize sch.pulses = l
  induction l generalizing r with
  | nil => rfl
  | cons y l ih =>
    simp only [List.foldl_cons]
    rw [ih]
    split <;> rfl

theorem Rectifier.fireDue_trippedLive (now : Nat) (sch : Schedule) (r : Rectifier) :
    (r.fireDue now sch).trippedLive = r.trippedLive := by
  unfold Rectifier.fireDue
  dsimp only
  generalize sch.pulses = l
  induction l generalizing r with
  | nil => rfl
  | cons y l ih =>
    simp only [List.foldl_cons]
    rw [ih]
    split <;> rfl

@[simp] theorem Rectifier.buildSchedule_state (now c per : Nat) (f : StationFields) (r : Rectifier) :
    (r.buildSchedule now c per f).state = r.state := Rectifier.fireDue_state _ _ _

@[simp] theorem Rectifier.buildSchedule_trippedLive (now c per : Nat) (f : StationFields) (r : Rectifier) :
    (r.buildSchedule now c per f).trippedLive = r.trippedLive := Rectifier.fireDue_trippedLive _ _ _

@[simp] theorem Rectifier.regulate_trippedLive (f : StationFields) (a b : Int) (r : Rectifier) :
    (r.regulate f a b).trippedLive = r.trippedLive := by
  unfold Rectifier.regulate
  split <;> (try split) <;> simp [Rectifier.limitStep, Rectifier.voltageLoop]

theorem Rectifier.regulate_firing (f : StationFields) (a b : Int) (r : Rectifier) (h : r.state.firing = true) :
    (r.regulate f a b).state.firing = true ∧ ((r.regulate f a b).state = .retard ↔ r.state = .retard) := by
  have loop : ∀ q : Rectifier, q.state = .softStart ∨ q.state = .regulating →
      (q.voltageLoop f a b).state = .softStart ∨ (q.voltageLoop f a b).state = .regulating := by
    intro q hq
    unfold Rectifier.voltageLoop
    dsimp only
    split
    · exact .inr rfl
    · exact hq
  unfold Rectifier.regulate
  split
  · split
    · simp_all [Rectifier.limitStep, RectState.firing]
    · rcases loop r (.inl ‹_›) with h1 | h1 <;> simp_all [RectState.firing]
  · split
    · simp_all [Rectifier.limitStep, RectState.firing]
    · rcases loop r (.inr ‹_›) with h1 | h1 <;> simp_all [RectState.firing]
  · split
    · simp_all [Rectifier.limitStep, RectState.firing]
    · rcases loop { r with state := .regulating } (.inr rfl) with h1 | h1 <;> simp_all [RectState.firing]
  · simp_all [RectState.firing]
  all_goals simp_all [RectState.firing]

theorem Kept.rectEnterFiring (K : Kept e P) (f : StationFields) (c : Nat) (hf : e.store.stationFields.isSome)
    (h : P x p) : P x (p.rectEnterFiring e f c) := by
  unfold Plant.rectEnterFiring
  dsimp only
  have key : ∀ r : Rectifier, r.state = (if p.pendingOpen.isEmpty then .softStart else .retard) →
      r.lawful e p.pendingOpen := by
    intro r hr
    refine ⟨fun _ => hf, fun _ => ?_, ?_⟩
    · rw [hr]; cases p.pendingOpen <;> simp
    · rw [hr]; split <;> simp [RectState.firing]
  refine K.rect _ (K.post _ _ _ (K.rect _ h id (fun _ => key _ rfl))) ?_ (fun _ => key _ ?_)
  · simp
  · simp

theorem Kept.rectCrossing (K : Kept e P) (c : Nat) (h : P x p) : P x (p.rectCrossing e c) := by
  unfold Plant.rectCrossing
  split
  · exact h
  · rename_i f hf
    have hs : e.store.stationFields.isSome := by simp [hf]
    dsimp only
    split
    · split
      · exact K.rectEnterFiring f c hs h
      · exact h
    · split
      · exact K.rectEnterFiring f c hs h
      · exact h
    all_goals first
      | exact h
      | skip
    all_goals
      rename_i hst
      have hfir : p.rect.state.firing = true := by rw [hst]; rfl
      split
      · refine K.rect _ h (by simp) (fun l => ?_)
        have q := Rectifier.regulate_firing f (e.front.mean20 .idc) (e.front.mean20 .vbus)
          { p.rect with alpha := clampAngle f p.rect.alpha } hfir
        exact Rectifier.lawful_firing hfir (by simpa using q.1) (by simpa using q.2) l
      · exact K.rectBlock _ hfir h

theorem Kept.rectOutcome (K : Kept e P) (d : Direction) (o : CommandOutcome) (h : P x p) :
    P x (p.rectOutcome e d o) := by
  unfold Plant.rectOutcome
  split
  · split
    · exact K.rectStop _ h
    · exact h
  · split
    · exact K.rectStop _ h
    · exact h
  all_goals exact h

theorem Kept.rectReport (K : Kept e P) (n : ItemState) (r : ReportReason) (h : P x p) : P x (p.rectReport e n r) := by
  unfold Plant.rectReport
  split
  · exact K.rectTrip _ _ h
  · exact h

theorem Kept.rectSettingsLost (K : Kept e P) (h : P x p) : P x (p.rectSettingsLost e) := by
  unfold Plant.rectSettingsLost
  split
  · exact K.rectStop _ h
  · exact h

theorem Kept.rectNewSettings (K : Kept e P) (f : StationFields) (h : P x p) : P x (p.rectNewSettings f) :=
  K.rect _ h id id

/-! ### Phase tracker -/

theorem Kept.loseSync (K : Kept e P) (a b : Nat) (h : P x p) : P x (p.loseSync e a b) := by
  unfold Plant.loseSync
  dsimp only
  split
  · exact K.rectLockLost (K.post _ _ _ (K.tracker _ h))
  · exact K.tracker _ h

theorem Kept.takeCrossingPeriod (K : Kept e P) (c : Nat) (h : P x p) : P x (p.takeCrossingPeriod e c) := by
  unfold Plant.takeCrossingPeriod
  split
  · exact h
  · split
    · dsimp only
      split
      · exact K.post _ _ _ (K.tracker _ h)
      · exact K.tracker _ h
    · exact K.loseSync _ _ h

theorem Kept.crossing (K : Kept e P) (c : Nat) (v : Int) (h : P x p) : P x (p.crossing e c v) :=
  K.rectCrossing _ (K.tracker _ (K.takeCrossingPeriod _ h))

theorem Kept.trackVab (K : Kept e P) (h : P x p) : P x (p.trackVab e) := by
  unfold Plant.trackVab
  dsimp only
  split
  · split
    · exact K.crossing _ _ (K.trackerQuiet _ h (by simp [Tracker.supplyLost]))
    · exact K.trackerQuiet _ h (by simp [Tracker.supplyLost])
  · exact K.trackerQuiet _ h (by simp [Tracker.supplyLost])

theorem Kept.noCrossing (K : Kept e P) (h : P x p) : P x (p.noCrossing e) := K.tracker _ (K.loseSync _ _ h)

theorem Kept.supplySettings (K : Kept e P) (h : P x p) : P x (p.supplySettings e) := K.tracker _ h

end Sys2Proof.Machine
end

