-- ==== Sys2Proof/Laws/KeptFeeders.lean ====
section
/-! SUPPORT. `Kept` carried through the feeder sequencer and the discriminator's plant events. -/

namespace Sys2Proof.Machine

variable {e : Env} {P : Option FeederId → Plant → Prop} {x : Option FeederId} {p : Plant}

/-! ### Quiet changes of a sequencer -/

/-- A change of fields that no law reads. -/
theorem Sequencer.quiet_same {k : FeederId} {a b : Sequencer} (hs : b.state = a.state)
    (hd : b.deadTimer = a.deadTimer) (ht : b.settleTimer = a.settleTimer) (hv : b.serviceTimer = a.serviceTimer)
    (hl : b.lockout = a.lockout) (ha : b.attempts = a.attempts) : Sequencer.Quiet e x k a b := by
  refine ⟨fun l => ?_, .inr (by rw [hs]), fun h => by rwa [hs] at h, .inl (by rw [ha])⟩
  unfold Sequencer.lawful at *
  rwa [hs, hd, ht, hv, hl]

/-- An entry into a state other than TRIPPING and LOCKED_OUT. -/
theorem Sequencer.quiet_enter {k : FeederId} {a b : Sequencer} (hl : b.lawful) (ht : b.state ≠ .tripping)
    (ho : b.state ≠ .lockedOut) (hc : x = some k ∨ a.state ≠ .tripping)
    (ha : b.attempts ≤ a.attempts ∨ b.attempts ≤ (e.store.values k).attempts) : Sequencer.Quiet e x k a b :=
  ⟨fun _ => hl, hc.imp id (fun h => ⟨fun h1 => absurd h1 ht, fun h1 => absurd h1 h⟩), fun h => absurd h ho, ha⟩

theorem Sequencer.lawful_enterInService (f : Sequencer) : (f.enterInService e).lawful := by
  simp [Sequencer.lawful, Sequencer.enterInService, Sequencer.stopTimers]

theorem Sequencer.lawful_enterOut (f : Sequencer) : f.enterOut.lawful := by
  simp [Sequencer.lawful, Sequencer.enterOut, Sequencer.stopTimers]

theorem Sequencer.lawful_enterWaiting (n : Nat) (f : Sequencer) : (f.enterWaiting e n).lawful := by
  simp [Sequencer.lawful, Sequencer.enterWaiting, Sequencer.stopTimers]

theorem Sequencer.lawful_enterDeferred (m : Millis) (f : Sequencer) : (f.enterDeferred e m).lawful := by
  simp [Sequencer.lawful, Sequencer.enterDeferred, Sequencer.stopTimers]

theorem Kept.enterInService (K : Kept e P) {k : FeederId} (h : P x p) (c : p.Clear x k) :
    P x (p.onFeeder k (Sequencer.enterInService e)) :=
  K.onFeeder h (Sequencer.quiet_enter (Sequencer.lawful_enterInService _) nofun nofun c (.inl (Nat.le_refl _)))

theorem Kept.enterOut (K : Kept e P) {k : FeederId} (h : P x p) (c : p.Clear x k) :
    P x (p.onFeeder k Sequencer.enterOut) :=
  K.onFeeder h (Sequencer.quiet_enter (Sequencer.lawful_enterOut _) nofun nofun c (.inl (Nat.le_refl _)))

theorem Kept.enterDeadTime (K : Kept e P) {k : FeederId} (h : P x p) (c : p.Clear x k) :
    P x (p.enterDeadTime e k) :=
  K.onFeeder h (Sequencer.quiet_enter (Sequencer.lawful_enterWaiting _ _) nofun nofun c (.inl (Nat.le_refl _)))

/-! ### Lockout, dead time, trips -/

theorem Kept.lockOut (K : Kept e P) {k : FeederId} (cause : LockoutCause) (h : P x p) (c : p.Clear x k) :
    P x (p.lockOut e k cause) := K.raise _ (K.post _ _ _ (K.lock k cause h c))

theorem Kept.reactReclosable (K : Kept e P) {k : FeederId} (h : P x p) (c : p.Clear x k) :
    P x (p.reactReclosable e k) := by
  unfold Plant.reactReclosable
  split
  · exact K.enterDeadTime h c
  · exact K.lockOut _ h c

theorem Kept.defer (K : Kept e P) {k : FeederId} (h : P x p) (c : p.Clear x k) : P x (p.defer e k) := by
  unfold Plant.defer
  dsimp only
  split
  · exact K.lockOut _ h c
  · exact K.onFeeder h
      (Sequencer.quiet_enter (Sequencer.lawful_enterDeferred _ _) nofun nofun c (.inl (Nat.le_refl _)))

theorem Kept.recordTrip (K : Kept e P) (k : FeederId) (snap : Snapshot) (h : P x p) : P x (p.recordTrip e k snap) :=
  K.raise _ (K.post _ _ _ (K.claim _ _ (K.onFeeder h (Sequencer.quiet_same rfl rfl rfl rfl rfl rfl))))

theorem Kept.beginTrip (K : Kept e P) (k : FeederId) (snap : Snapshot) (r : Bool) (t : Option ExitTarget)
    (h : P none p) : P none (p.beginTrip e k snap r t) :=
  K.join _ _ _ (K.recordTrip _ _ (K.openCommand _ _ h))

theorem Kept.tripInService (K : Kept e P) (k : FeederId) (snap : Snapshot) (h : P none p) :
    P none (p.tripInService e k snap) := K.beginTrip _ _ _ _ h

theorem Kept.openTcUnlessOpen (K : Kept e P) (k : FeederId) (h : P x p) : P x (p.openTcUnlessOpen e k) := by
  unfold Plant.openTcUnlessOpen
  split
  · exact h
  · exact K.openCommand _ _ h

@[simp] theorem Plant.feeder_openTcUnlessOpen (k j : FeederId) : (p.openTcUnlessOpen e k).feeder j = p.feeder j := by
  unfold Plant.openTcUnlessOpen
  split
  · rfl
  · exact Plant.feeder_openCommand _ _ _

theorem Kept.tripOutOfService (K : Kept e P) (k : FeederId) (snap : Snapshot) (h : P none p) :
    P none (p.tripOutOfService e k snap) := by
  unfold Plant.tripOutOfService
  dsimp only
  split
  · exact K.beginTrip _ _ _ _ (K.openTcUnlessOpen _ h)
  · exact K.beginTrip _ _ _ _ h

theorem Kept.discTrip (K : Kept e P) (k : FeederId) (snap : Snapshot) (h : P none p) :
    P none (p.discTrip e k snap) := by
  unfold Plant.discTrip
  split
  · exact K.tripInService _ _ h
  · exact h
  all_goals exact K.tripOutOfService _ _ h

theorem Kept.requestSnapshot (K : Kept e P) (k : FeederId) (c : TripCause) (h : P x p) :
    P x (p.requestSnapshot e k c).1 := by
  refine K.disc _ _ h ?_
  unfold Discriminator.onRequest
  split <;> rfl

theorem Kept.ownTrip (K : Kept e P) (k : FeederId) (c : TripCause) (h : P none p) : P none (p.ownTrip e k c) := by
  unfold Plant.ownTrip
  split
  · exact K.tripInService _ _ (K.requestSnapshot _ _ h)
  all_goals exact h

@[simp] theorem Plant.feeder_recordTrip_state (k j : FeederId) (snap : Snapshot) :
    ((p.recordTrip e k snap).feeder j).state = (p.feeder j).state := by
  unfold Plant.recordTrip
  dsimp only
  simp only [Plant.feeder_raise, Plant.feeder_post]
  show ((p.onFeeder k (fun f => { f with lastCause := some snap.cause, snapshot := some snap })).feeder j).state = _
  rw [Plant.feeder_onFeeder]
  split
  · rename_i hj; rw [hj]
  · rfl

theorem Kept.directRelease (K : Kept e P) {k : FeederId} (h : P x p) (c : p.Clear x k) :
    P x (p.directRelease e k) := by
  refine K.reactReclosable (K.recordTrip _ _ (K.requestSnapshot _ _ h)) ?_
  rcases c with c | c
  · exact .inl c
  · refine .inr ?_
    rw [Plant.feeder_recordTrip_state]
    exact c

/-! ### The outcome of a trip's opening -/

theorem Plant.feeder_lockOut (k j : FeederId) (c : LockoutCause) :
    (p.lockOut e k c).feeder j = if j = k then (p.feeder k).enterLockedOut c else p.feeder j := by
  unfold Plant.lockOut
  simp

theorem Plant.lockOut_state (k : FeederId) (c : LockoutCause) :
    ((p.lockOut e k c).feeder k).state = .lockedOut := by
  rw [Plant.feeder_lockOut, if_pos rfl]; rfl

theorem Plant.reactReclosable_state (k : FeederId) : ((p.reactReclosable e k).feeder k).state ≠ .tripping := by
  unfold Plant.reactReclosable
  split
  · unfold Plant.enterDeadTime
    rw [Plant.feeder_onFeeder, if_pos rfl]
    nofun
  · rw [Plant.lockOut_state]; nofun

theorem Kept.trippingCompleted (K : Kept e P) (k : FeederId) (h : P none p) : P none (p.trippingCompleted e k) := by
  have h' := K.weaken k h
  unfold Plant.trippingCompleted
  dsimp only
  split
  · exact K.leave _ (K.lockOut _ h' (.inl rfl)) (by rw [Plant.lockOut_state]; nofun)
  · refine K.leave _ (K.post _ _ _ (K.enterOut h' (.inl rfl))) ?_
    rw [Plant.feeder_post, Plant.feeder_onFeeder, if_pos rfl]; nofun
  all_goals exact K.leave _ (K.reactReclosable h' (.inl rfl)) (Plant.reactReclosable_state _)

theorem Kept.foldOwnTrip (K : Kept e P) (c : TripCause) (l : List FeederId) (h : P none p) :
    P none (l.foldl (fun p j => p.ownTrip e j c) p) := by
  induction l generalizing p with
  | nil => exact h
  | cons j l ih => exact ih (K.ownTrip _ _ h)

theorem Kept.breakerFailure (K : Kept e P) (k : FeederId) (h : P none p) : P none (p.breakerFailure e k) := by
  unfold Plant.breakerFailure
  refine K.foldOwnTrip _ _ (K.leave _ ?_ (by rw [Plant.lockOut_state]; nofun))
  exact K.lockOut _ (K.rectTrip _ _ (K.openCommand _ _ (K.post _ _ _ (K.weaken k h)))) (.inl rfl)

/-! ### Closing and the line test -/

theorem Kept.fbCloseOutcome (K : Kept e P) (k : FeederId) (o : CommandOutcome) (h : P x p) :
    P x (p.fbCloseOutcome e k o) := by
  unfold Plant.fbCloseOutcome
  split
  · exact K.post _ _ _ (K.enterInService h (.inr (by simp [*])))
  · exact K.lockOut _ h (.inr (by simp [*]))
  · exact K.lockOut _ h (.inr (by simp [*]))
  · exact h

theorem Kept.enterClosing (K : Kept e P) {k : FeederId} (h : P x p) (c : p.Clear x k) : P x (p.enterClosing e k) := by
  have h1 : P x (p.onFeeder k (fun f => { f.stopTimers with state := .closing, exit := none, deferral := none })) :=
    K.onFeeder h (Sequencer.quiet_enter (by simp [Sequencer.lawful, Sequencer.stopTimers]) nofun nofun c
      (.inl (Nat.le_refl _)))
  unfold Plant.enterClosing
  dsimp only
  split
  · split
    · exact K.closeCommand _ _ h1
    · exact K.fbCloseOutcome _ _ (K.closeCommand _ _ h1)
  · refine K.lockOut _ h1 (.inr ?_)
    rw [Plant.feeder_onFeeder, if_pos rfl]; nofun

theorem Kept.abandonClosing (K : Kept e P) (k : FeederId) (t : ExitTarget) (h : P x p) :
    P x (p.abandonClosing e k t) := by
  unfold Plant.abandonClosing
  exact K.onFeeder (K.openCommand _ _ h) (Sequencer.quiet_same rfl rfl rfl rfl rfl rfl)

theorem Kept.takeTarget (K : Kept e P) {k : FeederId} (t : ExitTarget) (h : P x p) (c : p.Clear x k) :
    P x (p.takeTarget e k t) := by
  unfold Plant.takeTarget
  split
  · exact K.enterClosing h c
  · exact K.enterDeadTime h c
  · exact K.defer h c
  · exact K.enterOut h c
  · exact K.lockOut _ h c
  · exact h

theorem Kept.beginTcOpening (K : Kept e P) {k : FeederId} (t : ExitTarget) (h : P x p) (c : p.Clear x k) :
    P x (p.beginTcOpening e k t) := by
  refine K.onFeeder (K.openCommand _ _ h)
    (Sequencer.quiet_enter (by simp [Sequencer.lawful, Sequencer.stopTimers]) nofun nofun ?_ (.inl (Nat.le_refl _)))
  rcases c with c | c
  · exact .inl c
  · exact .inr (by unfold Plant.openTc; rw [Plant.feeder_openCommand]; exact c)

theorem testTarget_attempts (m : Bool) (r : TestResult) (used allowed : Nat) :
    (testTarget m r used allowed).2 ≤ used ∨ (testTarget m r used allowed).2 ≤ allowed := by
  unfold testTarget
  dsimp only
  split
  · exact .inl (Nat.le_refl _)
  · split
    · exact .inl (Nat.le_refl _)
    · split
      · exact .inr (by dsimp only; omega)
      · split <;> exact .inr (by dsimp only; omega)

theorem Kept.lineTestResult (K : Kept e P) {k : FeederId} (r : TestResult) (n : Nat) (vl vb : Int) (h : P x p)
    (c : p.Clear x k) : P x (p.lineTestResult e k r n vl vb) := by
  unfold Plant.lineTestResult
  dsimp only
  have h1 := K.post (.feeder k) .lineTestResult [(n : Int), vl, vb]
    (K.onFeeder (k := k) h (g := fun f =>
      { f with lastTest := ⟨r, some n, some vl, some vb, some e.time.stamp, f.manual⟩ })
      (Sequencer.quiet_same rfl rfl rfl rfl rfl rfl))
  have h2 : P x (Plant.onFeeder k (fun f => { f with attempts := (testTarget (p.feeder k).manual r
      (p.feeder k).attempts (e.store.values k).attempts).2 }) _) := K.onFeeder (k := k) h1 (by
    refine ⟨fun l => l, .inr Iff.rfl, id, ?_⟩
    rw [Plant.feeder_post, Plant.feeder_onFeeder, if_pos rfl]
    exact testTarget_attempts _ _ _ _)
  have c2 : Plant.Clear x k (Plant.onFeeder k (fun f => { f with attempts := (testTarget (p.feeder k).manual r
      (p.feeder k).attempts (e.store.values k).attempts).2 })
      ((p.onFeeder k (fun f => { f with lastTest := ⟨r, some n, some vl, some vb, some e.time.stamp, f.manual⟩ })).post
        e (.feeder k) .lineTestResult [(n : Int), vl, vb])) := by
    rcases c with c | c
    · exact .inl c
    · refine .inr ?_
      rw [Plant.feeder_onFeeder, if_pos rfl, Plant.feeder_post, Plant.feeder_onFeeder, if_pos rfl]
      exact c
  split
  · exact K.takeTarget _ h2 c2
  · exact K.beginTcOpening _ h2 c2

theorem Kept.recordNoBusbar (K : Kept e P) (k : FeederId) (h : P x p) : P x (p.recordNoBusbar e k) :=
  K.onFeeder h (Sequencer.quiet_same rfl rfl rfl rfl rfl rfl)

theorem Plant.recordNoBusbar_state (k : FeederId) :
    ((p.recordNoBusbar e k).feeder k).state = (p.feeder k).state := by
  unfold Plant.recordNoBusbar
  rw [Plant.feeder_onFeeder, if_pos rfl]

theorem Kept.tcCloseOutcome (K : Kept e P) (k : FeederId) (o : CommandOutcome) (h : P x p) :
    P x (p.tcCloseOutcome e k o) := by
  unfold Plant.tcCloseOutcome
  split
  · rename_i hs
    refine K.onFeeder h ⟨fun l => ?_, .inr (by simp [hs]), by simp, .inl (Nat.le_refl _)⟩
    obtain ⟨l1, l2, l3, l4⟩ := l
    rw [hs] at l1 l3
    refine ⟨?_, by simp, ?_, by simp⟩
    · simpa using l1
    · simpa using l3
  · exact K.lockOut _ h (.inr (by simp [*]))
  · exact K.lockOut _ h (.inr (by simp [*]))
  · exact h

theorem Kept.enterLineTest (K : Kept e P) {k : FeederId} (h : P x p) (c : p.Clear x k) : P x (p.enterLineTest e k) := by
  have h1 : P x (p.onFeeder k (fun f => { f.stopTimers with state := .lineTest .tcClosing, exit := none })) :=
    K.onFeeder h (Sequencer.quiet_enter (by simp [Sequencer.lawful, Sequencer.stopTimers]) nofun nofun c
      (.inl (Nat.le_refl _)))
  have c1 : Plant.Clear x k (p.onFeeder k (fun f =>
      { f.stopTimers with state := .lineTest .tcClosing, exit := none })) := by
    refine .inr ?_
    rw [Plant.feeder_onFeeder, if_pos rfl]; nofun
  have c2 : Plant.Clear x k ((p.onFeeder k (fun f =>
      { f.stopTimers with state := .lineTest .tcClosing, exit := none })).recordNoBusbar e k) := by
    refine .inr ?_
    rw [Plant.recordNoBusbar_state, Plant.feeder_onFeeder, if_pos rfl]; nofun
  unfold Plant.enterLineTest
  dsimp only
  split
  · exact K.lineTestResult _ _ _ _ h1 c1
  · split
    · split
      · exact K.enterOut (K.recordNoBusbar _ h1) c2
      · exact K.defer (K.recordNoBusbar _ h1) c2
    · split
      · exact K.closeCommand _ _ h1
      · exact K.tcCloseOutcome _ _ (K.closeCommand _ _ h1)

theorem Kept.settleWatch (K : Kept e P) (k : FeederId) (h : P x p) : P x (p.settleWatch e k) := by
  unfold Plant.settleWatch
  split
  · split
    · exact K.beginTcOpening _ (K.recordNoBusbar _ h) (.inr (by simp [Plant.recordNoBusbar_state, *]))
    · exact h
  · exact h

theorem Kept.settleExpires (K : Kept e P) (k : FeederId) (h : P x p) : P x (p.settleExpires e k) := by
  unfold Plant.settleExpires
  split
  · exact K.lineTestResult _ _ _ _ h (.inr (by simp [*]))
  · exact h

theorem Kept.tcOpenOutcome (K : Kept e P) (k : FeederId) (o : CommandOutcome) (h : P x p) :
    P x (p.tcOpenOutcome e k o) := by
  unfold Plant.tcOpenOutcome
  split
  · exact K.takeTarget _ h (.inr (by simp [*]))
  · exact K.lockOut _ h (.inr (by simp [*]))
  · exact K.lockOut _ h (.inr (by simp [*]))
  · exact h

theorem Kept.recloseCheck (K : Kept e P) {k : FeederId} (h : P x p) (c : p.Clear x k) : P x (p.recloseCheck e k) := by
  unfold Plant.recloseCheck
  dsimp only
  split
  · exact K.lockOut _ h c
  · split
    · exact K.defer h c
    · split
      · exact K.defer h c
      · exact K.enterLineTest h c

/-! ### Outcomes, reports and orders -/

theorem Kept.fbOpenOutcome (K : Kept e P) (k : FeederId) (o : CommandOutcome) (h : P none p) :
    P none (p.fbOpenOutcome e k o) := by
  unfold Plant.fbOpenOutcome
  dsimp only
  split
  · exact K.trippingCompleted _ h
  · exact K.breakerFailure _ h
  · exact K.post _ _ _ (K.enterOut h (.inr (by simp [*])))
  · exact K.onFeeder h (Sequencer.quiet_same rfl rfl rfl rfl rfl rfl)
  · exact K.post _ _ _ (K.enterOut h (.inr (by simp [*])))
  · exact K.lockOut _ h (.inr (by simp [*]))
  · exact K.lockOut _ h (.inr (by simp [*]))
  · refine K.onFeeder h ⟨fun l => ⟨l.1, l.2.1, l.2.2.1, by simp⟩, .inr Iff.rfl, id, .inl (Nat.le_refl _)⟩
  · exact h

theorem Kept.seqOutcome (K : Kept e P) (k : FeederId) (i : ItemId) (d : Direction) (o : CommandOutcome)
    (h : P none p) : P none (p.seqOutcome e k i d o) := by
  unfold Plant.seqOutcome
  split
  · exact K.fbOpenOutcome _ _ h
  · exact K.fbCloseOutcome _ _ h
  · exact K.tcOpenOutcome _ _ h
  · exact K.tcCloseOutcome _ _ h
  all_goals exact h

theorem Kept.closedLocally (K : Kept e P) {k : FeederId} (h : P x p) (c : p.Clear x k) :
    P x (p.closedLocally e k) := by
  unfold Plant.closedLocally
  dsimp only
  split
  · refine K.post _ _ _ (K.enterInService (K.openTcUnlessOpen _ h) (c.imp id fun c => ?_))
    rw [Plant.feeder_openTcUnlessOpen]; exact c
  · exact K.post _ _ _ (K.enterInService h c)

theorem Kept.fbReport (K : Kept e P) (k : FeederId) (n : ItemState) (r : ReportReason) (h : P x p) :
    P x (p.fbReport e k n r) := by
  unfold Plant.fbReport
  split
  case h_12 => exact h
  case h_11 => exact K.openCommand _ _ h
  all_goals
    have c : p.Clear x k := .inr (by simp [*])
    first
      | exact K.enterInService h c
      | exact K.enterOut h c
      | exact K.directRelease h c
      | exact K.closedLocally h c

theorem Kept.tcReport (K : Kept e P) (k : FeederId) (o n : ItemState) (r : ReportReason) (h : P x p) :
    P x (p.tcReport e k o n r) := by
  unfold Plant.tcReport
  split
  · split
    · exact K.beginTcOpening _ h (.inr (by simp [*]))
    · exact h
  · split
    · exact K.beginTcOpening _ h (.inr (by simp [*]))
    · exact h
  · split
    · exact K.abandonClosing _ _ h
    · exact h
  · exact h

theorem Kept.frameFaultAt (K : Kept e P) (k : FeederId) (h : P none p) : P none (p.frameFaultAt e k) := by
  unfold Plant.frameFaultAt
  dsimp only
  split
  case h_4 => exact K.ownTrip _ _ h
  case h_5 => exact K.onFeeder h (Sequencer.quiet_same rfl rfl rfl rfl rfl rfl)
  case h_6 => exact K.lockOut _ h (.inr (by simp [*]))
  case h_7 => exact K.beginTcOpening _ h (.inr (by simp [*]))
  case h_8 => exact K.beginTcOpening _ h (.inr (by simp [*]))
  case h_9 => exact K.onFeeder h (Sequencer.quiet_same rfl rfl rfl rfl rfl rfl)
  case h_10 => exact K.abandonClosing _ _ h
  all_goals exact h

theorem Kept.frameFaultOrder (K : Kept e P) (h : P none p) : P none (p.frameFaultOrder e) := by
  unfold Plant.frameFaultOrder
  generalize FeederId.all = l
  induction l generalizing p with
  | nil => exact h
  | cons j l ih => exact ih (K.frameFaultAt _ h)

theorem Kept.substituteOrder (K : Kept e P) (h : P none p) : P none (p.substituteOrder e) :=
  K.foldOwnTrip _ _ h

theorem Kept.cutAttempts (K : Kept e P) (k : FeederId) (h : P x p) : P x (p.cutAttempts e k) :=
  K.onFeeder h ⟨fun l => l, .inr Iff.rfl, id, .inl (Nat.min_le_left _ _)⟩

/-! ### Discriminator -/

theorem Kept.presentBreaker (K : Kept e P) (k : FeederId) (b n : Position) (h : P x p) :
    P x (p.presentBreaker e k b n) := by
  unfold Plant.presentBreaker
  split
  · refine K.disc _ _ h ?_
    unfold Discriminator.arm
    split <;> rfl
  · split
    · refine K.disc _ _ h ?_
      unfold Discriminator.disarm
      split <;> rfl
    · exact h

theorem Discriminator.riseStep_alarm (v : BoundValues) (d : Discriminator) : (d.riseStep v).1.alarm = d.alarm := by
  have step : ∀ (ev : RiseEvent) (d : Discriminator), (d.eventStep ev).1.alarm = d.alarm := by
    intro ev d
    unfold Discriminator.eventStep Discriminator.endEvent
    dsimp only
    split
    · rfl
    · split
      · rfl
      · split <;> rfl
  have start : (d.startStep v).alarm = d.alarm := by
    unfold Discriminator.startStep
    split
    · rfl
    · split
      · rfl
      · split <;> rfl
  unfold Discriminator.riseStep
  split
  · exact step _ _
  · dsimp only
    split
    · split
      · rw [step]; exact start
      · exact start
    · exact start

theorem Discriminator.sample_alarm (k : FeederId) (d : Discriminator) : (d.sample e k).1.alarm = d.alarm := by
  have ev : ∀ (v : BoundValues) (d : Discriminator), (d.evaluate v).1.alarm = d.alarm := by
    intro v d
    unfold Discriminator.evaluate
    split
    · rfl
    · have h1 := Discriminator.riseStep_alarm v { d with instant := instantCount v d.last.i d.instant }
      dsimp only
      split <;> (rename_i hr; rw [hr] at h1; exact h1)
  unfold Discriminator.sample
  dsimp only
  split
  · rfl
  · rfl
  · have h1 := ev (e.store.values k) { d with last := lastSampleOf e k }
    split <;> (rename_i hr; rw [hr] at h1; exact h1)

theorem Kept.takeTrip (K : Kept e P) (k : FeederId) (r : Plant × Option Snapshot) (h : P none r.1) :
    P none (Plant.takeTrip e k r) := by
  unfold Plant.takeTrip
  split
  · exact h
  · exact K.discTrip _ _ h

theorem Kept.feederSample (K : Kept e P) (k : FeederId) (h : P none p) : P none (p.feederSample e k) :=
  K.takeTrip _ _ (K.disc _ _ h (Discriminator.sample_alarm _ _))

theorem Kept.thermalEvent (K : Kept e P) (k : FeederId) (h : P x p) : P x (p.thermalEvent e k).1 := by
  unfold Plant.thermalEvent
  dsimp only
  have h1 : P x (if (p.disc k).alarm = ((p.disc k).heat (e.store.values k)
      (e.front.mean1 (.feederCurrent k))).alarm then
        p.setDisc k ((p.disc k).heat (e.store.values k) (e.front.mean1 (.feederCurrent k)))
      else ((p.setDisc k ((p.disc k).heat (e.store.values k) (e.front.mean1 (.feederCurrent k)))).latchIfNew e
        (.thermalAlarm k) (p.disc k).alarm ((p.disc k).heat (e.store.values k)
          (e.front.mean1 (.feederCurrent k))).alarm).post e (.feeder k) .thermalAlarm
        [if ((p.disc k).heat (e.store.values k) (e.front.mean1 (.feederCurrent k))).alarm then 1 else 0]) := by
    split
    · rename_i ha; exact K.disc _ _ h ha.symm
    · exact K.post _ _ _ (K.heat _ _ h)
  split
  · refine K.disc _ _ h1 ?_
    split <;> simp [Discriminator.trip, Discriminator.clearRun]
  · exact h1

end Sys2Proof.Machine
end

