-- ==== Sys2Proof/Laws/KeptEvents.lean ====
section
/-! SUPPORT. `Kept` carried through the rail monitor, the supervisor, the records and the events of a sample instant. -/

namespace Sys2Proof.Machine

variable {e : Env} {P : Option FeederId → Plant → Prop} {x : Option FeederId} {p : Plant}

/-! ### Rail potential monitor -/

theorem Kept.countedClosure (K : Kept e P) (h : P x p) : P x (p.countedClosure e) := by
  have h1 := K.rail { p.rail with closures := closuresAfter e p.rail.closures } h id id
  unfold Plant.countedClosure
  dsimp only
  split
  · exact K.raise _ (K.post _ _ _ (K.railPermanent _ h1 id))
  · exact K.rail _ h1 id (by simp [RailMonitor.enterHolding])

theorem Kept.enterWatching (K : Kept e P) (h : P x p) : P x (p.onRail RailMonitor.enterWatching) :=
  K.onRail h id (by simp [RailMonitor.enterWatching])

theorem Kept.enterHolding (K : Kept e P) (h : P x p) : P x (p.onRail (RailMonitor.enterHolding e)) :=
  K.onRail h id (by simp [RailMonitor.enterHolding])

theorem Kept.railCloseFailed (K : Kept e P) (h : P none p) : P none (p.railCloseFailed e) := by
  unfold Plant.railCloseFailed
  refine K.raise _ (K.onRail ?_ id (by simp))
  split
  · exact K.substituteOrder h
  · exact h

theorem Kept.railOutcome (K : Kept e P) (d : Direction) (o : CommandOutcome) (h : P none p) :
    P none (p.railOutcome e d o) := by
  unfold Plant.railOutcome
  split
  · exact K.countedClosure h
  · exact K.railCloseFailed h
  · exact K.railCloseFailed h
  · exact K.post _ _ _ (K.enterWatching h)
  · exact K.raise _ (K.onRail h id (by simp))
  · exact h

theorem Kept.commandRailClose (K : Kept e P) (n : Nat) (h : P none p) : P none (p.commandRailClose e n) := by
  unfold Plant.commandRailClose
  have h1 : P none _ := K.raise .rail (K.post .rail .railClose
    [(n : Int), if p.rail.watchBelow then 1 else 0, p.rail.watchPeak]
    (K.onRail (g := fun r => { r with state := .closing }) (K.closeCommand .railMonitor .re h) id (by simp)))
  dsimp only
  split
  · simpa [Plant.postRailClose, Plant.onRail] using h1
  · exact K.railOutcome _ _ (by simpa [Plant.postRailClose, Plant.onRail] using h1)

theorem Kept.commandRailOpen (K : Kept e P) (b : Bool) (h : P x p) : P x (p.commandRailOpen e b) :=
  K.rail _ (K.openCommand _ _ h) id (by simp)

theorem Kept.railLevelTest (K : Kept e P) (h : P none p) : P none (p.railLevelTest e) := by
  unfold Plant.railLevelTest
  split
  · split
    · exact K.commandRailClose _ h
    · split
      · exact K.commandRailClose _ h
      · exact h
  all_goals exact h

theorem Kept.closeForFrameFault (K : Kept e P) (h : P none p) : P none (p.closeForFrameFault e) := by
  unfold Plant.closeForFrameFault
  split
  · exact K.commandRailClose _ h
  · split
    · exact K.commandRailClose _ h
    · exact h
  all_goals exact h

theorem Kept.declareFrameFault (K : Kept e P) (c : FrameCause) (v : Nat) (h : P none p) :
    P none (p.declareFrameFault e c v) := by
  unfold Plant.declareFrameFault
  have h1 := K.frameFault { p.rail with frameFault := true } h id
  have h2 := K.raise .rail (K.post .rail .frameFault [(c.code : Int), (v : Int)] (K.onRail
    (g := fun r => { r with lastFault := some ⟨c, v, e.time.stamp⟩ }) h1 id id))
  refine K.frameFaultOrder ?_
  split
  · exact K.closeForFrameFault h2
  · exact h2

theorem Kept.railSample (K : Kept e P) (h : P none p) : P none (p.railSample e) := by
  unfold Plant.railSample
  refine K.railLevelTest ?_
  have h1 : P none (p.onRail (RailMonitor.sampleRuns e.railLevels e.front.latest.vre)) := K.onRail h id id
  split
  · exact K.declareFrameFault _ _ h1
  · exact h1

theorem Kept.railMean (K : Kept e P) (h : P none p) : P none (p.railMean e) := by
  unfold Plant.railMean
  refine K.railLevelTest ?_
  split
  · exact K.declareFrameFault _ _ (K.onRail h id id)
  · exact K.onRail h id id

theorem Kept.railReport (K : Kept e P) (n : ItemState) (r : ReportReason) (h : P x p) :
    P x (p.railReport e n r) := by
  unfold Plant.railReport
  split
  · exact K.enterHolding (K.post _ _ _ h)
  · exact K.enterHolding h
  · exact K.enterHolding h
  · exact K.post _ _ _ (K.enterWatching h)
  · exact K.post _ _ _ (K.enterWatching h)
  · exact K.countedClosure h
  · exact K.countedClosure h
  · exact K.countedClosure h
  · exact K.countedClosure h
  · exact K.post _ _ _ (K.enterWatching h)
  · exact K.post _ _ _ (K.enterWatching h)
  · exact K.enterWatching h
  · exact K.enterWatching h
  · exact h

theorem Kept.holdExpires (K : Kept e P) (h : P x p) : P x (p.holdExpires e) := by
  unfold Plant.holdExpires
  split
  · split
    · exact K.commandRailOpen _ h
    · exact K.enterHolding h
  · exact h

/-! ### Supervisor -/

theorem Kept.deliver (K : Kept e P) (i : ItemId) (d : Direction) (o : CommandOutcome) (c : Commander) (h : P none p) :
    P none (p.deliver e i d o c) := by
  unfold Plant.deliver
  split
  · exact K.seqOutcome _ _ _ _ h
  · exact K.rectOutcome _ _ h
  · exact K.railOutcome _ _ h
  · exact h

theorem Kept.deliverAll (K : Kept e P) (i : ItemId) (op : Operation) (o : CommandOutcome) (h : P none p) :
    P none (p.deliverAll e i op o) := by
  unfold Plant.deliverAll
  generalize op.waiting = l
  induction l generalizing p with
  | nil => exact h
  | cons c l ih => exact ih (K.deliver _ _ _ _ h)

theorem Kept.report (K : Kept e P) (i : ItemId) (o n : ItemState) (r : ReportReason) (h : P x p) :
    P x (p.report e i o n r) := by
  unfold Plant.report
  split
  · exact K.fbReport _ _ _ h
  · exact K.tcReport _ _ _ _ h
  · exact K.railReport _ _ h
  · exact K.rectReport _ _ h

/-- An acceptance names a firm position or UNSENSED, keeps the item lawful and makes no failure live. -/
theorem Item.lawful_accept {i : ItemId} (it : Item) (r : Position) (l : it.lawful i) :
    (it.accept (acceptanceOf it.state it.firm r) r).lawful i := by
  obtain ⟨l1, l2, l3, l4, l5, l6⟩ := l
  obtain ⟨st, sensed, firm, levels, result, run, op, oc, cc, held⟩ := it
  cases r <;> cases st <;>
    simp_all [Item.accept, acceptanceOf, Item.lawful, stateOfPosition]
  all_goals (repeat' split) <;> simp_all

theorem Item.accept_failLive (it : Item) (r : Position)
    (h : (it.accept (acceptanceOf it.state it.firm r) r).failLive = true) : it.failLive = true := by
  obtain ⟨st, sensed, firm, levels, result, run, op, oc, cc, held⟩ := it
  cases r <;> cases st <;> simp_all [Item.accept, acceptanceOf, Item.failLive, stateOfPosition]
  all_goals (repeat' split at h) <;> simp_all

theorem Item.accept_sensed (it : Item) (a : Acceptance) (r : Position) : (it.accept a r).sensed = r := by
  cases a <;> rfl

/-- The entry of an acceptance follows the change of the item, whose UNSENSED alarm latches with it. -/
theorem Kept.acceptItem (K : Kept e P) (i : ItemId) (r : Position) (h : P x p) :
    P x (Plant.postAcceptance e i (acceptanceOf (p.item i).state (p.item i).firm r) (p.item i).sensed
      (p.item i).firm r (p.setItem i ((p.item i).accept (acceptanceOf (p.item i).state (p.item i).firm r) r))) := by
  unfold Plant.postAcceptance
  split
  · exact K.raise _ (K.post _ _ _ (K.itemUnsensed i _ h (Item.lawful_accept _ _) (Item.accept_failLive _ _)))
  · rename_i hr
    have h1 := K.item i ((p.item i).accept (acceptanceOf (p.item i).state (p.item i).firm r) r) h
      ⟨Item.lawful_accept _ _, Item.accept_failLive _ _, fun hu => by
        simp [Item.unsensedLive, Item.accept_sensed] at hu; exact absurd hu hr⟩
    split
    · exact K.post _ _ _ h1
    · exact K.post _ _ _ h1
    · exact K.post _ _ _ h1
    · exact K.raise _ (K.post _ _ _ (K.latch _ h1))
    · exact K.raise _ (K.post _ _ _ (K.latch _ h1))
    all_goals exact h1

theorem Kept.superviseTc (K : Kept e P) (i : ItemId) (h : P x p) : P x (p.superviseTc e i) := by
  unfold Plant.superviseTc
  dsimp only
  split
  · exact K.report _ _ _ _ (K.item _ _ h (Item.quiet_startOpening _ nofun))
  · exact h

theorem Kept.presentPosition (K : Kept e P) (i : ItemId) (b n : Position) (h : P x p) :
    P x (p.presentPosition e i b n) := by
  unfold Plant.presentPosition
  split
  · exact K.presentBreaker _ _ _ h
  all_goals exact h

theorem Kept.accept (K : Kept e P) (i : ItemId) (r : Position) (h : P none p) : P none (p.accept e i r) := by
  unfold Plant.accept
  have h1 := K.presentPosition i (p.item i).sensed r (K.acceptItem i r h)
  have h2 : ∀ a : Acceptance, P none (match a.reason with
      | some reason => Plant.report e i (p.item i).state (stateOfPosition r) reason
          (Plant.presentPosition e i (p.item i).sensed r
            (Plant.postAcceptance e i (acceptanceOf (p.item i).state (p.item i).firm r) (p.item i).sensed
              (p.item i).firm r (p.setItem i ((p.item i).accept (acceptanceOf (p.item i).state (p.item i).firm r) r))))
      | none => Plant.presentPosition e i (p.item i).sensed r
            (Plant.postAcceptance e i (acceptanceOf (p.item i).state (p.item i).firm r) (p.item i).sensed
              (p.item i).firm r
              (p.setItem i ((p.item i).accept (acceptanceOf (p.item i).state (p.item i).firm r) r)))) := by
    intro a
    split
    · exact K.report _ _ _ _ h1
    · exact h1
  dsimp only
  split
  · exact K.deliverAll _ _ _ (h2 _)
  case h_7 => exact h2 _
  all_goals exact K.superviseTc _ (h2 _)

theorem Kept.completeOperation (K : Kept e P) (i : ItemId) (op : Operation) (h : P none p) :
    P none (p.completeOperation e i op) := by
  unfold Plant.completeOperation
  refine K.deliverAll _ _ _ (K.report _ _ _ _ (K.item i _ h ?_))
  obtain ⟨dir, a, b, c, d⟩ := op
  refine ⟨fun l => ?_, ?_, id⟩
  · cases dir <;> simp_all [Item.lawful, stateOfPosition, Direction.target]
  · cases dir <;> simp [Item.failLive, stateOfPosition, Direction.target]

theorem Kept.completeIfAtTarget (K : Kept e P) (i : ItemId) (h : P none p) : P none (p.completeIfAtTarget e i) := by
  unfold Plant.completeIfAtTarget
  split
  · split
    · exact K.completeOperation _ _ h
    · exact h
  · exact h

theorem Kept.failOperation (K : Kept e P) (i : ItemId) (op : Operation) (h : P none p) :
    P none (p.failOperation e i op) := by
  unfold Plant.failOperation
  exact K.deliverAll _ _ _ (K.report _ _ _ _ (K.raise _ (K.post _ _ _ (K.itemFails i op h))))

theorem Item.quiet_probeStep {i : ItemId} (it : Item) (l : LineLevels) : Item.Quiet i it (it.probeStep l) := by
  refine ⟨fun w => ?_, id, id⟩
  obtain ⟨st, sensed, firm, levels, result, run, op, oc, cc, held⟩ := it
  cases op with
  | none => simp_all [Item.lawful, Item.probeStep]
  | some o =>
    obtain ⟨w1, w2, w3, w4, w5, w6⟩ := w
    refine ⟨by simpa [Item.probeStep] using w1, by simpa [Item.probeStep] using w2, ?_, w4, w5, w6⟩
    rintro o' c ho hc
    simp [Item.probeStep] at ho
    subst ho
    exact w3 o c rfl hc

theorem Kept.probeEnds (K : Kept e P) (i : ItemId) (l : LineLevels) (h : P none p) : P none (p.probeEnds e i l) := by
  unfold Plant.probeEnds
  have h1 := K.item i _ h (Item.quiet_probeStep _ l)
  dsimp only
  split
  · exact K.accept _ _ h1
  · split
    · split
      · exact K.completeIfAtTarget _ h1
      · exact h1
    · split
      · exact K.completeIfAtTarget _ h1
      · exact h1

theorem Kept.pulseEnds (K : Kept e P) (i : ItemId) (h : P none p) : P none (p.pulseEnds e i) := by
  refine K.completeIfAtTarget _ (K.item i _ h ⟨fun l => ?_, id, id⟩)
  exact ⟨l.1, l.2.1, l.2.2.1, by simp, by simp, l.2.2.2.2.2⟩

theorem Kept.limitEnds (K : Kept e P) (i : ItemId) (h : P none p) : P none (p.limitEnds e i) := by
  unfold Plant.limitEnds
  split
  · split
    · exact K.completeOperation _ _ h
    · exact K.failOperation _ _ h
  · exact h

/-! ### Records and sample instants -/

theorem Kept.recordMean (K : Kept e P) (h : P x p) : P x (p.recordMean e) := by
  unfold Plant.recordMean
  dsimp only
  split
  · exact K.raise _ (K.capture h)
  · exact K.capture h

theorem Kept.runTask (K : Kept e P) (l : PerItem LineLevels) (t : InstantTask) (h : P none p) :
    P none (p.runTask e l t) := by
  unfold Plant.runTask
  split
  · exact K.trackVab h
  · exact K.feederSample _ h
  · exact K.rectCurrentSample h
  · exact K.rectVoltageSample h
  · exact K.railSample h
  · exact K.probeEnds _ _ h
  · exact K.takeTrip _ _ (K.thermalEvent _ h)
  · exact K.settleWatch _ h
  · exact K.rectMean h
  · exact K.railMean h
  · exact K.recordMean h

theorem Kept.runTasks (K : Kept e P) (l : PerItem LineLevels) (ts : List InstantTask) (h : P none p) :
    P none (ts.foldl (Plant.runTask e l) p) := by
  induction ts generalizing p with
  | nil => exact h
  | cons t ts ih => exact ih (K.runTask _ _ h)

theorem Kept.sampleEvents (K : Kept e P) (y : SampleInputs) (h : P none p) : P none (p.sampleEvents y e) :=
  K.runTasks _ _ h

theorem Kept.millisecondEvents (K : Kept e P) (y : SampleInputs) (h : P none p) :
    P none (p.millisecondEvents y e) := K.runTasks _ _ h

end Sys2Proof.Machine
end

