-- ==== Sys2Proof/Laws/KeptRequests.lean ====
section
/-! SUPPORT. `Kept` carried through the timers of the plant and the requests that act on it. -/

namespace Sys2Proof.Machine

variable {e : Env} {P : Option FeederId → Plant → Prop} {x : Option FeederId} {p : Plant}

theorem Plant.onFeeder_onFeeder (k : FeederId) (f g : Sequencer → Sequencer) :
    (p.onFeeder k f).onFeeder k g = p.onFeeder k (g ∘ f) := by
  unfold Plant.onFeeder Plant.setFeeder Plant.feeder
  cases k <;> rfl

theorem Plant.setFeeder_post (k : FeederId) (f : Sequencer) (s : Source) (kd : Kind) (d : List Int) :
    (p.post e s kd d).setFeeder k f = (p.setFeeder k f).post e s kd d := rfl

/-- A property of the journal and alarm unit alone that its three operations keep is kept by every event. -/
theorem Kept.ofUnit (Q : JournalUnit → Prop) (hp : ∀ u s k d, Q u → Q (JournalUnit.post e s k d u))
    (hr : ∀ u f, Q u → Q (JournalUnit.raise e f u)) (hl : ∀ u a, Q u → Q (JournalUnit.latch e a u)) :
    Kept e (fun _ p => Q p.unit) := by
  have hn : ∀ u a b c, Q u → Q (JournalUnit.latchIfNew e a b c u) := by
    intro u a b c h
    unfold JournalUnit.latchIfNew
    split
    · exact hl _ _ h
    · exact h
  exact {
    weaken := fun _ h => h
    post := fun _ _ _ h => hp _ _ _ _ h
    raise := fun _ h => hr _ _ h
    latch := fun _ h => hl _ _ h
    claim := fun _ _ h => h
    disc := fun _ _ h _ => h
    heat := fun _ _ h => hn _ _ _ _ h
    seq := fun _ _ h _ => h
    lock := fun _ _ h _ => hn _ _ _ _ h
    join := by
      intro p k r t h
      unfold Plant.joinPending Plant.retardEntry
      dsimp only
      (repeat' split) <;> first | exact hp _ _ _ _ h | exact h
    leave := by
      intro p k h _
      unfold Plant.leavePending Plant.retardExit
      dsimp only
      (repeat' split) <;> first | exact hp _ _ _ _ h | exact h
    item := fun _ _ h _ => h
    itemFails := fun _ _ h => hn _ _ _ _ h
    itemUnsensed := fun _ _ h _ _ => hl _ _ h
    rect := fun _ h _ _ => h
    rectTrips := fun _ h _ => hl _ _ h
    rail := fun _ h _ _ => h
    railPermanent := fun _ h _ => hn _ _ _ _ h
    frameFault := fun _ h _ => hn _ _ _ _ h
    tracker := fun _ h => hn _ _ _ _ h
    trackerQuiet := fun _ h _ => h
    capture := fun h => h }

/-! ### Timers of the sequencer -/

/-- The dead-time timer stands at none while the reclose check is made; every branch of the check stops it anyway. -/
theorem Plant.recloseCheck_stopped (k : FeederId) (q : Plant)
    (hq : q = p.onFeeder k (fun f => { f with deadTimer := none })) : q.recloseCheck e k = p.recloseCheck e k := by
  have hf : q.feeder k = { p.feeder k with deadTimer := none } := by rw [hq, Plant.feeder_onFeeder, if_pos rfl]
  have lk : ∀ c, q.lockOut e k c = p.lockOut e k c := by
    intro c
    unfold Plant.lockOut
    dsimp only
    rw [hf, hq, Plant.onFeeder_onFeeder]
    rfl
  have df : q.defer e k = p.defer e k := by
    unfold Plant.defer
    dsimp only
    rw [hf, lk, hq, Plant.onFeeder_onFeeder]
    rfl
  have lt : q.enterLineTest e k = p.enterLineTest e k := by
    unfold Plant.enterLineTest
    dsimp only
    rw [hq, Plant.onFeeder_onFeeder]
    rfl
  have hd : q.disc k = p.disc k := by rw [hq]; rfl
  have hi : ∀ i, q.item i = p.item i := by intro i; rw [hq]; rfl
  unfold Plant.recloseCheck
  dsimp only
  rw [lk, df, lt, hd, hi, hi, hf]

theorem Kept.deadTimeExpires (K : Kept e P) (k : FeederId) (h : P x p) :
    P x ((p.onFeeder k (fun f => { f with deadTimer := none })).deadTimeExpires e k) := by
  have hs : ((p.onFeeder k (fun f => { f with deadTimer := none })).feeder k).state = (p.feeder k).state := by
    rw [Plant.feeder_onFeeder, if_pos rfl]
  unfold Plant.deadTimeExpires
  rw [hs]
  split
  · rw [Plant.recloseCheck_stopped k _ rfl]
    exact K.recloseCheck h (.inr (by simp [*]))
  · rename_i hn
    refine K.onFeeder h ⟨fun l => ⟨?_, l.2.1, l.2.2.1, l.2.2.2⟩, .inr Iff.rfl, id, .inl (Nat.le_refl _)⟩
    simpa using hn

/-- The settle timer stands at none while the result is formed; the opening of the contactor stops it anyway. -/
theorem Plant.lineTestResult_stopped (k : FeederId) (r : TestResult) (n : Nat) (vl vb : Int) (hr : r ≠ .passLive) :
    (p.onFeeder k (fun f => { f with settleTimer := none })).lineTestResult e k r n vl vb =
      p.lineTestResult e k r n vl vb := by
  have hf : (p.onFeeder k (fun f => { f with settleTimer := none })).feeder k =
      { p.feeder k with settleTimer := none } := by rw [Plant.feeder_onFeeder, if_pos rfl]
  have post : ∀ (q : Plant) (g : Sequencer → Sequencer) s kd d,
      (q.onFeeder k g).post e s kd d = (q.post e s kd d).onFeeder k g := fun _ _ _ _ _ => rfl
  have cmd : ∀ (q : Plant) (g : Sequencer → Sequencer),
      (q.onFeeder k g).openTc e k = (q.openTc e k).onFeeder k g := by
    intro q g
    unfold Plant.openTc Plant.openCommand
    split <;> rfl
  unfold Plant.lineTestResult
  dsimp only
  rw [if_neg hr, if_neg hr, hf]
  unfold Plant.beginTcOpening
  simp only [post, cmd, Plant.onFeeder_onFeeder]
  rfl

theorem Kept.settleExpires_stopped (K : Kept e P) (k : FeederId) (h : P x p) :
    P x ((p.onFeeder k (fun f => { f with settleTimer := none })).settleExpires e k) := by
  have hs : ((p.onFeeder k (fun f => { f with settleTimer := none })).feeder k).state = (p.feeder k).state := by
    rw [Plant.feeder_onFeeder, if_pos rfl]
  unfold Plant.settleExpires
  rw [hs]
  split
  · dsimp only
    rw [Plant.lineTestResult_stopped _ _ _ _ _ (by split <;> nofun)]
    exact K.lineTestResult _ _ _ _ h (.inr (by simp [*]))
  · rename_i hn
    refine K.onFeeder h ⟨fun l => ⟨l.1, ?_, l.2.2.1, l.2.2.2⟩, .inr Iff.rfl, id, .inl (Nat.le_refl _)⟩
    simpa using hn

theorem Kept.serviceExpires (K : Kept e P) (k : FeederId) (h : P x p) :
    P x (p.onFeeder k Sequencer.serviceExpires) :=
  K.onFeeder h ⟨fun l => ⟨l.1, l.2.1, by simp [Sequencer.serviceExpires], l.2.2.2⟩, .inr Iff.rfl, id,
    .inl (Nat.zero_le _)⟩

/-! ### Requests -/

theorem Kept.manualClose (K : Kept e P) (k : FeederId) (hc : p.mayClose k = true) (h : P x p) :
    P x (p.manualClose e k) := by
  refine K.enterLineTest (K.onFeeder h (Sequencer.quiet_same rfl rfl rfl rfl rfl rfl)) (.inr ?_)
  rw [Plant.feeder_onFeeder, if_pos rfl]
  simp [Plant.mayClose] at hc
  simp [hc.1.1.1]

theorem Kept.manualOpen (K : Kept e P) (k : FeederId) (h : P x p) : P x (p.manualOpen e k) := by
  unfold Plant.manualOpen
  dsimp only
  split
  · exact K.onFeeder (K.openCommand _ _ h) (Sequencer.quiet_same rfl rfl rfl rfl rfl rfl)
  · exact K.post _ _ _ (K.enterOut h (.inr (by simp [*])))
  · exact K.beginTcOpening _ h (.inr (by simp [*]))
  · exact K.beginTcOpening _ h (.inr (by simp [*]))
  · exact K.onFeeder h (Sequencer.quiet_same rfl rfl rfl rfl rfl rfl)
  · exact K.abandonClosing _ _ h
  all_goals exact h

theorem Kept.resetLockout (K : Kept e P) (k : FeederId) (hs : (p.feeder k).state = .lockedOut) (h : P x p) :
    P x (p.resetLockout e k) := by
  unfold Plant.resetLockout
  refine K.post _ _ _ ?_
  rw [Plant.onFeeder_onFeeder]
  refine K.onFeeder h (Sequencer.quiet_enter ?_ ?_ ?_ (.inr (by simp [hs])) (.inl ?_))
  all_goals
    dsimp only [Function.comp]
    split
  · exact Sequencer.lawful_enterOut _
  · exact Sequencer.lawful_enterInService _
  · simp [Sequencer.enterOut]
  · simp [Sequencer.enterInService]
  · simp [Sequencer.enterOut]
  · simp [Sequencer.enterInService]
  · exact Nat.zero_le _
  · exact Nat.zero_le _

theorem Kept.clearCounters (K : Kept e P) (k : FeederId) (h : P x p) :
    P x (p.setDisc k (p.disc k).clearCounters) := K.disc _ _ h rfl

@[simp] theorem Plant.closeIncomer_rect : (p.closeIncomer e).rect = p.rect := by
  unfold Plant.closeIncomer
  split
  · rename_i hm
    have : p.closeCommand e .rectifier .acb =
        (p.setItem .acb ((p.item .acb).startClosing e .acb [.rectifier]), none) := by
      unfold Plant.closeCommand
      rw [if_pos (by decide), if_pos hm]
    rw [this]
    rfl
  · rfl

@[simp] theorem Plant.closeIncomer_pendingOpen : (p.closeIncomer e).pendingOpen = p.pendingOpen := by
  unfold Plant.closeIncomer
  split
  · rename_i hm
    have : p.closeCommand e .rectifier .acb =
        (p.setItem .acb ((p.item .acb).startClosing e .acb [.rectifier]), none) := by
      unfold Plant.closeCommand
      rw [if_pos (by decide), if_pos hm]
    rw [this]
    rfl
  · rfl

theorem Kept.closeIncomer (K : Kept e P) (h : P x p) : P x (p.closeIncomer e) := by
  unfold Plant.closeIncomer
  split
  · dsimp only
    split
    · exact K.closeCommand _ _ h
    · exact K.rectOutcome _ _ (K.closeCommand _ _ h)
  · exact h

theorem Kept.rectStart (K : Kept e P) (hf : e.store.stationFields.isSome)
    (hs : p.rect.state = .stopped ∨ p.rect.state = .tripped) (h : P x p) : P x (p.rectStart e) := by
  unfold Plant.rectStart
  have h1 : P x { p with rect := { p.rect with trippedLive := false } } := K.rect _ h (by simp) id
  refine K.post _ _ _ (K.rect _ (K.closeIncomer h1) (by simp) (fun l => ⟨fun _ => hf, by simp [RectState.firing], ?_⟩))
  intro _
  simp only [Plant.closeIncomer_rect] at l ⊢
  exact l.2.2 (by rcases hs with hs | hs <;> simp [hs, RectState.firing])

theorem Kept.requestStop (K : Kept e P) (h : P x p) : P x (p.requestStop e) := by
  unfold Plant.requestStop
  split
  · exact K.rectStop _ h
  · exact K.openIncomer h

theorem Kept.releaseEarthing (K : Kept e P) (h : P x p) : P x (p.releaseEarthing e) :=
  K.post _ _ _ (K.commandRailOpen _ h)

theorem Kept.clearFrameFault (K : Kept e P) (h : P x p) : P x (p.clearFrameFault e) :=
  K.post _ _ _ (K.onRail h (by simp) id)

end Sys2Proof.Machine
end

