-- ==== Sys2Proof/Laws/Shared.lean ====
section
/-! SUPPORT. What the shared operations do, said once for each: the expiry of a timer, the append to the journal, the
attention flags and alarms, and the execution of a request. -/

namespace Sys2Proof.Machine

/-! ### Expiries -/

@[simp] theorem State.atExpiry_stopped (s : State) (act : State → State) : s.atExpiry none act = s := rfl

theorem State.atExpiry_due {s : State} {n : Nat} (act : State → State) (h : n ≤ s.time.tick) :
    s.atExpiry (some n) act = act s := by
  simp [State.atExpiry, TimeBase.reach, h]

theorem State.atExpiry_nextInstant {s : State} {n : Nat} (act : State → State) (h : n = s.time.tick + 1)
    (hb : s.time.begun = false) : s.atExpiry (some n) act = act { s with time := s.time.begin } := by
  simp [State.atExpiry, TimeBase.reach, h, hb]

theorem State.atExpiry_notDue {s : State} {n : Nat} (act : State → State) (h : s.time.tick + 1 < n) :
    s.atExpiry (some n) act = s := by
  have h1 : ¬ n ≤ s.time.tick := by omega
  have h2 : ¬ (n = s.time.tick + 1 ∧ s.time.begun = false) := by omega
  simp only [State.atExpiry, TimeBase.reach, if_neg h1, if_neg h2]

/-- An expiry does nothing, or acts on a state that differs in the time base alone. -/
theorem State.atExpiry_cases (s : State) (expiry : Option Nat) (act : State → State) :
    s.atExpiry expiry act = s ∨ s.atExpiry expiry act = act s ∨
      s.atExpiry expiry act = act { s with time := s.time.begin } := by
  cases expiry with
  | none => exact .inl rfl
  | some n =>
    simp only [State.atExpiry, TimeBase.reach]
    split
    · exact .inl rfl
    · rename_i t ht
      split at ht
      · cases ht; exact .inr (.inl rfl)
      · split at ht
        · cases ht; exact .inr (.inr rfl)
        · cases ht

@[simp] theorem TimeBase.begin_source (t : TimeBase) : t.begin.source = t.source := by
  unfold TimeBase.begin; split <;> rfl
@[simp] theorem TimeBase.begin_unsync (t : TimeBase) : t.begin.unsync = t.unsync := by
  unfold TimeBase.begin; split <;> rfl

/-! ### Attention flags and alarms -/

variable {e : Env}

/-- Raising a flag changes the attention flags, the pending set, the notice and the holdoff timer, nothing else. -/
theorem JournalUnit.raise_only (u : JournalUnit) (f : AttentionFlag) :
    ∃ attention pending notice holdoff, JournalUnit.raise e f u =
      { u with attention := attention, pendingFlags := pending, notice := notice, holdoff := holdoff } := by
  unfold JournalUnit.raise
  split
  · exact ⟨_, _, _, _, rfl⟩
  · dsimp only
    split
    · unfold JournalUnit.tryNotice
      split <;> exact ⟨_, _, _, _, rfl⟩
    · exact ⟨_, _, _, _, rfl⟩


theorem FlagSet.get_set (s : FlagSet) (f g : AttentionFlag) :
    (s.set f).get g = if g = f then true else s.get g := by cases f <;> cases g <;> rfl

@[simp] theorem FlagSet.get_empty (f : AttentionFlag) : FlagSet.empty.get f = false := by cases f <;> rfl

theorem FlagSet.any_iff (s : FlagSet) : s.any = true ↔ ∃ f, s.get f = true := by
  constructor
  · intro h
    simp only [FlagSet.any, FlagSet.toList, List.any_cons, List.any_nil, Bool.or_false, Bool.or_eq_true, id] at h
    rcases h with h | h | h | h | h | h | h | h | h
    exacts [⟨.trip, h⟩, ⟨.lockout, h⟩, ⟨.switchgear, h⟩, ⟨.rectifier, h⟩, ⟨.rail, h⟩, ⟨.alarm, h⟩, ⟨.journal, h⟩,
      ⟨.record, h⟩, ⟨.restart, h⟩]
  · rintro ⟨f, h⟩
    cases f <;> simp_all [FlagSet.any, FlagSet.toList, FlagSet.get]

theorem JournalUnit.raise_attention (u : JournalUnit) (f g : AttentionFlag) :
    (JournalUnit.raise e f u).attention.get g = if g = f then true else u.attention.get g := by
  unfold JournalUnit.raise
  split
  · split
    · subst g; assumption
    · rfl
  · dsimp only
    split
    · unfold JournalUnit.tryNotice
      split <;> exact FlagSet.get_set _ _ _
    · exact FlagSet.get_set _ _ _

theorem AlarmFlags.get_set (l : AlarmFlags) (a b : Alarm) : (l.set a).get b = if b = a then true else l.get b := by
  cases a <;> cases b <;> (try rfl) <;> rename_i i j <;> (try (cases i <;> cases j <;> rfl)) <;>
    (cases i <;> cases j <;> (try rfl) <;> (rename_i a b; cases a <;> cases b <;> rfl))


theorem JournalUnit.latch_latched (u : JournalUnit) (a b : Alarm) :
    (JournalUnit.latch e a u).latched.get b = if b = a then true else u.latched.get b := by
  unfold JournalUnit.latch
  split
  · split
    · subst b; assumption
    · rfl
  · rw [JournalUnit.raise_latched]; exact AlarmFlags.get_set _ _ _

theorem JournalUnit.latch_contact (u : JournalUnit) (a : Alarm) :
    (JournalUnit.latch e a u).contact = (u.contact || !u.latched.get a) := by
  unfold JournalUnit.latch
  split <;> simp_all

/-! ### The journal -/

/-- What an append makes of the journal: the newest entry last, and the oldest lost where it was full. -/
theorem JournalUnit.post_journal (u : JournalUnit) (s : Source) (k : Kind) (d : List Int) :
    (JournalUnit.post e s k d u).journal =
      (if 256 ≤ u.journal.length then u.journal.drop (u.journal.length + 1 - 256) else u.journal)
        ++ [⟨u.nextIndex, e.time.stamp, s, k, d⟩] := by
  unfold JournalUnit.post
  simp only [Config.journalCapacity]
  by_cases h : 256 ≤ u.journal.length
  · simp only [h, if_true]; split <;> simp
  · simp only [h, if_false]; split <;> simp

@[simp] theorem JournalUnit.post_nextIndex (u : JournalUnit) (s : Source) (k : Kind) (d : List Int) :
    (JournalUnit.post e s k d u).nextIndex = u.nextIndex + 1 := by
  unfold JournalUnit.post
  dsimp only
  split <;> split <;> simp

@[simp] theorem JournalUnit.post_mask (u : JournalUnit) (s : Source) (k : Kind) (d : List Int) :
    (JournalUnit.post e s k d u).mask = u.mask := by
  unfold JournalUnit.post
  dsimp only
  split <;> split <;> simp

theorem JournalUnit.post_last (u : JournalUnit) (s : Source) (k : Kind) (d : List Int) :
    (JournalUnit.post e s k d u).journal.getLast? = some ⟨u.nextIndex, e.time.stamp, s, k, d⟩ := by
  rw [JournalUnit.post_journal, List.getLast?_concat]

/-- An append keeps every flag that was set, and latches at most JOURNAL_OVERFLOW, when the journal was full. -/
theorem JournalUnit.post_latched (u : JournalUnit) (s : Source) (k : Kind) (d : List Int) (a : Alarm) :
    (JournalUnit.post e s k d u).latched.get a =
      if a = .journalOverflow ∧ 256 ≤ u.journal.length then true else u.latched.get a := by
  unfold JournalUnit.post
  simp only [Config.journalCapacity]
  by_cases h : 256 ≤ u.journal.length
  · simp only [h, if_true, and_true]
    split <;> simp [JournalUnit.latch_latched]
  · simp only [h, if_false, and_false]
    split <;> simp

/-! ### The schedule of a period -/

/-- R128 step 6: each pulse whose instant has passed is FIRED and starts its gate's burst now; the other gates, and all
else of the rectifier, stay. -/
theorem Rectifier.fireDue_bursts (now : Nat) (sch : Schedule) (r : Rectifier) (hn : (sch.pulses.map Pulse.gate).Nodup) :
    ∃ bursts, r.fireDue now sch =
        { r with
          bursts := bursts
          schedule := some
            { sch with
              pulses := sch.pulses.map (fun x => if x.dueAt now then { x with status := .fired } else x) } } ∧
      (∀ x ∈ sch.pulses, x.dueAt now = true → bursts[x.gate] = some ⟨now, now + sch.burst⟩) ∧
      ∀ g : GateId, (∀ x ∈ sch.pulses, x.gate = g → x.dueAt now = false) → bursts[g] = r.bursts[g] := by
  suffices h : ∀ (l : List Pulse) (r : Rectifier), (l.map Pulse.gate).Nodup →
      ∃ bursts,
        l.foldl (fun (r : Rectifier) x => if x.dueAt now then r.startBurst x.gate now sch.burst else r) r =
          { r with bursts := bursts } ∧
        (∀ x ∈ l, x.dueAt now = true → bursts[x.gate] = some ⟨now, now + sch.burst⟩) ∧
        ∀ g : GateId, (∀ x ∈ l, x.gate = g → x.dueAt now = false) → bursts[g] = r.bursts[g] by
    obtain ⟨b, hb, h1, h2⟩ := h sch.pulses r hn
    exact ⟨b, by simp only [Rectifier.fireDue, hb], h1, h2⟩
  intro l
  induction l with
  | nil => exact fun r _ => ⟨r.bursts, rfl, nofun, fun _ _ => rfl⟩
  | cons y l ih =>
    intro r hn
    simp only [List.map_cons, List.nodup_cons] at hn
    obtain ⟨b, hb, h1, h2⟩ := ih (if y.dueAt now then r.startBurst y.gate now sch.burst else r) hn.2
    refine ⟨b, ?_, fun x hx hd => ?_, fun g hg => ?_⟩
    · rw [List.foldl_cons, hb]; split <;> rfl
    · rcases List.mem_cons.1 hx with rfl | hx
      · rw [h2 x.gate (fun z hz hg => absurd (List.mem_map.2 ⟨z, hz, hg⟩) hn.1)]
        simp [hd, Rectifier.startBurst]
      · exact h1 x hx hd
    · rw [h2 g (fun x hx => hg x (List.mem_cons_of_mem _ hx))]
      split
      · rename_i hd
        have hne : (y.gate : Nat) ≠ g := fun h => by simp [hg y List.mem_cons_self (Fin.ext h)] at hd
        exact Vector.getElem_set_ne (by omega) (by omega) hne
      · rfl

/-! ### Requests -/

/-- A request taken at once and answered at once: the state that serving it gave, with the reply in the slot. -/
theorem State.request_answered {s t : State} {head : RequestHead} {kind : RequestKind} {payload reply : List Byte}
    {serve : State → Served} (h : s.link.takesAtOnce = true)
    (hs : serve (s.begin head.pins kind.code head.tag) = (t, some reply))
    (ht : t.link.executing = some ⟨kind.code, head.tag⟩) :
    s.request head kind payload serve =
      { t with link :=
          { t.link with slot := some ⟨replyKind kind.code, head.tag, reply⟩, executing := none } } := by
  unfold State.request State.offer
  rw [if_pos h]
  unfold State.execute
  dsimp only
  rw [hs]
  simp only [State.finish, State.reply, Link.reply, ht]

/-- A request taken at once and not yet answered: a store write is programmed. -/
theorem State.request_unanswered {s t : State} {head : RequestHead} {kind : RequestKind} {payload : List Byte}
    {serve : State → Served} (h : s.link.takesAtOnce = true)
    (hs : serve (s.begin head.pins kind.code head.tag) = (t, none)) :
    s.request head kind payload serve = t := by
  unfold State.request State.offer
  rw [if_pos h]
  unfold State.execute
  dsimp only
  rw [hs]
  rfl

/-- A request that cannot be executed at once waits in the queue, or is counted as overflow. -/
theorem State.request_waits {s : State} {head : RequestHead} {kind : RequestKind} {payload : List Byte}
    {serve : State → Served} (h : s.link.takesAtOnce = false) :
    s.request head kind payload serve = { s with link := s.link.enqueue ⟨kind.code, head.tag, payload⟩ } := by
  unfold State.request State.offer
  rw [if_neg (by simp [h])]

/-- A due execution serves the oldest queued frame, and else changes nothing. -/
theorem State.startExecution_cases (pins : Pins) (s : State) :
    s.startExecution pins = s ∨
      ∃ f rest, s.link.free = true ∧ s.link.queue = f :: rest ∧
        s.startExecution pins =
          State.execute pins f.kind f.tag (serveFrame f) { s with link := { s.link with queue := rest } } := by
  unfold State.startExecution
  split
  · rename_i hf
    split
    · exact .inl rfl
    · rename_i f rest hq
      exact .inr ⟨f, rest, hf, hq, rfl⟩
  · exact .inl rfl

/-- The start of a transmission changes nothing, begins the reply and serves what waits behind it, or begins the
notice. -/
theorem State.transmitStart_cases (s : State) :
    s.transmitStart = s ∨
      (∃ f, s.link.transmitter = .idle ∧ s.link.restart ≠ .replySent ∧ s.link.slot = some f ∧
        s.transmitStart = State.startExecution s.panel.pins { s with link := s.link.beginReply f }) ∨
      (∃ n, s.link.transmitter = .idle ∧ s.link.restart ≠ .replySent ∧ s.link.slot = none ∧
        s.plant.unit.notice = some n ∧ s.transmitStart = s.beginNotice n) := by
  unfold State.transmitStart
  split
  · exact .inl rfl
  · exact .inl rfl
  · rename_i ht
    split
    · exact .inl rfl
    · rename_i hr
      split
      · rename_i f hf
        exact .inr (.inl ⟨f, ht, hr, hf, rfl⟩)
      · rename_i n hs hn
        exact .inr (.inr ⟨n, ht, hr, hs, hn, rfl⟩)
      · exact .inl rfl

/-! ### The line -/

theorem characterLevels_length (b : Byte) : (characterLevels b).length = 10 := by
  simp [characterLevels]

theorem replyKind_code (r : RequestKind) : replyKind r.code = r.code + 0x80 := by cases r <;> decide

theorem RequestKind.ofByte_code (r : RequestKind) : RequestKind.ofByte r.code = some r := by cases r <;> decide

/-! ### Bytes -/

theorem leBytes_length (n : Nat) (v : Int) : (leBytes n v).length = n := by
  induction n generalizing v with
  | zero => rfl
  | succ n ih => simp [leBytes, ih]

end Sys2Proof.Machine
end

