-- ==== Sys2Proof/WellFormed.lean ====
section
/-! DEFINITION. Which commands could come to the part: their operands keep to what the rules say of them. The meanings
are defined for every command; these checks say which of them describe an event of the real part. -/

namespace Sys2Proof

/-- R2: a converted value is a fraction. -/
def Conversion.wellFormed : Conversion → Bool
  | .scaled _ den => decide (0 < den)
  | .spanLow | .spanHigh => true

/-- R1: each block takes its event of an instant once. -/
def SampleInputs.wellFormed (x : SampleInputs) : Bool :=
  (channelList x.conversions).all Conversion.wellFormed && decide x.order.Nodup

/-- The record that was found. -/
def FoundRecord.place : FoundRecord → Nat
  | .set n _ => n.val
  | .station _ => 16

/-- R49: each record has one contents. R13: no more instants passed since an interruption than in all. -/
def ResetInputs.wellFormed (x : ResetInputs) : Bool :=
  decide (x.found.map FoundRecord.place).Nodup && decide (x.since ≤ x.held)

/-- The checks of a command. -/
def Instr.wellFormed : Instr → Bool
  | .powerOnReset x | .pinReset x | .restartReset x => x.wellFormed
  | .sampleInstant x => x.wellFormed
  | .unknownKind _ kind payload => (Machine.RequestKind.ofByte kind).isNone && decide (payload.length ≤ 238)
  | .echo _ payload => decide (payload.length ≤ 237)
  | .crystalFailure | .crystalReturn | .noCrossingExpiry | .coilPulseEnd _ | .limitTimerExpiry _ | .deadTimeExpiry _
  | .settleExpiry _ | .serviceTimerExpiry _ | .pulseInstant _ | .burstEnd _ | .railHoldExpiry
  | .energyPulseOnExpiry | .energyPulseGapExpiry | .recordHoldExpiry | .scanVisit _ | .setWriteCompletion _
  | .stationRecordWriteCompletion _ | .mapEntryWriteCompletion _ | .noticeHoldoffExpiry | .receivedCharacter _ _
  | .gapTimerExpiry | .linkBreak | .linkBreakEnd | .requestExecutionStart _ | .frameTransmitStart
  | .frameTransmitEnd | .identify _ | .readStatus _ | .readAttention _ | .noticeMask _ _ | .setTime _ _
  | .restart _ | .readMeasurements _ | .readEnergy _ | .clearEnergy _ | .writeSet _ _ _ | .readSet _ _
  | .eraseSet _ _ | .writeMapEntry _ _ _ _ | .readMap _ | .writeStationRecord _ _ | .readStationRecord _
  | .setFeedState _ _ _ | .readFeeder _ _ | .feederClose _ _ | .feederOpen _ _ | .resetLockout _ _
  | .clearFeederCounters _ _ | .readItems _ | .rectifierStart _ | .rectifierStop _ | .setVoltageReference _ _
  | .readRectifier _ | .readRail _ | .releaseEarthing _ | .clearFrameFault _ | .fetchJournal _ _
  | .releaseJournal _ _ | .readAlarms _ | .acknowledgeAlarms _ | .listRecords _ | .readRecordPiece _ _ _
  | .freeRecord _ _ => true

end Sys2Proof
end

