-- ==== Sys2Proof/Laws/PerInstr.lean ====
section
/-! SUPPORT. A fact of each command as syntax: the frame that a well-formed request command stands for has a payload of
a length that its kind accepts (R204), and a well-formed command of an unknown kind has a kind that is in no catalogue
and a payload that a frame can carry (R193, R198). -/

namespace Sys2Proof.Laws.AcceptedLength

open Sys2Proof.Machine

/-- The kind and the payload of the frame that a request command stands for; none for an event. -/
def frame : Instr → Option (RequestKind × List Byte)
  | .identify _ => some (.identify, [])
  | .echo _ payload => some (.echo, payload)
  | .readStatus _ => some (.readStatus, [])
  | .readAttention _ => some (.readAttention, [])
  | .noticeMask _ mask => some (.noticeMask, leBytes 2 mask.toNat)
  | .setTime _ count => some (.setTime, leBytes 6 count.toNat)
  | .restart _ => some (.restart, [])
  | .readMeasurements _ => some (.readMeasurements, [])
  | .readEnergy _ => some (.readEnergy, [])
  | .clearEnergy _ => some (.clearEnergy, [])
  | .writeSet _ number fields => some (.writeSet, number :: fields.block)
  | .readSet _ number => some (.readSet, [number])
  | .eraseSet _ number => some (.eraseSet, [number])
  | .writeMapEntry _ feeder feedState value => some (.writeMapEntry, [feeder, feedState, value])
  | .readMap _ => some (.readMap, [])
  | .writeStationRecord _ fields => some (.writeStationRecord, fields.block)
  | .readStationRecord _ => some (.readStationRecord, [])
  | .setFeedState _ feeder feedState => some (.setFeedState, [feeder, feedState])
  | .readFeeder _ feeder => some (.readFeeder, [feeder])
  | .feederClose _ feeder => some (.feederClose, [feeder])
  | .feederOpen _ feeder => some (.feederOpen, [feeder])
  | .resetLockout _ feeder => some (.resetLockout, [feeder])
  | .clearFeederCounters _ feeder => some (.clearFeederCounters, [feeder])
  | .readItems _ => some (.readItems, [])
  | .rectifierStart _ => some (.rectifierStart, [])
  | .rectifierStop _ => some (.rectifierStop, [])
  | .setVoltageReference _ voltage => some (.setVoltageReference, leBytes 2 voltage.toNat)
  | .readRectifier _ => some (.readRectifier, [])
  | .readRail _ => some (.readRail, [])
  | .releaseEarthing _ => some (.releaseEarthing, [])
  | .clearFrameFault _ => some (.clearFrameFault, [])
  | .fetchJournal _ count => some (.fetchJournal, [count])
  | .releaseJournal _ index => some (.releaseJournal, leBytes 2 index.toNat)
  | .readAlarms _ => some (.readAlarms, [])
  | .acknowledgeAlarms _ => some (.acknowledgeAlarms, [])
  | .listRecords _ => some (.listRecords, [])
  | .readRecordPiece _ slot piece => some (.readRecordPiece, [slot, piece])
  | .freeRecord _ slot => some (.freeRecord, [slot])
  | .powerOnReset _ | .pinReset _ | .restartReset _ | .crystalFailure | .crystalReturn | .sampleInstant _
  | .noCrossingExpiry | .coilPulseEnd _ | .limitTimerExpiry _ | .deadTimeExpiry _ | .settleExpiry _
  | .serviceTimerExpiry _ | .pulseInstant _ | .burstEnd _ | .railHoldExpiry | .energyPulseOnExpiry
  | .energyPulseGapExpiry | .recordHoldExpiry | .scanVisit _ | .setWriteCompletion _
  | .stationRecordWriteCompletion _ | .mapEntryWriteCompletion _ | .noticeHoldoffExpiry
  | .receivedCharacter _ _ | .gapTimerExpiry | .linkBreak | .linkBreakEnd | .requestExecutionStart _
  | .unknownKind _ _ _ | .frameTransmitStart | .frameTransmitEnd => none

/-- A well-formed command that stands for a request is accepted by the length check of R204; one of an unknown kind is
refused by the kind check before it. -/
def Statement (i : Instr) : Prop :=
  i.wellFormed = true →
    (∀ r payload, frame i = some (r, payload) → r.accepts payload.length = true) ∧
    (∀ head kind payload, i = .unknownKind head kind payload →
      RequestKind.ofByte kind = none ∧ payload.length ≤ 238)

theorem event (i : Instr) (h : frame i = none) (hu : ∀ head kind payload, i ≠ .unknownKind head kind payload) :
    Statement i := fun _ => ⟨fun _ _ hf => (by rw [h] at hf; cases hf), fun _ _ _ he => absurd he (hu _ _ _)⟩

theorem request (i : Instr) (r : RequestKind) (payload : List Byte) (h : frame i = some (r, payload))
    (ha : i.wellFormed = true → r.accepts payload.length = true) : Statement i := by
  refine fun hw => ⟨fun r' l hf => ?_, fun _ _ _ he => (by subst he; cases h)⟩
  rw [h] at hf
  cases hf
  exact ha hw

theorem blockBytes_length (l : List Word16) : (blockBytes l).length = 2 * l.length := by
  induction l with
  | nil => rfl
  | cons x l ih => simp [blockBytes, leBytes_length] at ih ⊢; omega

theorem powerOnReset (inputs : ResetInputs) : Statement (.powerOnReset inputs) := event _ rfl nofun
theorem pinReset (inputs : ResetInputs) : Statement (.pinReset inputs) := event _ rfl nofun
theorem restartReset (inputs : ResetInputs) : Statement (.restartReset inputs) := event _ rfl nofun
theorem crystalFailure : Statement .crystalFailure := event _ rfl nofun
theorem crystalReturn : Statement .crystalReturn := event _ rfl nofun
theorem sampleInstant (inputs : SampleInputs) : Statement (.sampleInstant inputs) := event _ rfl nofun
theorem noCrossingExpiry : Statement .noCrossingExpiry := event _ rfl nofun
theorem coilPulseEnd (item : ItemId) : Statement (.coilPulseEnd item) := event _ rfl nofun
theorem limitTimerExpiry (item : ItemId) : Statement (.limitTimerExpiry item) := event _ rfl nofun
theorem deadTimeExpiry (k : FeederId) : Statement (.deadTimeExpiry k) := event _ rfl nofun
theorem settleExpiry (k : FeederId) : Statement (.settleExpiry k) := event _ rfl nofun
theorem serviceTimerExpiry (k : FeederId) : Statement (.serviceTimerExpiry k) := event _ rfl nofun
theorem pulseInstant (gate : GateId) : Statement (.pulseInstant gate) := event _ rfl nofun
theorem burstEnd (gate : GateId) : Statement (.burstEnd gate) := event _ rfl nofun
theorem railHoldExpiry : Statement .railHoldExpiry := event _ rfl nofun
theorem energyPulseOnExpiry : Statement .energyPulseOnExpiry := event _ rfl nofun
theorem energyPulseGapExpiry : Statement .energyPulseGapExpiry := event _ rfl nofun
theorem recordHoldExpiry : Statement .recordHoldExpiry := event _ rfl nofun
theorem scanVisit (found : Option FoundRecord) : Statement (.scanVisit found) := event _ rfl nofun
theorem setWriteCompletion (readBack : SetFields) : Statement (.setWriteCompletion readBack) := event _ rfl nofun
theorem stationRecordWriteCompletion (readBack : StationFields) : Statement (.stationRecordWriteCompletion readBack) :=
  event _ rfl nofun
theorem mapEntryWriteCompletion (readBack : Option SetId) : Statement (.mapEntryWriteCompletion readBack) :=
  event _ rfl nofun
theorem noticeHoldoffExpiry : Statement .noticeHoldoffExpiry := event _ rfl nofun
theorem receivedCharacter (char : LineCharacter) (pins : Pins) : Statement (.receivedCharacter char pins) :=
  event _ rfl nofun
theorem gapTimerExpiry : Statement .gapTimerExpiry := event _ rfl nofun
theorem linkBreak : Statement .linkBreak := event _ rfl nofun
theorem linkBreakEnd : Statement .linkBreakEnd := event _ rfl nofun
theorem requestExecutionStart (pins : Pins) : Statement (.requestExecutionStart pins) := event _ rfl nofun
theorem unknownKind (head : RequestHead) (kind : Byte) (payload : List Byte) : Statement (.unknownKind head kind payload) :=
  by
  refine fun hw => ⟨fun _ _ hf => (nomatch hf), fun _ _ _ he => ?_⟩
  cases he
  simpa [Instr.wellFormed] using hw
theorem frameTransmitStart : Statement .frameTransmitStart := event _ rfl nofun
theorem frameTransmitEnd : Statement .frameTransmitEnd := event _ rfl nofun
theorem identify (head : RequestHead) : Statement (.identify head) := request _ _ _ rfl (fun _ => rfl)
theorem echo (head : RequestHead) (payload : List Byte) : Statement (.echo head payload) :=
  request _ _ _ rfl (fun hw => by simpa [Instr.wellFormed, RequestKind.accepts] using hw)
theorem readStatus (head : RequestHead) : Statement (.readStatus head) := request _ _ _ rfl (fun _ => rfl)
theorem readAttention (head : RequestHead) : Statement (.readAttention head) := request _ _ _ rfl (fun _ => rfl)
theorem noticeMask (head : RequestHead) (mask : Word16) : Statement (.noticeMask head mask) :=
  request _ _ _ rfl (fun _ => by simp [leBytes_length, RequestKind.accepts])
theorem setTime (head : RequestHead) (count : Millis) : Statement (.setTime head count) :=
  request _ _ _ rfl (fun _ => by simp [leBytes_length, RequestKind.accepts])
theorem restart (head : RequestHead) : Statement (.restart head) := request _ _ _ rfl (fun _ => rfl)
theorem readMeasurements (head : RequestHead) : Statement (.readMeasurements head) := request _ _ _ rfl (fun _ => rfl)
theorem readEnergy (head : RequestHead) : Statement (.readEnergy head) := request _ _ _ rfl (fun _ => rfl)
theorem clearEnergy (head : RequestHead) : Statement (.clearEnergy head) := request _ _ _ rfl (fun _ => rfl)
theorem writeSet (head : RequestHead) (number : Byte) (fields : SetFields) : Statement (.writeSet head number fields) :=
  request _ _ _ rfl (fun _ => by
  simp [SetFields.block, SetFields.toList, blockBytes_length, RequestKind.accepts])
theorem readSet (head : RequestHead) (number : Byte) : Statement (.readSet head number) :=
  request _ _ _ rfl (fun _ => rfl)
theorem eraseSet (head : RequestHead) (number : Byte) : Statement (.eraseSet head number) :=
  request _ _ _ rfl (fun _ => rfl)
theorem writeMapEntry (head : RequestHead) (feeder feedState value : Byte) : Statement (.writeMapEntry head feeder feedState value) :=
  request _ _ _ rfl (fun _ => rfl)
theorem readMap (head : RequestHead) : Statement (.readMap head) := request _ _ _ rfl (fun _ => rfl)
theorem writeStationRecord (head : RequestHead) (fields : StationFields) : Statement (.writeStationRecord head fields) :=
  request _ _ _ rfl (fun _ => by
  simp [StationFields.block, StationFields.toList, blockBytes_length, RequestKind.accepts])
theorem readStationRecord (head : RequestHead) : Statement (.readStationRecord head) :=
  request _ _ _ rfl (fun _ => rfl)
theorem setFeedState (head : RequestHead) (feeder feedState : Byte) : Statement (.setFeedState head feeder feedState) :=
  request _ _ _ rfl (fun _ => rfl)
theorem readFeeder (head : RequestHead) (feeder : Byte) : Statement (.readFeeder head feeder) :=
  request _ _ _ rfl (fun _ => rfl)
theorem feederClose (head : RequestHead) (feeder : Byte) : Statement (.feederClose head feeder) :=
  request _ _ _ rfl (fun _ => rfl)
theorem feederOpen (head : RequestHead) (feeder : Byte) : Statement (.feederOpen head feeder) :=
  request _ _ _ rfl (fun _ => rfl)
theorem resetLockout (head : RequestHead) (feeder : Byte) : Statement (.resetLockout head feeder) :=
  request _ _ _ rfl (fun _ => rfl)
theorem clearFeederCounters (head : RequestHead) (feeder : Byte) : Statement (.clearFeederCounters head feeder) :=
  request _ _ _ rfl (fun _ => rfl)
theorem readItems (head : RequestHead) : Statement (.readItems head) := request _ _ _ rfl (fun _ => rfl)
theorem rectifierStart (head : RequestHead) : Statement (.rectifierStart head) := request _ _ _ rfl (fun _ => rfl)
theorem rectifierStop (head : RequestHead) : Statement (.rectifierStop head) := request _ _ _ rfl (fun _ => rfl)
theorem setVoltageReference (head : RequestHead) (voltage : Word16) : Statement (.setVoltageReference head voltage) :=
  request _ _ _ rfl (fun _ => by simp [leBytes_length, RequestKind.accepts])
theorem readRectifier (head : RequestHead) : Statement (.readRectifier head) := request _ _ _ rfl (fun _ => rfl)
theorem readRail (head : RequestHead) : Statement (.readRail head) := request _ _ _ rfl (fun _ => rfl)
theorem releaseEarthing (head : RequestHead) : Statement (.releaseEarthing head) := request _ _ _ rfl (fun _ => rfl)
theorem clearFrameFault (head : RequestHead) : Statement (.clearFrameFault head) := request _ _ _ rfl (fun _ => rfl)
theorem fetchJournal (head : RequestHead) (count : Byte) : Statement (.fetchJournal head count) :=
  request _ _ _ rfl (fun _ => rfl)
theorem releaseJournal (head : RequestHead) (index : Word16) : Statement (.releaseJournal head index) :=
  request _ _ _ rfl (fun _ => by simp [leBytes_length, RequestKind.accepts])
theorem readAlarms (head : RequestHead) : Statement (.readAlarms head) := request _ _ _ rfl (fun _ => rfl)
theorem acknowledgeAlarms (head : RequestHead) : Statement (.acknowledgeAlarms head) :=
  request _ _ _ rfl (fun _ => rfl)
theorem listRecords (head : RequestHead) : Statement (.listRecords head) := request _ _ _ rfl (fun _ => rfl)
theorem readRecordPiece (head : RequestHead) (slot piece : Byte) : Statement (.readRecordPiece head slot piece) :=
  request _ _ _ rfl (fun _ => rfl)
theorem freeRecord (head : RequestHead) (slot : Byte) : Statement (.freeRecord head slot) :=
  request _ _ _ rfl (fun _ => rfl)

end Sys2Proof.Laws.AcceptedLength
end

