-- ==== Sys2Proof/Tests/Slice0.lean ====
section
/-! SUPPORT. Tests: the checks of WellFormed refuse ill-formed commands, the worked examples of the spec, and, for each
statement that has hypotheses, a state and operands that meet them, each clause at its boundaries (`test_meets_…`). -/

namespace Sys2Proof.Tests

set_option Elab.async false

open Sys2Proof.Machine

/-! ### Helpers -/

def after (c : Instr) (s : State) : State :=
  match exec c s with
  | .next t => t
  | .fault _ => s
  | .refused _ => s

/-- The head of a request with tag 9, REMOTE and ENG_KEY as given. -/
def head (remote engKey : Bool) : RequestHead := ⟨9, ⟨remote, engKey⟩⟩

/-- Every channel converts to the same value, every sense line is released low, the crystal runs. -/
def inputs (c : Conversion) : SampleInputs :=
  ⟨PerChannel.all c, PerItem.all ⟨false, false, false⟩, true, []⟩

def atTime (tick eighth elapsed : Nat) (s : State) : State :=
  { s with
    time := { s.time with
      tick := tick, eighth := BitVec.ofNat 3 eighth, elapsed := BitVec.ofNat 48 elapsed, begun := false } }

def putItem (i : ItemId) (it : Item) (s : State) : State := { s with plant := s.plant.setItem i it }
def putFeeder (k : FeederId) (f : Sequencer) (s : State) : State := { s with plant := s.plant.setFeeder k f }
def putDisc (k : FeederId) (d : Discriminator) (s : State) : State := { s with plant := s.plant.setDisc k d }
def putRect (r : Rectifier) (s : State) : State := { s with plant := { s.plant with rect := r } }
def putRail (r : RailMonitor) (s : State) : State := { s with plant := { s.plant with rail := r } }
def putUnit (u : JournalUnit) (s : State) : State := { s with plant := { s.plant with unit := u } }
def putRecords (r : RecordStore) (s : State) : State := { s with plant := { s.plant with records := r } }
def putLink (l : Link) (s : State) : State := { s with link := l }

/-- Every channel's twenty newest means stand at a value. -/
def steady (v : Int) (s : State) : State :=
  { s with front := { s.front with means := PerChannel.all (List.replicate 20 v) } }

def itemIn (state : ItemState) (sensed : Position) : Item := { Item.reset with state := state, sensed := sensed }
def feederIn (state : FeederState) : Sequencer := { Sequencer.reset with state := state }

/-- Setting set 5 of the worked examples (03, "check word"). -/
def set5 : SetFields where
  imax := 6000
  nmax := 4
  drise := 15
  dfall := 8
  nstart := 4
  nend := 16
  deltaI := 1500
  tmin := 16
  tmax := 400
  ith := 1800
  ialarm := 1600
  ireclose := 1200
  tshift := 12
  tcb := 50
  rt := 250
  rmin := 30
  ts := 500
  vlive := 600
  vtest := 500
  attempts := 2
  tdead := 5000
  check := 46028

/-- A station record with the values of the worked examples of 06. -/
def station : StationFields where
  offset := 300
  alphaMin := 150
  alphaMax := 1200
  alphaRetard := 900
  ki := 24
  kc := 40
  vref := 750
  rdroop := 20
  vblock := 1000
  vhys := 50
  ilimit := 2000
  irectTrip := 4000
  burst := 200
  vacMin := 300
  u1 := 120
  t1 := 1000
  u2 := 250
  u3 := 600
  th := 10
  nrep := 3
  w := 10
  ireopen := 50
  iframe := 1500
  tf := 50
  topenLim := 60
  tcloseLim := 400
  icreep := 5
  check := 50543

/-- Set 5 is VALID and feeder 1 bound to it, and the station record is VALID. -/
def bound (s : State) : State :=
  { s with
    store := { s.store with
      sets := s.store.sets.set 5 ⟨.valid, some set5⟩
      station := ⟨.valid, some station⟩
      map := s.store.map.set .f1 ⟨some 5, some 5, some 5, some 5⟩
      binding := s.store.binding.set .f1 ⟨.unknown, some 5, .none⟩
      inUse := s.store.inUse.set 5 1 } }

/-! ### WellFormed -/

theorem test_refuses_zero_denominator : (Instr.sampleInstant (inputs (.scaled 1 0))).wellFormed = false := by decide +kernel
theorem test_accepts_conversion : (Instr.sampleInstant (inputs (.scaled (-7) 2))).wellFormed = true := by decide +kernel
theorem test_refuses_task_twice :
    (Instr.sampleInstant { inputs .spanLow with order := [.railMean, .trackVab, .railMean] }).wellFormed = false := by
  decide +kernel
theorem test_refuses_record_found_twice :
    (Instr.powerOnReset ⟨0, 0, true, 0, 0, [.station station, .set 3 set5, .station station]⟩).wellFormed = false := by
  decide +kernel
theorem test_refuses_pin_reset_record_twice :
    (Instr.pinReset ⟨0, 0, true, 0, 0, [.set 3 set5, .set 3 set5]⟩).wellFormed = false := by decide +kernel
theorem test_refuses_restart_record_twice :
    (Instr.restartReset ⟨0, 0, true, 0, 0, [.set 3 set5, .set 3 set5]⟩).wellFormed = false := by decide +kernel
theorem test_refuses_reset_longer_steady_than_held :
    (Instr.pinReset ⟨0, 0, false, 5, 6, []⟩).wellFormed = false ∧
      (Instr.pinReset ⟨0, 0, false, 5, 5, []⟩).wellFormed = true := by decide +kernel
theorem test_refuses_known_kind_as_unknown : (Instr.unknownKind (head true true) 0x3A []).wellFormed = false := by
  decide +kernel
theorem test_refuses_long_unknown :
    (Instr.unknownKind (head true true) 0x70 (List.replicate 239 0)).wellFormed = false := by decide +kernel
theorem test_refuses_long_echo : (Instr.echo (head true true) (List.replicate 238 0)).wellFormed = false := by decide +kernel
theorem test_accepts_longest_echo : (Instr.echo (head true true) (List.replicate 237 0)).wellFormed = true := by decide +kernel

/-! ### Decode: the table gives no row any bits -/

theorem test_no_word_spells_a_command : decodeTableWord 8 0 = none := by decide +kernel
theorem test_fetch_word_changes_nothing : State.reset.withFetchWord 8 0 = State.reset := rfl
theorem test_queue_is_first_in_first_out :
    step { State.reset with pending := [.linkBreak, .linkBreakEnd] } =
      exec .linkBreak { State.reset with pending := [.linkBreakEnd] } := rfl

/-! ### Worked examples of the spec -/

/-- 10, "a short request and its CRC". -/
theorem test_crc_of_the_short_request : crc [0x02, 0x70, 0x05] = 0x12D1 ∧ crc [0x02] = 0x2312 := by decide +kernel
theorem test_short_request_on_the_line : LinkFrame.bytes ⟨0x70, 0x05, []⟩ = [0xA5, 0x02, 0x70, 0x05, 0xD1, 0x12] := by
  decide +kernel
theorem test_short_request_is_unknown :
    (after (.unknownKind ⟨5, ⟨true, true⟩⟩ 0x70 []) State.reset).link.slot = some ⟨0xF0, 0x05, [0x01, 0x70]⟩ := by
  decide +kernel

/-- 03, "check word". -/
theorem test_check_word_of_set_5 : set5.firstFailing = none ∧ (set5.toList.map BitVec.toNat).sum = 65535 := by decide +kernel
theorem test_station_check_word : station.firstFailing = none := by decide +kernel

/-- 01, "floor means". -/
theorem test_floor_mean : meanOfSum (-17) = -3 := by decide +kernel
theorem test_twenty_ms_mean :
    FrontEnd.mean20 { FrontEnd.reset with means := PerChannel.all (List.replicate 19 750 ++ [731]) } .vbus = 749 := by
  decide +kernel

/-- 01, "interpolation and lock". -/
theorem test_crossing_time : crossingTime 30375 (-37) 62 = 30421 := by decide +kernel
theorem test_period_list :
    periodsWith 20002 [20000, 19994, 20011, 19996] = [19994, 20011, 19996, 20002] ∧
      (periodsWith 20002 [20000, 19994, 20011, 19996]).sum / 4 = 20000 := by decide +kernel
theorem test_invalid_period : validPeriod 2250 = false ∧ validPeriod 20005 = true := by decide +kernel

/-- 02, "thermal steps". -/
theorem test_thermal_steps : thermalStep 10 2000 1000000 = 1002929 ∧ thermalStep 10 0 1002929 = 1001949 := by decide +kernel

/-- 05, "line resistance". -/
theorem test_line_resistances :
    lineResistance 250 40 780 = 13 ∧ lineResistance 250 600 780 = 833 ∧ lineResistance 250 780 780 = 65535 ∧
      lineResistance 250 1999 2000 = 65535 := by decide +kernel

/-- 02, "distant short circuit": sample 103 begins the run with base 600, sample 106 enters RISING, 474 trips. -/
def startedAt105 : Discriminator :=
  { Discriminator.reset with state := .armed, startRun := 3, startBase := some 600, last := ⟨628, 28, Stamp.powerOn⟩ }
theorem test_rising_at_sample_106 :
    (startedAt105.riseStep (.ofSet set5)).1.event = some ⟨600, 1, 0, 8, 16, 1500, 16, 400⟩ ∧
      (startedAt105.riseStep (.ofSet set5)).2 = none := by decide +kernel
theorem test_trip_at_sample_474 :
    ({ startedAt105 with
        startRun := 0, startBase := none, last := ⟨2100, 32, Stamp.powerOn⟩,
        event := some ⟨600, 368, 0, 8, 16, 1500, 16, 400⟩ }.riseStep (.ofSet set5)).2 =
      some ⟨600, 1500, 368⟩ := by decide +kernel

/-- 06, "one period's schedule". -/
theorem test_schedule_positions :
    ((newSchedule 0 20000 300 200 320).pulses.map (fun x => (x.position, x.moment))) =
      [(620, 3444), (1220, 6777), (1820, 10111), (2420, 13444), (3020, 16777), (20, 111), (920, 5111), (1520, 8444),
        (2120, 11777), (2720, 15111), (3320, 18444), (320, 1777)] := by decide +kernel
theorem test_burst_length : (newSchedule 0 20000 300 200 320).burst = 1111 := by decide +kernel

/-- 06, "regulator runs". -/
def regulated (state : RectState) (alpha : Nat) (idc vbus : Int) : Nat × RectState :=
  let r := { Rectifier.reset 750 with state := state, alpha := alpha }.regulate station idc vbus
  (r.alpha, r.state)
theorem test_regulator_runs :
    regulated .regulating 350 1500 700 = (320, .regulating) ∧ regulated .regulating 320 2150 660 = (420, .currentLimit) ∧
      regulated .currentLimit 420 2040 640 = (520, .currentLimit) ∧
      regulated .currentLimit 520 1980 690 = (489, .regulating) ∧
      regulated .regulating 489 300 752 = (501, .regulating) ∧
      regulated .regulating 501 (-3) 758 = (511, .regulating) ∧
      regulated .softStart 1200 0 600 = (1180, .softStart) := by decide +kernel

/-- 06, "retard in mid-period": S1 moves to 1800 at 10 000 µs, S4 has wrapped. -/
theorem test_retard_moves_and_drops :
    (let sch := newSchedule 0 20000 300 200 320
    sch.retardPulse 6000 900 (newPulse 0 20000 300 320 1) = ⟨1, 900, 1800, 10000, .pending⟩ ∧
      (sch.retardPulse 6000 900 (newPulse 0 20000 300 320 4)).status = .dropped ∧
      (sch.retardPulse 6000 900 (newPulse 0 20000 300 320 10)).status = .dropped) := by decide +kernel

/-- 08, "energy counting". -/
theorem test_energy_of_a_millisecond :
    energyPlus 5 750 1200 = 900000 ∧ energyMinus 5 750 (-400) = 300000 ∧ energyPlus 5 750 3 = 0 := by decide +kernel
theorem test_first_kwh :
    ({ Energy.reset with rectPlus := 3600520000 }.credit).credited = 1 ∧
      ({ Energy.reset with rectPlus := 3600520000 }.credit).pulses = 1 := by decide +kernel

/-- R213: the flags byte of an entry with two details, eighth 5, UNSYNC set. -/
theorem test_entry_flags_byte : Stamp.flagsByte ⟨0, 5, true, false⟩ 2 = 85 := by decide +kernel

/-- 4.1: item numbers. -/
theorem test_item_numbers : ItemId.all.map ItemId.number = List.range 14 := by decide +kernel

/-- 9.4: 68 alarms. -/
theorem test_alarm_count : AlarmFlags.clear.toList.length = 68 := by decide +kernel

/-! ### The statements' hypotheses are met: 01 and 02 -/

theorem test_meets_O3 :
    ((inputs (.scaled 2001 2)).conversions.get .vab = .scaled 2001 2 ∧ (1000 : Int) * (2 : Nat) ≤ 2001 ∧
      (2001 : Int) < (1000 + 1) * (2 : Nat) ∧ Channel.vab.lower ≤ 1000 ∧ 1000 ≤ Channel.vab.upper ∧
      Channel.vab.upper < 1001 ∧ (-1001 : Int) < Channel.vab.lower ∧ Channel.vab.lower < 0 ∧
      (-1 : Int) < Channel.vbus.lower ∧ Channel.vbus.lower = 0) ∧
    ((inputs .spanLow).conversions.get .vbus = .spanLow ∧ (inputs .spanLow).conversions.get .vab = .spanLow ∧
      (inputs .spanHigh).conversions.get .ire = .spanHigh) ∧
    (State.reset.time.begun = true ∧ (atTime 6 6 0 State.reset).time.begun = false) ∧
    (after (.sampleInstant (inputs .spanHigh)) (atTime 6 6 0 State.reset)).time.eighth = 7 ∧
    (after (.sampleInstant (inputs .spanHigh)) State.reset).time.eighth ≠ 7 := by decide +kernel

/-- R1: at an eighth 7 the means are formed after the samples, and the blocks take them in the operand's order: a TCk
whose settle a low busbar aborts at that instant opens (R103). -/
theorem test_meets_O3_blocks :
    (let s := bound (putFeeder .f1 { feederIn (.lineTest .settling) with settleTimer := some 80 } (atTime 6 6 0
      State.reset))
    let x := { inputs (.scaled 0 1) with order := [.settleWatch .f1, .trackVab] }
    (s.plant.feeder .f1).state = .lineTest .settling ∧ (after (.sampleInstant x) s).time.eighth = 7 ∧
      ((after (.sampleInstant x) s).plant.feeder .f1).state = .lineTest .tcOpening ∧
      (after (.sampleInstant x) (atTime 5 5 0 s)).time.eighth ≠ 7 ∧
      ((after (.sampleInstant x) (atTime 5 5 0 s)).plant.feeder .f1).state = .lineTest .settling) := by decide +kernel

theorem test_channels_at_their_limits :
    Channel.vab.present (.scaled 2001 2) = (1000, false) ∧ Channel.vab.present (.scaled 2002 2) = (1001 - 1, true) ∧
      Channel.vab.present (.scaled (-2001) 2) = (-1000, true) ∧ Channel.vbus.present (.scaled (-1) 2) = (0, false) ∧
      Channel.vbus.present .spanLow = (0, false) ∧ Channel.ire.present .spanLow = (-8000, true) := by decide +kernel

def inFallback (run : Nat) : State :=
  { State.reset with time := { State.reset.time with source := .fallback, crystalRun := run } }
theorem test_meets_O4 :
    State.reset.time.source = .crystal ∧ (inFallback 800).time.source = .fallback ∧
      800 ≤ (inFallback 800).time.crystalRun ∧ (after .crystalReturn (inFallback 799)).time.source = .fallback ∧
      (after .crystalReturn (inFallback 800)).time.source = .crystal := by decide +kernel

/-- R9, log 4: an expiry due at the next instant begins it where its samples are not yet presented; a stopped timer, one
due later, and one due after an instant that has begun do nothing. -/
theorem test_meets_O4_expiries :
    (let s (x : Option Nat) := putFeeder .f1 { feederIn .inService with attempts := 2, serviceTimer := x }
      (atTime 79 6 9 State.reset)
    let begun (x : Option Nat) := { s x with time := { (s x).time with begun := true } }
    let t := after (.serviceTimerExpiry .f1)
    (s (some 80)).time.begun = false ∧ 80 = (s (some 80)).time.tick + 1 ∧ (s (some 81)).time.tick + 1 < 81 ∧
      (begun (some 80)).time.begun = true ∧
      ((t (s (some 80))).plant.feeder .f1).attempts = 0 ∧ (t (s (some 80))).time.eighth = 7 ∧
      (t (s (some 80))).time.begun = true ∧ ((t (begun (some 80))).plant.feeder .f1).attempts = 2 ∧
      ((t (s none)).plant.feeder .f1).attempts = 2 ∧ ((t (s (some 81))).plant.feeder .f1).attempts = 2) := by
  decide +kernel

/-- Sample n − 1 of VAB was −37 V at 30 375 µs; the last crossing as given. -/
def beforeCrossing (last : Nat) : Plant :=
  { State.reset.plant with
    tracker := { Tracker.reset with previous := some (-37, 30375), lastCrossing := some last, run := 7 } }
def vabAt (v : Int) : Env :=
  { State.reset.env with front := { FrontEnd.reset with latest := { PerChannel.all 0 with vab := v } } }
theorem test_meets_O5 :
    ((beforeCrossing 12239).tracker.previous = some (-37, 30375) ∧ (-37 : Int) < 0 ∧ 0 ≤ (vabAt 62).front.latest.vab ∧
      0 ≤ (vabAt 0).front.latest.vab ∧ (beforeCrossing 12239).tracker.lastCrossing = some 12239) ∧
    (30421 - 12239 = 18182 ∧ 30421 - 8199 = 22222 ∧ 30421 - 12240 < 18182 ∧ 22222 < 30421 - 8198) ∧
    ((beforeCrossing 12239).trackVab (vabAt 62)).tracker.locked = true ∧
    ((beforeCrossing 12240).trackVab (vabAt 62)).tracker.run = 0 ∧
    State.reset.plant.tracker.noCrossing ≤ (atTime 240 0 30 State.reset).time.tick ∧
    (atTime 238 0 30 State.reset).time.tick + 1 < State.reset.plant.tracker.noCrossing := by decide +kernel

def inLock (last : Nat) : Plant :=
  { beforeCrossing last with tracker := { (beforeCrossing last).tracker with run := 8, locked := true } }
theorem test_meets_O5_entries :
    (let first : Plant :=
      { State.reset.plant with tracker := { Tracker.reset with previous := some (-37, 30375) } }
    (inLock 8198).tracker.locked = true ∧ (beforeCrossing 12239).tracker.locked = false ∧
      first.tracker.lastCrossing = none ∧ (first.trackVab (vabAt 62)).tracker.lastCrossing = some 30421 ∧
      (first.trackVab (vabAt 62)).tracker.run = 0 ∧
      ((inLock 8198).trackVab (vabAt 62)).unit.journal.getLast?.map Entry.details = some [1, 22223] ∧
      ((beforeCrossing 12239).trackVab (vabAt 62)).unit.journal.getLast?.map Entry.kind = some .syncLocked ∧
      State.reset.plant.tracker.previous = none ∧ (State.reset.plant.trackVab (vabAt (-5))).tracker.peak = 5 ∧
      ((beforeCrossing 0).trackVab (vabAt (-1))).tracker.previous = some (-1, 0) ∧
      (after .noCrossingExpiry { atTime 240 0 30 State.reset with plant := inLock 0 }).plant.unit.journal.getLast?.map
        Entry.details = some [2, 0]) := by decide +kernel

/-- A feeder whose last sample is `new`, and every one before it `old`. -/
def ramp (old new : Int) (s : State) : Env :=
  { s.env with front := { FrontEnd.reset with history := Six.all (List.replicate 15 old ++ [new]) } }
def armed : Discriminator := { Discriminator.reset with state := .armed }

theorem test_meets_O6 :
    (lastSampleOf (ramp 0 4000 State.reset) .f2).i = 4000 ∧ (State.reset.store.values .f2).imax = 4000 ∧
      (State.reset.store.values .f2).nmax ≤ ({ armed with instant := 1 }).instant + 1 ∧
      armed.instant + 1 < (State.reset.store.values .f2).nmax ∧
      (armed.sample (ramp 0 4000 State.reset) .f2).2 = none ∧
      (lastSampleOf (ramp 0 3999 State.reset) .f2).i < 4000 ∧ Discriminator.reset.state ≠ .armed ∧
      ({ armed with instant := 1 }.sample (ramp 0 4000 State.reset) .f2).1.state = .tripped := by decide +kernel

/-- R6, R26: sixteen values, of which the ninth newest is sample n − 8. -/
theorem test_meets_O6_history :
    (ramp 600 628 State.reset).front.history.get .f1 =
      List.replicate 7 600 ++ 600 :: (List.replicate 7 600 ++ [628]) ∧ (List.replicate 7 (600 : Int)).length = 7 ∧
    (let h : List Int := List.replicate 7 0 ++ [5, 6, 6, 6, 6, 6, 6, 6, 40]
    (lastSampleOf { State.reset.env with front := { FrontEnd.reset with history := Six.all h } } .f3).d = 35) := by decide +kernel

def withTmin0 (s : State) : State :=
  { bound s with store := { (bound s).store with sets := (bound s).store.sets.set 5 ⟨.valid, some { set5 with tmin := 0 }⟩ } }
theorem test_meets_O7 :
    (armed.state = .armed ∧ armed.event = none ∧ (lastSampleOf (ramp 600 628 (bound State.reset)) .f1).i < 6000 ∧
      ((bound State.reset).store.values .f1).imax = 6000) ∧
    (0 < ({ armed with blocking := 1 }).blocking ∧ (State.reset.store.values .f2).riseEnabled = false ∧
      (lastSampleOf (ramp 600 614 (bound State.reset)) .f1).d < 15) ∧
    ((lastSampleOf (ramp 600 615 (bound State.reset)) .f1).d = 15 ∧
      ((bound State.reset).store.values .f1).drise = 15 ∧ 2 + 1 < ((bound State.reset).store.values .f1).nstart) ∧
    (((bound State.reset).store.values .f1).nstart ≤ startedAt105.startRun + 1 ∧ 0 < startedAt105.startRun ∧
      startedAt105.startBase.isSome ∧ armed.startRun = 0 ∧ armed.startBase = none) ∧
    (((withTmin0 State.reset).store.values .f1).tmin = 0 ∧ (1500 : Int) ≤ 2100 - 600 ∧
      (startedAt105.sample (ramp 2072 2100 (withTmin0 State.reset)) .f1).1.state = .tripped) ∧
    (¬ ((1500 : Int) ≤ 628 - 600 ∧ (16 : Nat) = 0) ∧ ¬ ((28 : Int) < 8 ∧ (16 : Nat) ≤ 1) ∧
      0 < ((bound State.reset).store.values .f1).tmax ∧ 0 < ((bound State.reset).store.values .f1).nend ∧
      (startedAt105.sample (ramp 600 628 (bound State.reset)) .f1).1.event =
        some ⟨600, 1, 0, 8, 16, 1500, 16, 400⟩) := by decide +kernel

def rising (age endCount : Nat) : RiseEvent := ⟨600, age, endCount, 8, 16, 1500, 16, 400⟩
theorem test_meets_O8 :
    (let d (age n : Nat) : Discriminator := { armed with event := some (rising age n) }
    let at' (old new : Int) := ramp old new (bound State.reset)
    (d 368 0).state = .armed ∧ (d 368 0).event = some (rising 368 0) ∧ (lastSampleOf (at' 2068 2100) .f1).i < 6000 ∧
      ((rising 16 0).deltaI : Int) ≤ (lastSampleOf (at' 2068 2100) .f1).i - (rising 16 0).ib ∧
      (rising 16 0).tmin ≤ (rising 16 0).age ∧
      (lastSampleOf (at' 2092 2099) .f1).d < (rising 17 15).dfall ∧ (rising 17 15).nend ≤ 15 + 1 ∧
      14 + 1 < (rising 400 14).nend ∧ (rising 400 14).age = (rising 400 14).tmax ∧
      (rising 399 14).age ≠ (rising 399 14).tmax ∧
      ((d 16 0).sample (at' 2068 2100) .f1).1.state = .tripped ∧
      ((d 17 15).sample (at' 2092 2099) .f1).1.outcome = .ended ∧
      ((d 400 14).sample (at' 2092 2099) .f1).1.outcome = .expired ∧
      ((d 399 14).sample (at' 2092 2099) .f1).1.event = some (rising 400 15)) := by decide +kernel

theorem test_meets_O9 :
    (let e (mean : Int) := (steady mean (bound State.reset)).env
    let p (θ : Int) (x : DiscState) := (putDisc .f1 { armed with theta := θ, state := x } State.reset).plant
    let alarmAt (θ mean : Int) := decide ((1600 : Int) * 1600 ≤ thermalStep 12 mean θ)
    alarmAt 0 0 = ((p 0 .armed).disc .f1).alarm ∧ alarmAt 3240000 1800 ≠ ((p 3240000 .armed).disc .f1).alarm ∧
      alarmAt 3240000 1800 = true ∧ ((p 3240000 .armed).disc .f1).alarm = false ∧
      (1800 : Int) * 1800 ≤ thermalStep 12 1800 3240000 ∧ ((p 3240000 .disarmed).disc .f1).state ≠ .armed ∧
      (((p 3240000 .armed).thermalEvent (e 1800) .f1).2).isSome ∧
      ((p 3240000 .disarmed).thermalEvent (e 1800) .f1).2 = none ∧
      (((p 2560000 .disarmed).thermalEvent (e 1600) .f1).1.disc .f1).alarm = true ∧
      (((p 2559999 .disarmed).thermalEvent (e 1599) .f1).1.disc .f1).alarm = false ∧
      (0 : Int) * 0 < 1002929 ∧ (0 : Int) ≤ 1000 * 1000 - 1000000 ∧ (1000 : Int) * 1000 - 1000000 < 2 ^ 10) := by
  decide +kernel

theorem test_meets_O10 :
    (State.reset.plant.disc .f1).state = .disarmed ∧ Position.unknown ≠ .closed ∧ armed.state ≠ .disarmed ∧
      ((putDisc .f1 armed State.reset).plant.disc .f1).state = .armed ∧
      (((putDisc .f1 armed State.reset).plant.requestSnapshot State.reset.env .f1 .backup).1.disc .f1).state = .tripped ∧
      ((State.reset.plant.presentBreaker (bound State.reset).env .f1 .unknown .closed).disc .f1).blocking = 400 := by
  decide +kernel

theorem test_meets_O11 :
    State.reset.link.takesAtOnce = true ∧ (head false true).pins.engKey = true ∧ (head true false).pins.engKey = false ∧
      (1 : Byte).toNat = FeederId.number .f1 ∧ (6 : Byte).toNat = FeederId.number .f6 ∧ (0 : Byte).toNat < 1 ∧
      6 < (7 : Byte).toNat ∧
      (after (.clearFeederCounters (head false true) 7) State.reset).link.slot = some ⟨0x9C, 9, [3]⟩ := by decide +kernel

/-! ### 03 -/

theorem test_meets_O12 :
    State.reset.link.takesAtOnce = true ∧ (head true false).pins.engKey = false ∧ 16 ≤ (16 : Byte).toNat ∧
      (15 : Byte).toNat = (15 : SetId).val ∧ (0 : Byte).toNat = (0 : SetId).val ∧
      { set5 with imax := 99 }.firstFailing = some 1 ∧ { set5 with check := 46029 }.firstFailing = some 22 ∧
      { set5 with tdead := 499 }.firstFailing = some 21 ∧ { set5 with attempts := 4, tdead := 499 }.firstFailing = some 20 ∧
      { set5 with tmin := 799, tmax := 799 }.firstFailing = some 9 ∧ set5.firstFailing = none ∧
      (after (.writeSet (head false true) 15 set5) State.reset).store.write = some ⟨.set 15 set5, 160⟩ := by
  decide +kernel

/-- A write is programmed with its timer due at tick 160. -/
def writing (job : WriteJob) : State :=
  { atTime 160 0 20 (bound State.reset) with
    store := { (bound State.reset).store with write := some ⟨job, 160⟩ }
    link := { Link.reset 0 with executing := some ⟨0x10, 9⟩ } }
theorem test_meets_O13 :
    (let s := writing (.set 5 set5)
    s.store.write = some ⟨.set 5 set5, 160⟩ ∧ 160 ≤ s.time.tick ∧ s.link.executing = some ⟨0x10, 9⟩ ∧
      s.store.entryOf .f1 = some 5 ∧ s.store.entryOf .f2 ≠ some 5 ∧ (4 : SetId) ≠ 5 ∧
      (set5.toList.map BitVec.toNat).sum % 65536 = 65535 ∧ { set5 with tdead := 5001 } ≠ set5 ∧
      ({ set5 with check := 0 }.toList.map BitVec.toNat).sum % 65536 ≠ 65535 ∧
      (after (.setWriteCompletion set5) s).link.slot = some ⟨0x90, 9, [0, 5]⟩ ∧
      (after (.setWriteCompletion { set5 with tdead := 5001 }) s).link.slot = some ⟨0x90, 9, [9, 5]⟩) := by
  decide +kernel

theorem test_meets_O14 :
    (let s := writing (.station station)
    State.reset.link.takesAtOnce = true ∧ (head true false).pins.engKey = false ∧
      { station with alphaMax := 599 }.firstFailing = some 3 ∧ station.firstFailing = none ∧
      { station with offset := 3600 }.firstFailing = some 1 ∧ { station with icreep := 0 }.firstFailing = some 27 ∧
      { station with check := 50544 }.firstFailing = some 28 ∧
      s.store.write = some ⟨.station station, 160⟩ ∧ 160 ≤ s.time.tick ∧ s.link.executing.isSome ∧
      (station.toList.map BitVec.toNat).sum % 65536 = 65535 ∧ { station with th := 11 } ≠ station ∧
      ({ station with th := 11 }.toList.map BitVec.toNat).sum % 65536 ≠ 65535 ∧
      (putRect { Rectifier.reset 750 with state := .syncing } s).plant.rect.state.running = true ∧
      (after (.stationRecordWriteCompletion { station with th := 11 })
        (putRect { Rectifier.reset 750 with state := .syncing } s)).plant.rect.stopCause = .settings) := by
  decide +kernel

theorem test_meets_O15 :
    (let s := writing (.mapEntry .f1 .unknown (some 5))
    State.reset.link.takesAtOnce = true ∧ (head true false).pins.engKey = false ∧ (0 : Byte).toNat < 1 ∧
      6 < (7 : Byte).toNat ∧ 3 < (4 : Byte).toNat ∧ (16 ≤ (16 : Byte).toNat ∧ (254 : Byte).toNat < 255) ∧
      (1 : Byte).toNat = FeederId.number .f1 ∧ (3 : Byte).toNat = FeedState.code .unknown ∧
      (15 : Byte).toNat < 16 ∧ (255 : Byte).toNat = 255 ∧
      s.store.write = some ⟨.mapEntry .f1 .unknown (some 5), 160⟩ ∧ 160 ≤ s.time.tick ∧ s.link.executing.isSome ∧
      some (4 : SetId) ≠ some 5 ∧
      (after (.mapEntryWriteCompletion (some 5)) s).link.slot = some ⟨0x90, 9, [0, 3, 5]⟩ ∧
      (after (.mapEntryWriteCompletion (some 4)) s).link.slot = some ⟨0x90, 9, [9]⟩) := by decide +kernel

def visiting (position : Fin 17) : State :=
  { atTime 80 0 10 (bound State.reset) with store := { (bound State.reset).store with scan := position } }
theorem test_meets_O16 :
    (bound State.reset).link.takesAtOnce = true ∧ (head true false).pins.engKey = false ∧ 16 ≤ (16 : Byte).toNat ∧
      (5 : Byte).toNat = (5 : SetId).val ∧ 0 < (bound State.reset).store.inUse[(5 : SetId)] ∧
      (15 : Byte).toNat = (15 : SetId).val ∧ (bound State.reset).store.inUse[(15 : SetId)] = 0 ∧
      (visiting 5).store.scanDue ≤ (visiting 5).time.tick ∧ (5 : SetId).val = (visiting 5).store.scan.val ∧
      (visiting 5).store.sets[(5 : SetId)] = ⟨.valid, some set5⟩ ∧ (0 : SetId).val = (visiting 0).store.scan.val ∧
      ((visiting 0).store.sets[(0 : SetId)]).state ≠ .valid ∧ (visiting 16).store.scan.val = 16 ∧
      (visiting 16).store.station = ⟨.valid, some station⟩ ∧ (visiting 15).store.scan.val < 16 ∧
      ((after (.scanVisit (some (.set 5 { set5 with ts := 501 }))) (visiting 5)).store.sets[(5 : SetId)]).state =
        .invalid ∧
      (after (.scanVisit none) (visiting 16)).store.scan = 0 := by decide +kernel

/-- R57: a station record that is not VALID stays, whatever the visit finds. -/
theorem test_meets_O16_station :
    (let s := { visiting 16 with store := { (visiting 16).store with station := ⟨.invalid, some station⟩ } }
    s.store.scan.val = 16 ∧ s.store.station.state ≠ .valid ∧ s.store.scanDue ≤ s.time.tick ∧
      (after (.scanVisit (some (.station { station with tf := 51 }))) s).store.station = s.store.station ∧
      ((after (.scanVisit (some (.station { station with tf := 51 }))) (visiting 16)).store.station).state =
        .invalid) := by decide +kernel

/-- R124: a visit that makes the station record INVALID stops a running rectifier and opens its ACB. -/
theorem test_meets_O16_rectifier :
    (let s (state : RectState) (acb : ItemState) :=
      putItem .acb (itemIn acb .closed) (putRect { Rectifier.reset 750 with state := state } (visiting 16))
    let t (x : Option FoundRecord) (state : RectState) (acb : ItemState) := after (.scanVisit x) (s state acb)
    let bad : Option FoundRecord := some (.station { station with tf := 51 })
    (s .blocked .closed).store.scan.val = 16 ∧ (s .blocked .closed).store.station = ⟨.valid, some station⟩ ∧
      ((foundStation none station).toList.map BitVec.toNat).sum % 65536 = 65535 ∧
      ((foundStation bad station).toList.map BitVec.toNat).sum % 65536 ≠ 65535 ∧
      (t none .blocked .closed).plant.rect.state = .blocked ∧ (t bad .tripped .closed).plant.rect.state = .tripped ∧
      (t bad .blocked .closed).plant.rect.stopCause = .settings ∧
      ((t bad .blocked .closed).plant.item .acb).state = .opening ∧
      (t bad .syncing .opened).plant.rect.state = .stopped ∧
      ((t bad .syncing .opened).plant.item .acb).state = .opened) := by decide +kernel

theorem test_meets_O17 :
    State.reset.link.takesAtOnce = true ∧ (0 : Byte).toNat < 1 ∧ 6 < (7 : Byte).toNat ∧
      (1 : Byte).toNat = FeederId.number .f1 ∧ FeedState.code .unknown = (if 3 < (4 : Byte).toNat then 3 else 4) ∧
      FeedState.code .extended = (if 3 < (2 : Byte).toNat then 3 else 2) ∧
      State.reset.store.feed.get .f1 = .unknown ∧ State.reset.store.feed.get .f1 ≠ .extended ∧
      (after (.setFeedState (head false false) 1 4) State.reset).link.slot = some ⟨0x97, 9, [0, 1, 3]⟩ := by
  decide +kernel

/-- The bound state with a command waiting. -/
def waiting (s : State) : State := { s with pending := [.sampleInstant (inputs .spanLow)] }

theorem test_meets_O18 : (waiting (bound State.reset)).bindingLaw ∧ ∃ t, step (waiting (bound State.reset)) = .next t := by
  refine ⟨⟨fun k => ?_, ?_⟩, _, rfl⟩
  · cases k <;> decide +kernel
  · decide +kernel

def usedTwo : State := putFeeder .f1 { feederIn .lockedOut with attempts := 2, lockout := some .attemptsExhausted } (bound State.reset)
theorem test_meets_O19 :
    ((waiting usedTwo).bindingLaw ∧ (waiting usedTwo).attemptsLaw ∧ ∃ t, step (waiting usedTwo) = .next t) ∧
    (writing (.mapEntry .f1 .unknown none)).store.binding.get .f1 = ⟨.unknown, some 5, .none⟩ ∧
    State.reset.store.binding.get .f1 ≠ (bound State.reset).store.resolved .f1 ∧
    { State.reset with store := { (bound State.reset).store with binding := State.reset.store.binding } }.store.binding.get
      .f1 ≠ (bound State.reset).store.resolved .f1 ∧
    ((bound State.reset).store.binding.get .f1).set = some 5 := by
  refine ⟨⟨⟨fun k => ?_, ?_⟩, fun k => ?_, _, rfl⟩, ?_⟩
  · cases k <;> decide +kernel
  · decide +kernel
  · cases k <;> decide +kernel
  · decide +kernel

/-! ### 04 -/

def opening (waiting : List Commander) : Item :=
  { itemIn .opening .closed with operation := some ⟨.opening, 0, 480, waiting, false⟩, openCoil := some 320 }

theorem test_meets_O20 :
    (let failed := itemIn .failedClose .opened
    Commander.mayCommand (.sequencer .f1) .opening (.fb .f1) = true ∧
      Commander.mayCommand (.sequencer .f2) .opening (.fb .f1) = false ∧
      Commander.mayCommand .breakerFailure .opening .acb = true ∧
      Commander.mayCommand .breakerFailure .closing .acb = false ∧
      (opening []).state = .opening ∧ (opening []).operation.isSome ∧ Item.reset.state ≠ .opening ∧
      (itemIn .opened .opened).state = .opened ∧ (failed.state = .failedClose ∧ failed.sensed = .opened) ∧
      (itemIn .closed .closed).state = .closed ∧
      (Item.reset.state ≠ .opened ∧ Item.reset.state ≠ .closed ∧
        (Item.reset.state = .failedClose → Item.reset.sensed ≠ .opened)) ∧
      ((itemIn .failedClose .closed).state = .failedClose → (itemIn .failedClose .closed).sensed ≠ .opened)) := by
  decide +kernel

theorem test_meets_O21 :
    (let it : Item := { itemIn .closed .closed with result := some .opened, run := 2 }
    (⟨true, true, false⟩ : LineLevels).pullDown = true ∧ (⟨true, true, false⟩ : LineLevels).pullUp = false ∧
      ¬ ((⟨false, false, true⟩ : LineLevels).pullDown = true ∧ (⟨false, false, true⟩ : LineLevels).pullUp = false) ∧
      (it.probeStep ⟨false, false, false⟩).newPosition = some .opened ∧
      (it.probeStep ⟨true, true, true⟩).newPosition = none ∧ (it.probeStep ⟨true, true, true⟩).run = 1 ∧
      (it.probeStep ⟨true, true, false⟩).run = 2) := by decide +kernel

theorem test_meets_O21_acceptance :
    Position.opened ≠ .unknown ∧
    (Item.accept (acceptanceOf .opening none .opened) .opened (opening [])).operation = none ∧
      (Item.accept (acceptanceOf .opening none .closed) .closed (opening [])).operation.isSome ∧
      (Item.accept (acceptanceOf .closed none .unsensed) .unsensed (itemIn .closed .closed)).state = .unsensed ∧
      (Item.accept (acceptanceOf .failedOpen none .opened) .opened (itemIn .failedOpen .closed)).state = .opened ∧
      (Item.accept (acceptanceOf .failedOpen none .closed) .closed (itemIn .failedOpen .closed)).state = .failedOpen := by
  decide +kernel

theorem test_meets_O21_entries :
    (let last (st : ItemState) (sensed : Position) (firm : Option Position) (r : Position) :=
      ((State.reset.plant.postAcceptance State.reset.env .re (acceptanceOf st firm r) sensed firm r).unit.journal.getLast?).map
        (fun y => (y.kind, y.details))
    last .closed .closed (some .closed) .unsensed = some (.itemUnsensed, [1]) ∧
      last .unknown .unknown none .opened = some (.itemPosition, [0, 0]) ∧
      last .failedOpen .closed (some .closed) .opened = some (.itemPosition, [0, 2]) ∧
      last .unsensed .unsensed (some .closed) .closed = some (.itemPosition, [1, 3]) ∧
      last .unsensed .unsensed none .opened = some (.itemPosition, [0, 3]) ∧
      last .unsensed .unsensed (some .closed) .opened = some (.itemDiscrepant, [1, 0]) ∧
      last .closed .closed (some .closed) .opened = some (.itemDiscrepant, [1, 0]) ∧
      State.reset.plant.postAcceptance State.reset.env .re (acceptanceOf .opening none .opened) .closed none .opened =
        State.reset.plant) := by decide +kernel

theorem test_meets_O21_handing_on :
    (let p := (putItem (.fb .f1) (opening [.sequencer .f1]) (putFeeder .f1 (feederIn .tripping) State.reset)).plant
    let found := (putItem (.tc .f2) { itemIn .opened .opened with firm := some .opened } State.reset).plant
    (∀ c ∈ [Commander.sequencer .f1], c.mayCommand .opening (.fb .f1) = true) ∧
      ((p.item (.fb .f1)).operation.isSome ∧ (p.item (.fb .f1)).state = .opening) ∧
      ((p.accept State.reset.env (.fb .f1) .opened).item (.fb .f1)).state = .opened ∧
      ((p.accept State.reset.env (.fb .f1) .opened).feeder .f1).state = .lockedOut ∧
      (∀ x, (found.feeder .f2).state ≠ .lineTest x) ∧ (found.feeder .f2).state ≠ .closing ∧
      (found.item (.tc .f2)).state = .opened ∧ (found.item (.tc .f2)).held = false ∧
      (found.item (.tc .f2)).operation = none ∧
      ((found.accept State.reset.env (.tc .f2) .closed).item (.tc .f2)).state = .opening) := by
  refine ⟨by decide +kernel, by decide +kernel, by decide +kernel, by decide +kernel, ?_, by decide +kernel⟩
  intro x h
  cases h

theorem test_meets_O22 :
    (let s := atTime 480 0 60 (putItem (.fb .f1) (opening []) State.reset)
    let done : Item := { opening [] with sensed := .opened }
    let closing : Item :=
      { itemIn .closing .opened with operation := some ⟨.closing, 0, 480, [.rectifier], false⟩, closeCoil := some 480 }
    (s.plant.item (.fb .f1)).openCoil = some 320 ∧ 320 ≤ s.time.tick ∧
      (opening []).sensed ≠ Direction.target .opening ∧ done.sensed = Direction.target .opening ∧
      (closing.openCoil = none ∧ closing.closeCoil = some 480 ∧ 480 ≤ s.time.tick) ∧
      (opening []).operation.map Operation.limit = some 480 ∧
      Commander.mayCommand (.sequencer .f1) .opening (.fb .f1) = true ∧
      Commander.mayCommand .rectifier .closing .acb = true ∧ ItemId.fb .f1 ≠ .acb ∧
      ((after (.limitTimerExpiry (.fb .f1)) s).plant.item (.fb .f1)).state = .failedOpen ∧
      ((after (.limitTimerExpiry (.fb .f1)) (putItem (.fb .f1) done s)).plant.item (.fb .f1)).state = .opened ∧
      ((after (.limitTimerExpiry .acb) (putItem .acb closing s)).plant.item .acb).state = .failedClose ∧
      ((after (.coilPulseEnd (.fb .f1)) s).plant.item (.fb .f1)).openCoil = none) := by decide +kernel

theorem test_meets_O22_at_the_target :
    (let done : Item := { opening [.sequencer .f1] with sensed := .opened }
    let s := atTime 480 0 60 (putItem (.fb .f1) done (putFeeder .f1 (feederIn .tripping) State.reset))
    (s.plant.item (.fb .f1)).operation = some ⟨.opening, 0, 480, [.sequencer .f1], false⟩ ∧
      (∀ c ∈ [Commander.sequencer .f1], c.mayCommand .opening (.fb .f1) = true) ∧
      (s.plant.item (.fb .f1)).sensed = Direction.target .opening ∧
      ((after (.coilPulseEnd (.fb .f1)) s).plant.item (.fb .f1)).state = .opened ∧
      ((after (.coilPulseEnd (.fb .f1)) s).plant.feeder .f1).state = .lockedOut) := by decide +kernel

theorem opening_lawful : Item.lawful (.fb .f1) (opening [.sequencer .f1]) := by
  refine ⟨⟨fun _ => ⟨_, rfl, rfl⟩, fun _ => rfl⟩, ⟨nofun, ?_⟩, ?_, fun _ => ⟨rfl, rfl⟩, nofun, nofun⟩
  · rintro ⟨op, h, hd⟩; cases h; cases hd
  · intro op c h hc; cases h; simp at hc; subst hc; decide

/-- R79, R180: an operation under way by the law of the switchgear fails and latches ITEM_FAIL. -/
theorem test_meets_O22_lawful :
    (let s := atTime 480 0 60 (putItem (.fb .f1) (opening [.sequencer .f1]) State.reset)
    (s.plant.item (.fb .f1)).lawful (.fb .f1) ∧
      (s.plant.item (.fb .f1)).operation = some ⟨.opening, 0, 480, [.sequencer .f1], false⟩ ∧ 480 ≤ s.time.tick ∧
      (∀ c ∈ [Commander.sequencer .f1], c.mayCommand .opening (.fb .f1) = true) ∧
      (s.plant.item (.fb .f1)).sensed ≠ Direction.target .opening ∧
      (after (.limitTimerExpiry (.fb .f1)) s).plant.unit.latched.itemFail.get (.fb .f1) = true) :=
  ⟨opening_lawful, by decide +kernel⟩

/-- R127: the failed close of the ACB stops a rectifier in SYNCING, and its stopping actions open the ACB again. -/
theorem test_meets_O22_acb :
    (let closing : Item :=
      { itemIn .closing .opened with operation := some ⟨.closing, 0, 480, [.rectifier], false⟩ }
    let s (state : RectState) := putItem .acb closing (putRect { Rectifier.reset 750 with state := state }
      (atTime 480 0 60 State.reset))
    let t (state : RectState) := after (.limitTimerExpiry .acb) (s state)
    ((s .syncing).plant.item .acb).operation = some ⟨.closing, 0, 480, [.rectifier], false⟩ ∧
      480 ≤ (s .syncing).time.tick ∧ (∀ c ∈ [Commander.rectifier], c.mayCommand .closing .acb = true) ∧
      ((s .syncing).plant.item .acb).sensed ≠ Direction.target .closing ∧ (s .syncing).plant.rect.state = .syncing ∧
      (t .syncing).plant.rect.stopCause = .acbFail ∧ ((t .syncing).plant.item .acb).state = .opening ∧
      (t .stopped).plant.rect.stopCause = .reset ∧ ((t .stopped).plant.item .acb).state = .failedClose) := by
  decide +kernel

theorem test_meets_O23 :
    (waiting (putItem (.fb .f1) (opening [.sequencer .f1]) State.reset)).itemLaw ∧
      ∃ t, step (waiting (putItem (.fb .f1) (opening [.sequencer .f1]) State.reset)) = .next t := by
  refine ⟨fun i => ?_, _, rfl⟩
  show Item.lawful i (((State.reset.plant.setItem (.fb .f1) (opening [.sequencer .f1])).items).get i)
  rw [Plant.setItem, PerItem.get_set]
  split
  · subst i
    exact opening_lawful
  · show Item.lawful i ((PerItem.all Item.reset).get i)
    rw [PerItem.get_all]
    refine ⟨⟨nofun, ?_⟩, ⟨nofun, ?_⟩, nofun, nofun, nofun, nofun⟩ <;> rintro ⟨op, h, -⟩ <;> cases h

/-! ### 05 -/

theorem test_meets_O24 :
    (let snap (c : TripCause) : Snapshot := ⟨c, Stamp.powerOn, 4000, 0, none, 0, none⟩
    let p := (putFeeder .f1 (feederIn .inService) State.reset).plant
    (snap .railSubstitute).cause = .railSubstitute ∧
      ¬ ((snap .backup).cause = .instant ∨ (snap .backup).cause = .rise ∨ (snap .backup).cause = .thermal ∨
        (snap .backup).cause = .railSubstitute) ∧
      ((p.tripInService State.reset.env .f1 (snap .instant)).feeder .f1).reclose = some true ∧
      ((p.tripInService State.reset.env .f1 (snap .backup)).feeder .f1).exit = some (.lockedOut .backup) ∧
      (p.tripInService State.reset.env .f1 (snap .instant)).pendingOpen = [.f1]) := by decide +kernel

/-- R93, R141: at the trip that retards, FEEDER_TRIP stands before RECT_STATE (log 43). -/
theorem test_meets_O24_retards :
    (let snap : Snapshot := ⟨.rise, Stamp.powerOn, 2100, 32, none, 0, none⟩
    let s := putRect { Rectifier.reset 750 with state := .regulating } (putFeeder .f1 (feederIn .inService)
      (bound State.reset))
    let q := s.plant.tripInService s.env .f1 snap
    s.plant.pendingOpen = [] ∧ s.env.store.stationFields.isSome ∧ s.plant.rect.state = .regulating ∧
      q.rect.state = .retard ∧ (q.unit.journal.drop (q.unit.journal.length - 2)).map Entry.kind =
        [.feederTrip, .rectState]) := by decide +kernel

theorem test_meets_O24_outcomes :
    (let served (used : Nat) := putFeeder .f1 { feederIn .inService with attempts := used } (bound State.reset)
    let tripping (exit : Option ExitTarget) :=
      { putRect { Rectifier.reset 750 with state := .retard } (putFeeder .f1 { feederIn .tripping with exit := exit }
        (bound State.reset)) with plant := { (putRect { Rectifier.reset 750 with state := .retard } (putFeeder .f1
        { feederIn .tripping with exit := exit } (bound State.reset))).plant with pendingOpen := [.f1] } }
    let done (exit : Option ExitTarget) := (tripping exit).plant.trippingCompleted (tripping exit).env .f1
    let failed := (putFeeder .f2 (feederIn .inService) (tripping none)).plant.breakerFailure (tripping none).env .f1
    ((served 1).plant.feeder .f1).attempts < ((served 1).store.values .f1).attempts ∧
      ((served 2).store.values .f1).attempts ≤ ((served 2).plant.feeder .f1).attempts ∧
      (((served 1).plant.directRelease (served 1).env .f1).feeder .f1).state = .deadTime .waiting ∧
      (((served 2).plant.directRelease (served 2).env .f1).feeder .f1).lockout = some .attemptsExhausted ∧
      (tripping none).plant.pendingOpen = [.f1] ∧ (tripping none).plant.rect.state = .retard ∧
      ((done none).feeder .f1).state = .deadTime .waiting ∧ (done none).rect.state = .regulating ∧
      ((done (some .out)).feeder .f1).state = .out ∧
      ((done (some (.lockedOut .backup))).feeder .f1).lockout = some .backup ∧
      (failed.feeder .f1).lockout = some .breakerFailure ∧ failed.rect.stopCause = .breakerFailure ∧
      (failed.item .acb).state = .opening ∧ (failed.feeder .f2).lastCause = some .backup ∧
      failed.pendingOpen = [.f2]) := by decide +kernel

/-- R96, R98: FEEDER_OPENED at exit target OUT, and BREAKER_FAILURE with the feeder and the number of others in
IN_SERVICE, the worked example's three (05, "breaker failure under load"). -/
theorem test_meets_O24_entries :
    (let s := putFeeder .f1 { feederIn .tripping with exit := some .out } (bound State.reset)
    let q := s.plant.trippingCompleted s.env .f1
    let served (k : FeederId) (s : State) := putFeeder k (feederIn .inService) s
    let s2 := served .f1 (served .f4 (served .f6 (putFeeder .f5 (feederIn (.deadTime .waiting))
      (putFeeder .f2 (feederIn .tripping) (bound State.reset)))))
    let q2 := s2.plant.breakerFailure s2.env .f2
    (s.plant.feeder .f1).exit = some .out ∧ (s.plant.feeder .f1).state.code = FeederState.tripping.code ∧
      ⟨s.plant.unit.nextIndex, s.time.stamp, .feeder .f1, .feederOpened, [(FeederState.tripping.code : Int)]⟩ ∈
        q.unit.journal ∧
      ⟨s2.plant.unit.nextIndex, s2.time.stamp, .feeder .f2, .breakerFailure, [2, 3]⟩ ∈ q2.unit.journal ∧
      q2.pendingOpen = [.f1, .f4, .f6] ∧ (q2.feeder .f5).state = .deadTime .waiting) := by decide +kernel

/-- R94: a discriminator trip out of service locks out, is passed over in TRIPPING, and ends a line test (log 24). -/
theorem test_meets_O24_out_of_service :
    (let snap : Snapshot := ⟨.rise, Stamp.powerOn, 2100, 32, none, 0, none⟩
    let p (st : FeederState) (tc : ItemState) :=
      (putItem (.tc .f1) (itemIn tc .closed) (putFeeder .f1 (feederIn st) (bound State.reset))).plant
    let q (st : FeederState) (tc : ItemState) := (p st tc).discTrip (bound State.reset).env .f1 snap
    ((p .lockedOut .opened).feeder .f1).state ≠ .inService ∧ ((p .lockedOut .opened).feeder .f1).state ≠ .tripping ∧
      ((q .lockedOut .opened).feeder .f1).exit = some (.lockedOut .tripOutOfService) ∧
      ((q .lockedOut .opened).feeder .f1).reclose = some false ∧ (q .lockedOut .opened).pendingOpen = [.f1] ∧
      ((q .lockedOut .opened).item (.fb .f1)).state = .opening ∧
      (((p .tripping .opened).feeder .f1).state = .tripping ∧ q .tripping .opened = p .tripping .opened) ∧
      ((p .inService .opened).feeder .f1).state = .inService ∧
      ((q (.lineTest .settling) .closed).item (.tc .f1)).state = .opening ∧
      ((q (.lineTest .tcOpening) .opened).item (.tc .f1)).state = .opened ∧
      ((q .closing .closed).item (.tc .f1)).state = .closed) := by decide +kernel

/-- Feeder 1 in DEAD_TIME at the expiry of its timer, with its breaker and test contactor OPEN. -/
def deadTime (used : Nat) (theta : Int) (deferral : Option Millis) (vbus : Int) : State :=
  putDisc .f1 { Discriminator.reset with theta := theta }
    (putItem (.tc .f1) (itemIn .opened .opened)
      (putItem (.fb .f1) (itemIn .opened .opened)
        (putFeeder .f1
          { feederIn (.deadTime .waiting) with attempts := used, deadTimer := some 1000000, deferral := deferral }
          (atTime 1000000 0 125000 (steady vbus (bound State.reset))))))

theorem test_meets_O25 :
    (let s := deadTime 1 1439999 none 500
    (s.plant.feeder .f1).state = .deadTime .waiting ∧ (s.plant.feeder .f1).deadTimer = some 1000000 ∧
      1000000 ≤ s.time.tick ∧ (s.store.values .f1).attempts ≤ ((deadTime 2 0 none 500).plant.feeder .f1).attempts ∧
      (s.plant.feeder .f1).attempts < (s.store.values .f1).attempts ∧
      ((s.store.values .f1).ireclose : Int) * (s.store.values .f1).ireclose ≤
        ((deadTime 1 1440000 none 500).plant.disc .f1).theta ∧
      ¬ ((s.store.values .f1).ireclose : Int) * (s.store.values .f1).ireclose ≤ (s.plant.disc .f1).theta ∧
      120000 < (s.time.elapsed - 4999).toNat ∧ (s.time.elapsed - 5000).toNat ≤ 120000 ∧
      ((putItem (.tc .f1) Item.reset s).plant.item (.tc .f1)).state ≠ .opened ∧
      s.front.mean20 (.lineVoltage .f1) < (s.store.values .f1).vlive ∧
      (s.store.values .f1).vtest ≤ s.front.mean20 .vbus) := by decide +kernel

/-- R101 step 1 at Vlive, and step 2 just below Vlive and Vtest, at the limit of the deferral (R100). -/
theorem test_meets_O25_live_or_no_busbar :
    (let s (line bus : Int) (start : Option Millis) : State :=
      (let s := deadTime 1 0 start bus
      { s with front := { s.front with means :=
        { s.front.means with lineVoltage := Six.all (List.replicate 20 line) } } })
    let g (line bus : Int) (start : Option Millis) :=
      (after (.deadTimeExpiry .f1) (s line bus start)).plant.feeder .f1
    ((s 600 499 none).plant.feeder .f1).manual = false ∧
      ((s 600 499 none).store.values .f1).vlive ≤ (s 600 499 none).front.mean20 (.lineVoltage .f1) ∧
      (s 599 499 none).front.mean20 (.lineVoltage .f1) < ((s 599 499 none).store.values .f1).vlive ∧
      (s 599 499 none).front.mean20 .vbus < ((s 599 499 none).store.values .f1).vtest ∧
      (g 600 499 none).state = .closing ∧ (g 600 499 none).attempts = 2 ∧
      (g 600 499 none).lastTest.result = .passLive ∧ (g 600 499 none).lastTest.rline = some 65535 ∧
      (g 599 499 none).state = .deadTime .deferred ∧ (g 599 499 none).deferral = some 125000 ∧
      (g 599 499 none).attempts = 1 ∧ (g 599 499 none).lastTest.result = .noBusbar ∧
      (g 599 499 (some 5000)).state = .deadTime .deferred ∧
      (g 599 499 (some 4999)).lockout = some .deferralLimit ∧
      (g 599 500 none).state = .lineTest .tcClosing) := by decide +kernel

theorem test_reclose_check :
    ((after (.deadTimeExpiry .f1) (deadTime 2 0 none 500)).plant.feeder .f1).lockout = some .attemptsExhausted ∧
      ((after (.deadTimeExpiry .f1) (deadTime 1 1440000 (some 4999) 500)).plant.feeder .f1).lockout =
        some .deferralLimit ∧
      ((after (.deadTimeExpiry .f1) (deadTime 1 1440000 (some 5000) 500)).plant.feeder .f1).state =
        .deadTime .deferred ∧
      ((after (.deadTimeExpiry .f1) (deadTime 1 1439999 none 500)).plant.feeder .f1).state =
        .lineTest .tcClosing := by decide +kernel

/-- Feeder 1 at the end of its settle. -/
def settling (used : Nat) (manual : Bool) (line bus : Int) : State :=
  let s := putFeeder .f1
    { feederIn (.lineTest .settling) with attempts := used, manual := manual, settleTimer := some 4000 }
    (atTime 4000 0 500 (steady bus (bound State.reset)))
  { s with front := { s.front with means :=
    { s.front.means with lineVoltage := Six.all (List.replicate 20 line) } } }

theorem test_meets_O26 :
    (let s := settling 1 false 40 780
    (s.plant.feeder .f1).state = .lineTest .settling ∧ (s.plant.feeder .f1).settleTimer = some 4000 ∧
      4000 ≤ s.time.tick ∧ (s.plant.feeder .f1).manual = false ∧
      (s.plant.feeder .f1).attempts < (s.store.values .f1).attempts ∧
      ((settling 2 true 40 780).plant.feeder .f1).manual = true ∧
      (s.store.values .f1).attempts ≤ ((settling 2 false 40 780).plant.feeder .f1).attempts ∧
      ((after (.settleExpiry .f1) s).plant.feeder .f1).exit = some (.lockedOut .lineTestFail) ∧
      ((after (.settleExpiry .f1) s).plant.feeder .f1).lastTest.rline = some 13 ∧
      ((after (.settleExpiry .f1) (settling 0 false 40 780)).plant.feeder .f1).exit = some .deadTime ∧
      ((after (.settleExpiry .f1) (settling 0 false 600 780)).plant.feeder .f1).exit = some .closing ∧
      ((after (.settleExpiry .f1) (settling 2 false 600 780)).plant.feeder .f1).exit =
        some (.lockedOut .attemptsExhausted)) := by decide +kernel

/-- Feeder 1 in LINE_TEST with TCk opening, the elapsed count as given. -/
def tcOpening (elapsed : Nat) (target : ExitTarget) (start : Option Millis) (fb : ItemState) : State :=
  putItem (.tc .f1) (itemIn .opened .opened) (putItem (.fb .f1) (itemIn fb .opened)
    (putFeeder .f1 { feederIn (.lineTest .tcOpening) with exit := some target, deferral := start }
      (atTime 0 0 elapsed (bound State.reset))))
theorem test_meets_O26_outcomes :
    (let s := putFeeder .f1 (feederIn (.lineTest .tcClosing)) (bound State.reset)
    let g (elapsed : Nat) (target : ExitTarget) (start : Option Millis) (fb : ItemState) (o : CommandOutcome) :=
      ((tcOpening elapsed target start fb).plant.tcOpenOutcome (tcOpening elapsed target start fb).env .f1 o).feeder .f1
    (s.plant.feeder .f1).state = .lineTest .tcClosing ∧
      ((s.plant.tcCloseOutcome s.env .f1 .completed).feeder .f1).settleTimer = some 4000 ∧
      ((s.plant.tcCloseOutcome s.env .f1 .wrongState).feeder .f1).lockout = some .testEquipment ∧
      (g 0 .out none .opened .completed).state = .out ∧
      (g 0 (.lockedOut .frameFault) none .opened .completed).lockout = some .frameFault ∧
      (g 0 .deadTime none .opened .completed).deadTimer = some 40000 ∧
      (g 120000 .deadTimeDeferred (some 0) .opened .completed).state = .deadTime .deferred ∧
      (g 120001 .deadTimeDeferred (some 0) .opened .completed).lockout = some .deferralLimit ∧
      (g 7 .deadTimeDeferred none .opened .completed).deferral = some 7 ∧
      (g 0 .closing none .opened .completed).state = .closing ∧
      (g 0 .closing none .unsensed .completed).lockout = some .testEquipment ∧
      (g 0 .closing none .opened .failed).lockout = some .testEquipment ∧
      (g 0 (.lockedOut .backup) none .opened .failed).lockout = some .backup) := by decide +kernel

/-- R103: a mean of VBUS below Vtest aborts the settle, and a TCk that left CLOSED locks the feeder out. -/
theorem test_meets_O26_aborts :
    (let q (manual : Bool) (bus : Int) :=
      (settling 1 manual 40 bus).plant.settleWatch (settling 1 manual 40 bus).env .f1
    let s := settling 1 false 40 780
    let lost (st : FeederState) (new : ItemState) (reason : ReportReason) :=
      (putFeeder .f1 (feederIn st) s).plant.tcReport s.env .f1 .closed new reason
    (s.plant.feeder .f1).state = .lineTest .settling ∧
      (settling 1 false 40 499).front.mean20 .vbus < ((settling 1 false 40 499).store.values .f1).vtest ∧
      ((settling 1 false 40 500).store.values .f1).vtest ≤ (settling 1 false 40 500).front.mean20 .vbus ∧
      ((q false 499).feeder .f1).exit = some .deadTimeDeferred ∧ ((q true 499).feeder .f1).exit = some .out ∧
      ((q false 499).feeder .f1).settleTimer = none ∧ ((q false 499).feeder .f1).lastTest.result = .noBusbar ∧
      ((q false 499).feeder .f1).lastTest.vb = some 499 ∧ ((q false 499).item (.tc .f1)).state = .opening ∧
      ((q false 500).feeder .f1).settleTimer = some 4000 ∧ ItemState.unsensed ≠ .closed ∧
      ((lost (.lineTest .tcClosing) .unsensed .unsensed).feeder .f1).exit = some (.lockedOut .testEquipment) ∧
      ((lost (.lineTest .settling) .opening .supervision).item (.tc .f1)).state = .opening ∧
      ((lost (.lineTest .settling) .opened .discrepancy).feeder .f1).state = .lineTest .tcOpening) := by
  decide +kernel

def lockedOut (breaker : ItemState) : State :=
  putItem (.fb .f1) (itemIn breaker .opened)
    (putFeeder .f1 { feederIn .lockedOut with attempts := 2, lockout := some .closeFail } (bound State.reset))
theorem test_meets_O27 :
    (let s := putFeeder .f1 { feederIn .inService with attempts := 2, serviceTimer := some 480000 }
      (atTime 480000 0 60000 (bound State.reset))
    (s.plant.feeder .f1).serviceTimer = some 480000 ∧ 480000 ≤ s.time.tick ∧
      ((after (.serviceTimerExpiry .f1) s).plant.feeder .f1).attempts = 0) ∧
    (lockedOut .opened).link.takesAtOnce = true ∧ (head false true).pins.remote = false ∧
    (head true false).pins.remote = true ∧ (0 : Byte).toNat < 1 ∧ 6 < (7 : Byte).toNat ∧
    (1 : Byte).toNat = FeederId.number .f1 ∧ ((lockedOut .opened).plant.feeder .f1).state = .lockedOut ∧
    (lockedOut .opened).plant.rail.frameFault = false ∧ ((lockedOut .closed).plant.item (.fb .f1)).state = .closed ∧
    ((lockedOut .unsensed).plant.item (.fb .f1)).state = .unsensed ∧
    (after (.resetLockout (head true false) 1) (lockedOut .closed)).link.slot = some ⟨0x9B, 9, [0, 1, 2]⟩ ∧
    (after (.resetLockout (head true false) 1) (lockedOut .unsensed)).link.slot = some ⟨0x9B, 9, [5]⟩ := by
  decide +kernel

def out (bus : Int) : State :=
  putItem (.tc .f1) (itemIn .opened .opened)
    (putItem (.fb .f1) (itemIn .opened .opened) (putFeeder .f1 (feederIn .out) (steady bus (bound State.reset))))
theorem test_meets_O28 :
    (out 500).link.takesAtOnce = true ∧ (head false true).pins.remote = false ∧ (head true false).pins.remote = true ∧
      (0 : Byte).toNat < 1 ∧ 6 < (7 : Byte).toNat ∧ (1 : Byte).toNat = FeederId.number .f1 ∧
      ((out 500).plant.feeder .f1).state = .out ∧ ((out 500).plant.item (.fb .f1)).state = .opened ∧
      ((out 500).plant.item (.tc .f1)).state = .opened ∧ (out 500).plant.rail.frameFault = false ∧
      (State.reset.plant.feeder .f1).state ≠ .out ∧
      (out 500).front.mean20 (.lineVoltage .f1) < ((out 500).store.values .f1).vlive ∧
      ((out 500).store.values .f1).vtest ≤ (out 500).front.mean20 .vbus ∧
      (out 499).front.mean20 .vbus < ((out 499).store.values .f1).vtest ∧
      (after (.feederClose (head true false) 1) (out 500)).link.slot = some ⟨0x99, 9, [0, 1, 5]⟩ ∧
      (after (.feederClose (head true false) 1) (out 499)).link.slot = some ⟨0x99, 9, [0, 1, 1]⟩ := by decide +kernel

theorem test_meets_O28_live_line :
    ¬ (out 600).front.mean20 (.lineVoltage .f1) < ((out 600).store.values .f1).vlive ∧
      (out 599).front.mean20 (.lineVoltage .f1) < ((out 599).store.values .f1).vlive ∧
      (after (.feederClose (head true false) 1) (out 600)).link.slot = some ⟨0x99, 9, [0, 1, 6]⟩ ∧
      ((after (.feederClose (head true false) 1) (out 600)).plant.item (.fb .f1)).state = .closing := by decide +kernel

theorem test_meets_O28_reports :
    (let p (st : FeederState) := (putItem (.tc .f1) (itemIn .closed .closed) (putFeeder .f1 (feederIn st)
      (bound State.reset))).plant
    let r (st : FeederState) (new : ItemState) (reason : ReportReason) :=
      (p st).fbReport (bound State.reset).env .f1 new reason
    ((p .unknown).feeder .f1).state = .unknown ∧ ((p .inService).feeder .f1).state = .inService ∧
      ((p (.lineTest .settling)).item (.tc .f1)).state ≠ .opened ∧
      ((r .unknown .closed .initial).feeder .f1).state = .inService ∧
      ((r .unknown .opened .resensed).feeder .f1).state = .out ∧
      ((r .lockedOut .closed .discrepancy).feeder .f1).state = .inService ∧
      ((r (.lineTest .settling) .closed .discrepancy).item (.tc .f1)).state = .opening ∧
      ((r .lockedOut .closed .late).item (.fb .f1)).state = .opening ∧
      ((r .inService .opened .late).feeder .f1).state = .deadTime .waiting ∧
      r .out .opened .discrepancy = p .out ∧ r .inService .unsensed .unsensed = p .inService) := by decide +kernel

theorem test_meets_O29 :
    (let s (st : FeederState) := putFeeder .f1 { feederIn st with exit := some (.lockedOut .frameFault) } State.reset
    (s .inService).link.takesAtOnce = true ∧ (head false true).pins.remote = false ∧
      (head true false).pins.remote = true ∧ (0 : Byte).toNat < 1 ∧ 6 < (7 : Byte).toNat ∧
      (1 : Byte).toNat = FeederId.number .f1 ∧ ((s .tripping).plant.feeder .f1).state = .tripping ∧
      ((s .inService).plant.feeder .f1).state = .inService ∧
      ((s (.deadTime .waiting)).plant.feeder .f1).state = .deadTime .waiting ∧
      ((s (.lineTest .settling)).plant.feeder .f1).state = .lineTest .settling ∧
      ((s (.lineTest .tcOpening)).plant.feeder .f1).state = .lineTest .tcOpening ∧
      ((s .closing).plant.feeder .f1).state = .closing ∧
      ((after (.feederOpen (head true false) 1) (s .closing)).plant.feeder .f1).exit = some (.lockedOut .frameFault) ∧
      ((after (.feederOpen (head true false) 1) (s .inService)).plant.item (.fb .f1)).state = .opening ∧
      ((after (.feederOpen (head true false) 1) (s (.deadTime .waiting))).plant.feeder .f1).state = .out) := by
  decide +kernel

theorem test_meets_O29_closing :
    (let p (exit : Option ExitTarget) := (putFeeder .f1 { feederIn .closing with exit := exit, attempts := 1 }
      (bound State.reset)).plant
    let e := (bound State.reset).env
    ((p none).feeder .f1).state = .closing ∧ ((p (some .out)).feeder .f1).exit = some .out ∧
      (((p none).fbCloseOutcome e .f1 .completed).feeder .f1).state = .inService ∧
      (((p none).fbCloseOutcome e .f1 .failed).feeder .f1).lockout = some .closeFail ∧
      ItemState.closed ≠ .opened ∧
      (((p none).tcReport e .f1 .opened .closed .supervision).feeder .f1).exit = some (.lockedOut .testEquipment) ∧
      (((p (some .out)).fbOpenOutcome e .f1 .completed).feeder .f1).state = .out ∧
      (((p (some (.lockedOut .frameFault))).fbOpenOutcome e .f1 .completed).feeder .f1).lockout = some .frameFault ∧
      (((p (some .out)).fbOpenOutcome e .f1 .failed).feeder .f1).lockout = some .breakerFailure) := by decide +kernel

/-- R110, R111: the ends of a manual opening, and of a reopening in LOCKED_OUT. -/
theorem test_meets_O29_outcomes :
    (let p (f : Sequencer) := (putFeeder .f1 f (bound State.reset)).plant
    let e := (bound State.reset).env
    let serving : Sequencer := { feederIn .inService with exit := some .out }
    let locked : Sequencer := { feederIn .lockedOut with lockout := some .closeFail }
    ((p serving).feeder .f1).state = .inService ∧ ((p serving).feeder .f1).exit = some .out ∧
      ((p locked).feeder .f1).state = .lockedOut ∧
      (((p serving).fbOpenOutcome e .f1 .completed).feeder .f1).state = .out ∧
      (((p serving).fbOpenOutcome e .f1 .failed).feeder .f1).exit = none ∧
      (((p serving).fbOpenOutcome e .f1 .failed).feeder .f1).state = .inService ∧
      (((p locked).fbOpenOutcome e .f1 .completed).feeder .f1).lockout = some .closeFail ∧
      (((p locked).fbOpenOutcome e .f1 .failed).feeder .f1).lockout = some .breakerFailure) := by decide +kernel

/-! ### 06 -/

/-- A firing rectifier, its schedule just built at the crossing 0. -/
def firing (state : RectState) : Rectifier :=
  { Rectifier.reset 750 with state := state, alpha := 320, schedule := some (newSchedule 0 20000 300 200 320) }

def retarded : State :=
  { putFeeder .f1 (feederIn .tripping) (putRect (firing .retard) (bound State.reset)) with
    pending := [.crystalFailure]
    plant := { (putFeeder .f1 (feederIn .tripping) (putRect (firing .retard) (bound State.reset))).plant with
      pendingOpen := [.f1] } }
theorem test_meets_O30 : retarded.feederLaw ∧ retarded.rectifierLaw ∧ ∃ t, step retarded = .next t := by
  refine ⟨⟨fun k => ?_, fun k => ?_⟩, ⟨?_, ?_, nofun⟩, _, rfl⟩
  · cases k <;> refine ⟨⟨nofun, ?_⟩, ⟨nofun, nofun⟩, nofun, nofun⟩ <;> rintro ⟨y, h⟩ <;> cases h
  · cases k <;> decide +kernel
  · decide +kernel
  · decide +kernel

theorem test_meets_O31 :
    (let s := putItem .acb (itemIn .opened .opened) (bound State.reset)
    s.link.takesAtOnce = true ∧ (head false true).pins.remote = false ∧ (head true false).pins.remote = true ∧
      State.reset.store.stationFields.isSome = false ∧ s.store.stationFields.isSome = true ∧
      s.plant.rect.state = .stopped ∧ (s.plant.item .acb).state = .opened ∧
      (¬ ∃ k, (s.plant.item (.fb k)).state = .failedOpen) ∧
      ((putItem .acb (itemIn .failedClose .opened) s).plant.item .acb).sensed = .opened ∧
      ((putItem .acb (itemIn .closed .closed) s).plant.item .acb).state = .closed ∧
      (putRect (firing .regulating) s).plant.rect.state = .regulating ∧
      ((putItem (.fb .f6) (itemIn .failedOpen .closed) s).plant.item (.fb .f6)).state = .failedOpen ∧
      (after (.rectifierStart (head true false)) s).link.slot = some ⟨0xA1, 9, [0, 1]⟩ ∧
      (after (.rectifierStart (head true false)) (putItem (.fb .f6) (itemIn .failedOpen .closed) s)).link.slot =
        some ⟨0xA1, 9, [5]⟩ ∧
      (after (.rectifierStart (head true false)) State.reset).link.slot = some ⟨0xA1, 9, [8]⟩) := by
  refine ⟨by decide +kernel, by decide +kernel, by decide +kernel, by decide +kernel, by decide +kernel,
    by decide +kernel, by decide +kernel, ?_, by decide +kernel⟩
  rintro ⟨k, h⟩
  cases k <;> cases h

theorem test_meets_O31_crossing :
    (let s (acb : ItemState) (state : RectState) (vbus : Int) : State :=
      (let s := putItem .acb (itemIn acb .closed) (putRect { Rectifier.reset 750 with state := state, alpha := 320 }
        (steady vbus (bound State.reset)))
      { s with plant := { s.plant with tracker := { Tracker.reset with locked := true, period := 20000 } } })
    let q (acb : ItemState) (state : RectState) (vbus : Int) :=
      (s acb state vbus).plant.rectCrossing (s acb state vbus).env 0
    let retards : Plant := { (s .closed .syncing 949).plant with pendingOpen := [.f2] }
    (s .closed .syncing 949).store.stationFields = some station ∧ (s .closed .syncing 949).plant.tracker.locked = true ∧
      (s .closed .syncing 949).front.mean20 .vbus < (station.vblock.toNat : Int) - station.vhys.toNat ∧
      (q .closed .syncing 949).rect.state = .softStart ∧ (q .opened .blocked 949).rect.state = .softStart ∧
      (retards.rectCrossing (s .closed .syncing 949).env 0).rect.state = .retard ∧
      (q .closed .syncing 949).rect.alpha = 1200 ∧ (q .closed .syncing 950).rect.state = .syncing ∧
      (q .opened .syncing 949).rect.state = .syncing ∧ (q .closed .tripped 949).rect.state = .tripped) := by
  decide +kernel

/-- R128 step 6 with the formula of R129 at Offset 300 and α 1200: 4.5 ms after the crossing, S4 (at 1666 µs), D3 (0)
and D4 (3333) have fired at once, and S5 (5000) is PENDING. -/
theorem test_meets_O31_due :
    (let s0 := putItem .acb (itemIn .closed .closed) (putRect { Rectifier.reset 750 with state := .syncing }
      (steady 700 (bound (atTime 36 4 4 State.reset))))
    let s := { s0 with plant := { s0.plant with tracker := { Tracker.reset with locked := true, period := 20000 } } }
    let q := s.plant.rectCrossing s.env 0
    q.rect.state = .softStart ∧
      q.rect.schedule.map (fun x => (x.pulses.map Pulse.moment).drop 4) =
        some [1666, 5000, 10000, 13333, 16666, 0, 3333, 6666] ∧
      q.rect.schedule.map (fun x => (x.pulses.map Pulse.status).drop 4) =
        some [.fired, .pending, .pending, .pending, .pending, .fired, .fired, .pending] ∧
      q.rect.bursts[(10 : GateId)] = some ⟨4500, 4500 + 1111⟩ ∧ q.rect.bursts[(11 : GateId)] = none) := by
  decide +kernel

theorem test_meets_O32 :
    (let s := putItem .acb (itemIn .closed .closed) (putRect (firing .regulating) (bound State.reset))
    s.link.takesAtOnce = true ∧ (head false true).pins.remote = false ∧ (head true false).pins.remote = true ∧
      (s.plant.item .acb).state ≠ .opened ∧ ((putItem .acb (itemIn .opened .opened) s).plant.item .acb).state = .opened ∧
      State.reset.plant.rect.state = .stopped ∧ s.plant.rect.state ≠ .stopped ∧ s.plant.rect.state ≠ .tripped ∧
      (after (.rectifierStop (head true false)) s).plant.rect.state = .stopped ∧
      ((after (.rectifierStop (head true false)) s).plant.item .acb).state = .opening) := by decide +kernel

theorem test_meets_O33 :
    State.reset.link.takesAtOnce = true ∧
      (after (.setVoltageReference (head false false) 950) State.reset).link.slot = some ⟨0xA3, 9, [0, 0x84, 3]⟩ ∧
      (after (.setVoltageReference (head false false) 599) State.reset).plant.rect.reference = 600 ∧
      ({ firing .regulating with alpha := 320 }).state = .regulating ∧ (2000 : Int) ≤ station.ilimit.toNat ∧
      station.alphaMin.toNat ≤ 320 ∧ 320 ≤ station.alphaMax.toNat ∧
      (station.toList.map BitVec.toNat).sum % 65536 = 65535 := by decide +kernel

theorem test_meets_O34 :
    (let s := atTime 0 1 0 (putRect (firing .regulating) (bound State.reset))
    let burning : Rectifier := { firing .regulating with bursts := (Vector.replicate 12 none).set 5 (some ⟨111, 125⟩) }
    s.plant.rect.state.firing = true ∧ s.plant.rect.schedule = some (newSchedule 0 20000 300 200 320) ∧
      ((newSchedule 0 20000 300 200 320).pulses.find? (fun y => y.gate = 5 ∧ y.status = .pending)).map Pulse.moment =
        some 111 ∧
      111 ≤ 1000 * s.time.elapsed.toNat + 125 * s.time.eighth.toNat ∧ State.reset.plant.rect.state.firing = false ∧
      (putRect burning s).plant.rect.bursts[(5 : GateId)] = some ⟨111, 125⟩ ∧
      125 ≤ 1000 * s.time.elapsed.toNat + 125 * s.time.eighth.toNat ∧
      (after (.pulseInstant 5) s).plant.rect.bursts[(5 : GateId)] = some ⟨111, 1222⟩ ∧
      (after (.burstEnd 5) (putRect burning s)).plant.rect.bursts[(5 : GateId)] = none) := by decide +kernel

/-- A pulse and a burst end between the present sample instant and the next are not late (log 12). -/
theorem test_meets_O34_between_instants :
    (let s := atTime 0 0 0 (putRect { firing .regulating with
      bursts := (Vector.replicate 12 none).set 5 (some ⟨0, 125⟩) } (bound State.reset))
    s.time.hasReachedUs 111 = true ∧ s.time.hasReachedUs 125 = true ∧ s.time.hasReachedUs 126 = false ∧
      s.time.begun = false ∧ State.reset.time.begun = true ∧ State.reset.time.hasReachedUs 1 = false ∧
      s.plant.rect.bursts[(5 : GateId)] = some ⟨0, 125⟩ ∧
      (after (.pulseInstant 5) s).plant.rect.bursts[(5 : GateId)] = some ⟨111, 1222⟩ ∧
      (after (.burstEnd 5) s).plant.rect.bursts[(5 : GateId)] = none) := by decide +kernel

theorem test_meets_O35 :
    (firing .softStart).state = .softStart ∧ (2000 : Int) ≤ station.ilimit.toNat ∧ (station.ilimit.toNat : Int) < 2001 ∧
      (firing .currentLimit).state = .currentLimit ∧ (firing .retard).state = .retard ∧
      ((firing .regulating).regulate station 2001 700).limitCount = 1 ∧
      ((firing .softStart).regulate station 0 740).state = .regulating ∧
      ((firing .softStart).regulate station 0 739).state = .softStart ∧
      ((firing .retard).regulate station 0 700).alpha = 900 := by decide +kernel

theorem test_meets_O35_crossing :
    (let s (locked : Bool) : State :=
      (let s := putRect (firing .regulating) (steady 700 (bound State.reset))
      { s with plant := { s.plant with tracker := { Tracker.reset with locked := locked, period := 20000 } } })
    let q := (s true).plant.rectCrossing (s true).env 0
    (s true).store.stationFields = some station ∧ (s true).plant.rect.state.firing = true ∧
      (s true).plant.tracker.locked = true ∧ station.alphaMin.toNat ≤ station.alphaMax.toNat ∧
      q.rect.schedule.map Schedule.burst = some 1111 ∧
      q.rect.schedule.map (fun x => x.pulses.map Pulse.status) = some (List.replicate 12 .pending) ∧
      (s false).plant.tracker.locked = false ∧
      ((s false).plant.rectCrossing (s false).env 0).rect.blockCause = .unlocked) := by decide +kernel

theorem test_meets_O36 :
    (let s := atTime 0 0 6 (putRect (firing .regulating) (bound State.reset))
    s.plant.pendingOpen = [] ∧ s.store.stationFields = some station ∧ s.plant.rect.state = .regulating ∧
      s.plant.rect.schedule.isSome ∧ State.reset.plant.rect.schedule = none ∧
      State.reset.plant.rect.state = .stopped ∧
      (s.plant.joinPending s.env .f3).rect.schedule.map (fun sch => sch.pulses.map Pulse.status) =
        some [.pending, .pending, .pending, .pending, .dropped, .dropped, .pending, .pending, .pending, .pending,
          .dropped, .dropped]) := by decide +kernel

/-- IDC, VBUS and the VBUS mean as given, the rectifier in a state with both runs as given. -/
def sampled (state : RectState) (run : Nat) (idc vbus mean : Int) (acb : ItemState) : Env × Plant :=
  (let s := putItem .acb (itemIn acb .closed) (putRect { firing state with overcurrent := run, overvoltage := run }
    (steady mean (bound State.reset)))
  ({ s.env with front := { s.front with latest := { PerChannel.all 0 with idc := idc, vbus := vbus } } }, s.plant))
theorem test_meets_O36_samples :
    (let current (state : RectState) (run : Nat) (idc : Int) (acb : ItemState) :=
      (let x := sampled state run idc 0 0 acb
      x.2.rectCurrentSample x.1)
    let voltage (state : RectState) (run : Nat) (vbus : Int) :=
      (let x := sampled state run 0 vbus 0 .closed
      x.2.rectVoltageSample x.1)
    let mean (state : RectState) (v : Int) :=
      (let x := sampled state 0 0 0 v .closed
      x.2.rectMean x.1)
    (current .regulating 2 4000 .closed).rect.overcurrent = 3 ∧ (current .syncing 3 3999 .closed).rect.overcurrent = 0 ∧
      (current .blocked 3 4000 .closed).rect.stopCause = .overcurrent ∧
      ((current .blocked 3 4000 .closed).item .acb).state = .opening ∧
      ((current .syncing 3 4000 .opened).item .acb).state = .opened ∧
      (current .stopped 3 4000 .closed).rect.state = .stopped ∧
      (voltage .retard 2 1101).rect.overvoltage = 3 ∧ (voltage .retard 3 1100).rect.overvoltage = 0 ∧
      (voltage .retard 3 1101).rect.blockCause = .fastOvervoltage ∧ (voltage .syncing 3 1101).rect.state = .syncing ∧
      (mean .softStart 1001).rect.blockCause = .meanOvervoltage ∧ (mean .softStart 1000).rect.state = .softStart ∧
      ((sampled .regulating 0 0 0 0 .closed).2.rectLockLost State.reset.env).rect.state = .blocked ∧
      ((sampled .syncing 0 0 0 0 .closed).2.rectReport State.reset.env .opened .discrepancy).rect.stopCause =
        .acbOpened ∧
      ((sampled .tripped 0 0 0 0 .closed).2.rectReport State.reset.env .opened .discrepancy).rect.stopCause = .reset ∧
      RectState.firing .regulating = true ∧ RectState.firing .syncing = false) := by decide +kernel

/-- R124, R127: the stops, and what they pass over. -/
theorem test_meets_O36_stops :
    (let p (state : RectState) (acb : ItemState) := (sampled state 2 0 0 0 acb).2
    let e := State.reset.env
    (p .syncing .failedClose).rect.state = .syncing ∧ (p .blocked .closed).rect.state ≠ .syncing ∧
      ((p .syncing .failedClose).rectOutcome e .closing .failed).rect.stopCause = .acbFail ∧
      (((p .syncing .failedClose).rectOutcome e .closing .wrongState).item .acb).state = .opening ∧
      ((p .syncing .closed).rectOutcome e .closing .completed).rect.state = .syncing ∧
      ((p .blocked .closed).rectOutcome e .closing .failed).rect.state = .blocked ∧
      ((p .retard .closed).rectOutcome e .opening .failed).rect.state = .retard ∧
      ((p .retard .opened).rectSettingsLost e).rect.stopCause = .settings ∧
      (((p .retard .opened).rectSettingsLost e).item .acb).state = .opened ∧
      ((p .tripped .closed).rectSettingsLost e).rect.state = .tripped ∧
      ((p .retard .closed).rectReport e .unsensed .unsensed).rect.state = .retard) := by decide +kernel

/-! ### 07 -/

/-- The monitor with a VRE sample, RE in a state. -/
def railAt (vre : Int) (re : Item) (r : RailMonitor) : Env × Plant :=
  (let s := putItem .re re (putRail r (bound State.reset))
  ({ s.env with front := { FrontEnd.reset with latest := { PerChannel.all 0 with vre := vre } } }, s.plant))
def watching7 : RailMonitor := { RailMonitor.reset with rl2 := 7 }
def earthedBefore (n : Nat) : RailMonitor :=
  { RailMonitor.reset with state := .closing, closures := List.replicate n ⟨0, Stamp.powerOn⟩ }

theorem test_meets_O37 :
    (let x := railAt (-250) (itemIn .opened .opened) watching7
    x.1.railLevels.u2 ≤ x.1.railLevels.u3 ∧ x.2.rail.state = .watching ∧
      x.1.railLevels.u2 ≤ x.1.front.latest.vre.natAbs ∧ x.1.front.latest.vre.natAbs < x.1.railLevels.u3 ∧
      7 ≤ x.2.rail.rl2 ∧ (x.2.item .re).state = .opened ∧ (x.2.railSample x.1).rail.state = .closing ∧
      (x.2.railSample x.1).rail.watchBelow = true) ∧
    (let lists (n : Nat) := ((putRail (earthedBefore n) (bound State.reset)).plant.railOutcome (bound State.reset).env
      .closing .completed).rail
    (earthedBefore 1).state = .closing ∧ (bound State.reset).env.railLevels.nrep = 3 ∧
      (lists 1).closures.length = 2 ∧ (lists 1).state = .holding ∧ (lists 1).holdTimer = some 80000 ∧
      (lists 2).closures.length = 3 ∧ (lists 2).state = .permanent) := by decide +kernel

theorem test_meets_O37_means :
    (let at' (vre ire : Int) (re : Item) (r : RailMonitor) : Env × Plant :=
      (let s := putItem .re re (putRail r (bound State.reset))
      ({ s.env with front := { s.front with means :=
        { s.front.means with vre := List.replicate 20 vre, ire := List.replicate 20 ire } } }, s.plant))
    let q (vre ire : Int) (re : Item) (r : RailMonitor) := (at' vre ire re r).2.railMean (at' vre ire re r).1
    let near : RailMonitor := { RailMonitor.reset with rl1 := 999, frameRun := 49 }
    let open' := itemIn .opened .opened
    let shut := itemIn .closed .closed
    (q 120 0 open' near).rail.state = .closing ∧ (q 119 0 open' near).rail.rl1 = 0 ∧
      (q 120 0 open' { near with rl1 := 998 }).rail.rl1Held = false ∧
      (q 0 (-1500) shut near).rail.frameFault = true ∧ (q 0 1499 shut near).rail.frameRun = 0 ∧
      (q 0 1500 open' near).rail.frameFault = false ∧
      (q 0 1500 shut { near with frameHeld := true }).rail.frameFault = false ∧
      ((at' 0 0 shut { near with state := .closing }).2.rail.state = .closing) ∧
      ((at' 0 0 shut { near with state := .closing }).2.railOutcome (at' 0 0 shut near).1 .closing .failed).rail.state =
        .failed ∧
      (((putFeeder .f1 (feederIn .inService) (putRail { near with state := .closing, rl2 := 8 }
        (bound State.reset))).plant.railOutcome (bound State.reset).env .closing .wrongState).feeder .f1).lastCause =
        some .railSubstitute) := by decide +kernel

def holding (ire : Int) : State :=
  putRail { RailMonitor.reset with state := .holding, holdTimer := some 80000 }
    (atTime 80000 0 10000 (steady ire (bound State.reset)))
def permanent (ire : Int) : State :=
  putRail { RailMonitor.reset with state := .permanent } (steady ire (bound State.reset))
theorem test_meets_O38 :
    (holding 49).plant.rail.state = .holding ∧ (holding 49).plant.rail.holdTimer = some 80000 ∧
      80000 ≤ (holding 49).time.tick ∧
      ((holding (-49)).front.mean20 .ire).natAbs < (holding 49).env.railLevels.ireopen ∧
      (holding 50).env.railLevels.ireopen ≤ ((holding (-50)).front.mean20 .ire).natAbs ∧
      (permanent 49).link.takesAtOnce = true ∧ (head false true).pins.remote = false ∧
      (head true false).pins.remote = true ∧ (permanent 49).plant.rail.state = .permanent ∧
      (after .railHoldExpiry (holding 49)).plant.rail.state = .opening false ∧
      (after .railHoldExpiry (holding 50)).plant.rail.holdTimer = some 160000 ∧
      (after (.releaseEarthing (head true false)) (permanent 49)).plant.rail.state = .opening true ∧
      (after (.releaseEarthing (head true false)) (permanent 50)).link.slot = some ⟨0xA9, 9, [5]⟩ := by decide +kernel

theorem test_meets_O38_reports :
    (let p (st : MonitorState) := (putRail { RailMonitor.reset with state := st } (bound State.reset)).plant
    let r (st : MonitorState) (new : ItemState) (reason : ReportReason) :=
      ((p st).railReport (bound State.reset).env new reason).rail.state
    (p .watching).rail.state = .watching ∧ (p (.opening true)).rail.state = .opening true ∧
      r .watching .closed .discrepancy = .holding ∧ r .watching .closed .resensed = .holding ∧
      r .permanent .opened .discrepancy = .watching ∧ r .failed .opened .late = .watching ∧
      r .failed .opened .initial = .watching ∧ r .failed .closed .late = .holding ∧
      r .closing .closed .discrepancy = .closing ∧ r (.opening true) .opened .discrepancy = .opening true ∧
      r .holding .unsensed .unsensed = .holding ∧ r .holding .opened .resensed = .holding ∧
      r .permanent .opened .resensed = .permanent) := by decide +kernel

/-- R150: RAIL_OPEN with reason 0 after the hold and 1 after Release Earthing, or FAILED. -/
theorem test_meets_O38_opening :
    (let p (released : Bool) := (putRail { RailMonitor.reset with state := .opening released, watchPeak := 130
                                                                  closures := [⟨0, Stamp.powerOn⟩] }
      (bound State.reset)).plant
    let q (released : Bool) (o : CommandOutcome) := (p released).railOutcome (bound State.reset).env .opening o
    (p true).rail.state = .opening true ∧ (p false).rail.state = .opening false ∧
      (q false .completed).rail.state = .watching ∧ (q false .completed).rail.watchPeak = 0 ∧
      (q false .completed).unit.journal.getLast?.map (fun y => (y.kind, y.details)) = some (.railOpen, [0, 1]) ∧
      (q true .completed).unit.journal.getLast?.map (fun y => (y.kind, y.details)) = some (.railOpen, [1, 1]) ∧
      (q true .failed).rail.state = .failed ∧ (q true .failed).unit.attention.rail = true) := by decide +kernel

def faulted (held : Bool) : State :=
  putRail { RailMonitor.reset with frameFault := true, frameHeld := held, rl3 := 7 } (bound State.reset)
theorem test_meets_O39 :
    (faulted false).link.takesAtOnce = true ∧ (head false true).pins.remote = false ∧
      (head true false).pins.engKey = false ∧ (head true true).pins.remote = true ∧ (head true true).pins.engKey = true ∧
      State.reset.plant.rail.frameFault = false ∧ (faulted false).plant.rail.frameFault = true ∧
      (faulted true).plant.rail.frameHeld = true ∧
      ¬ (8 ≤ (faulted false).plant.rail.rl3 ∨ (faulted false).plant.rail.frameHeld = true) ∧
      (after (.clearFrameFault (head true true)) (faulted false)).plant.rail.frameFault = false ∧
      (after (.clearFrameFault (head true true)) (faulted true)).link.slot = some ⟨0xAA, 9, [5]⟩ := by decide +kernel

theorem test_meets_O40 :
    (let p (st : FeederState) := (putFeeder .f1 (feederIn st) State.reset).plant
    (p .inService).rail.frameFault = false ∧ ((p .inService).feeder .f1).state = .inService ∧
      ((p .tripping).feeder .f1).state = .tripping ∧ ((p (.deadTime .deferred)).feeder .f1).state = .deadTime .deferred ∧
      ((p (.lineTest .tcClosing)).feeder .f1).state = .lineTest .tcClosing ∧
      ((p (.lineTest .tcOpening)).feeder .f1).state = .lineTest .tcOpening ∧ ((p .closing).feeder .f1).state = .closing ∧
      ((p .out).feeder .f1).state = .out ∧
      (((p (.deadTime .deferred)).declareFrameFault State.reset.env .frameCurrent 1500).feeder .f1).lockout =
        some .frameFault) := by decide +kernel

theorem test_meets_O40_rl3 :
    (let p (st : MonitorState) (re : Item) := (putItem .re re (putRail { RailMonitor.reset with state := st, rl3 := 7 }
      (bound State.reset))).plant
    let e : Env :=
      { (bound State.reset).env with front := { FrontEnd.reset with latest := { PerChannel.all 0 with vre := -600 } } }
    let q (st : MonitorState) (re : Item) := ((p st re).declareFrameFault e .rl3 600)
    (p .failed (itemIn .failedClose .opened)).rail.state = .failed ∧
      (q .failed (itemIn .failedClose .opened)).rail.state = .closing ∧
      (q .watching (itemIn .opened .opened)).rail.state = .closing ∧
      ((itemIn .failedClose .closed).state ≠ .opened ∧ (itemIn .failedClose .closed).sensed ≠ .opened) ∧
      (q .failed (itemIn .failedClose .closed)).rail.state = .failed ∧
      (p .holding (itemIn .closed .closed)).rail.rl3 = 7 ∧ e.railLevels.u3 ≤ e.front.latest.vre.natAbs ∧
      MonitorState.holding ≠ .watching ∧ MonitorState.holding ≠ .failed ∧
      ((p .holding (itemIn .closed .closed)).railSample e).rail.lastFault = some ⟨.rl3, 600, e.time.stamp⟩) := by
  decide +kernel

/-- R147, R154: a refused close of RE in WATCHING (log 29), with RL2 holding and not. -/
theorem test_meets_O40_refused :
    (let p (rl2 : Nat) (re : Item) := (putItem .re re (putFeeder .f1 (feederIn .inService)
      (putRail { RailMonitor.reset with rl2 := rl2, rl3 := 7 } (bound State.reset)))).plant
    let q (rl2 : Nat) (re : Item) := (p rl2 re).declareFrameFault (bound State.reset).env .rl3 600
    let jammed := itemIn .failedClose .closed
    (p 8 jammed).rail.state = .watching ∧ jammed.state ≠ .opened ∧ jammed.state ≠ .closed ∧ jammed.sensed ≠ .opened ∧
      ((p 8 jammed).feeder .f1).state = .inService ∧ (q 8 jammed).rail.state = .failed ∧
      ((q 8 jammed).feeder .f1).lastCause = some .railSubstitute ∧
      ((q 8 jammed).feeder .f1).exit = some (.lockedOut .frameFault) ∧
      ((q 7 (itemIn .unknown .unknown)).feeder .f1).lastCause = some .frameFault ∧
      (q 7 (itemIn .unknown .unknown)).rail.state = .failed ∧
      (q 7 (itemIn .unknown .unknown)).pendingOpen = [.f1]) := by decide +kernel

/-! ### 08 -/

theorem test_meets_O41 :
    ((waiting State.reset).energy.everyCounter (· ≤ 2 ^ 64 - 1) ∧ ∃ t, step (waiting State.reset) = .next t) ∧
      2 ^ 64 - 1 < (2 ^ 64 - 1) + 1 ∧ (2 ^ 64 - 2) + 1 ≤ 2 ^ 64 - 1 := by
  refine ⟨⟨⟨fun k => ?_, fun k => ?_, by decide +kernel, by decide +kernel⟩, _, rfl⟩, by decide, by decide⟩ <;>
    cases k <;> decide +kernel

def metering (out : PulseOutput) (pulses : Nat) : State :=
  { atTime 160 7 20 (bound State.reset) with
    energy := { Energy.reset with rectPlus := 3600000000, credited := 0, pulses := pulses, output := out } }
theorem test_meets_O42 :
    (metering (.on 160) 0).energy.output = .on 160 ∧ 160 ≤ (metering (.on 160) 0).time.tick ∧
      (metering (.gap 160) 1).energy.output = .gap 160 ∧ 0 < (metering (.gap 160) 1).energy.pulses ∧
      (metering (.gap 160) 0).energy.pulses = 0 ∧ (metering .idle 0).energy.output = .idle ∧
      (metering .idle 0).energy.credited < (metering .idle 0).energy.rectPlus / 3600000000 ∧
      (metering (.on 160) 0).energy.output ≠ .idle ∧
      (after (.sampleInstant (inputs .spanLow)) { metering .idle 0 with time := { (metering .idle 0).time with
        eighth := 6 } }).energy.output = .on 321 ∧
      (after (.sampleInstant (inputs .spanLow)) (metering .idle 0)).energy.output = .idle ∧
      (after .energyPulseGapExpiry (metering (.gap 160) 1)).energy.output = .on 320 ∧
      (after .energyPulseGapExpiry (metering (.gap 160) 0)).energy.output = .idle := by decide +kernel

theorem test_meets_O43 :
    State.reset.link.takesAtOnce = true ∧ (head true false).pins.engKey = false ∧
      (head false true).pins.engKey = true ∧
      (after (.clearEnergy (head false true)) (metering (.on 160) 3)).energy.output = .on 160 ∧
      (after (.clearEnergy (head false true)) (metering (.on 160) 3)).energy.pulses = 0 ∧
      ((after (.clearEnergy (head false true)) (metering (.on 160) 3)).plant.unit.journal.getLast?.map Entry.details) =
        some [1] := by decide +kernel

def record (k : FeederId) : FaultRecord :=
  ⟨k, .instant, Stamp.powerOn, ⟨.instant, Stamp.powerOn, 4000, 0, none, 0, none⟩, some ⟨0, true, false⟩,
    List.replicate 128 ⟨0, 0, 0⟩⟩
/-- Slot 0 as given, slot 1 COMPLETE, slot 2 FILLING, slot 3 as given, claimed in the order 2, 1, 0, 3. -/
def recordsWith (first last : Slot) (hold : Option (SlotId × Nat)) : RecordStore :=
  { RecordStore.reset with
    slots := #v[first, .complete (record .f1), .filling { record .f2 with triples := List.replicate 32 ⟨0, 0, 0⟩ }, last]
    claims := [2, 1, 0, 3]
    hold := hold }
theorem test_meets_O44 :
    (let full := recordsWith (.held (record .f3)) (.complete (record .f4)) (some (0, 16000))
    let none' : RecordStore := { full with slots := (full.slots.set 1 (.filling (record .f1))).set 3 (.held (record .f4)) }
    let free := { full with slots := full.slots.set 3 .free, claims := [2, 1, 0] }
    (free.slots[(3 : SlotId)]).isFree = true ∧ (∀ m : SlotId, m < 3 → (free.slots[m]).isFree = false) ∧
      (∀ n : SlotId, (full.slots[n]).isFree = false) ∧ full.claims = [2] ++ 1 :: [0, 3] ∧
      (full.slots[(1 : SlotId)]).isComplete = true ∧ (∀ m ∈ [(2 : SlotId)], (full.slots[m]).isComplete = false) ∧
      (∀ n : SlotId, (none'.slots[n]).isFree = false) ∧ (∀ n ∈ none'.claims, (none'.slots[n]).isComplete = false) ∧
      (free.claim .f5 (record .f5).snapshot).2 = some 3 ∧ (full.claim .f5 (record .f5).snapshot).2 = some 1 ∧
      (none'.claim .f5 (record .f5).snapshot).2 = none ∧
      (full.claim .f5 (record .f5).snapshot).1.claims = [2, 0, 3, 1]) := by decide +kernel

theorem test_meets_O44_capture :
    (let filling (n : Nat) : State := putRecords
      { recordsWith (.filling { record .f3 with captureStart := none, triples := List.replicate n ⟨0, 0, 0⟩ }) .free none
        with claims := [2, 1, 0] } (steady 7 State.reset)
    let slot (n : Nat) := ((filling n).plant.recordMean (filling n).env).records.slots[(0 : SlotId)]
    (slot 127).isComplete = true ∧ (slot 126).isComplete = false ∧ (slot 126).record.map (fun r => r.triples.length) =
        some 127 ∧
      (slot 32).record.map FaultRecord.captureStart = some (some ⟨0, true, false⟩) ∧
      (slot 32).record.bind (fun r => r.triples.getLast?) = some ⟨7, 7, 7⟩ ∧
      (∀ x, (filling 32).plant.records.slots[(1 : SlotId)] ≠ .filling x) ∧
      ((filling 127).plant.recordMean (filling 127).env).unit.attention.record = true ∧
      ((filling 126).plant.recordMean (filling 126).env).unit.attention.record = false) := by
  refine ⟨by decide +kernel, by decide +kernel, by decide +kernel, by decide +kernel, by decide +kernel, ?_,
    by decide +kernel⟩
  intro x h
  cases h

def holdingRecord : State :=
  atTime 16000 0 2000 (putRecords (recordsWith (.held (record .f3)) .free (some (0, 16000))) State.reset)
theorem test_meets_O45 :
    (let r := holdingRecord.plant.records
    holdingRecord.link.takesAtOnce = true ∧ 3 < (4 : Byte).toNat ∧ 7 < (8 : Byte).toNat ∧
      (0 : Byte).toNat = (0 : SlotId).val ∧ (3 : Byte).toNat = (3 : SlotId).val ∧ (7 : Byte).toNat ≤ 7 ∧
      (r.slots[(3 : SlotId)]).record = none ∧ (∃ x, r.slots[(2 : SlotId)] = .filling x) ∧
      r.slots[(1 : SlotId)] = .complete (record .f1) ∧ r.slots[(0 : SlotId)] = .held (record .f3) ∧
      (6 : Byte).toNat < 7 ∧ r.hold = some (0, 16000) ∧ 16000 ≤ holdingRecord.time.tick ∧
      (after (.readRecordPiece (head false false) 1 6) holdingRecord).plant.records.hold = some (1, 32000) ∧
      (after (.readRecordPiece (head false false) 0 7) holdingRecord).plant.records.hold = none ∧
      (after .recordHoldExpiry holdingRecord).plant.records.slots[(0 : SlotId)] = .complete (record .f3)) := by
  refine ⟨by decide +kernel, by decide, by decide, by decide, by decide, by decide, by decide +kernel, ⟨_, rfl⟩, ?_⟩
  decide +kernel

theorem test_pieces_of_a_record :
    (let reply (piece : Byte) := (after (.readRecordPiece (head false false) 1 piece) holdingRecord).link.slot.map
      (fun f => (f.payload.take 4, f.payload.length))
    (record .f1).header.length = 38 ∧ reply 0 = some ([0, 1, 0, 3], 4 + 38 + 96) ∧ reply 6 = some ([0, 1, 6, 3], 100) ∧
      reply 7 = some ([0, 1, 7, 2], 100)) := by decide +kernel

theorem test_meets_O46 :
    (let r := holdingRecord.plant.records
    holdingRecord.link.takesAtOnce = true ∧ 3 < (4 : Byte).toNat ∧ (3 : Byte).toNat = (3 : SlotId).val ∧
      (∃ x, r.slots[(2 : SlotId)] = .filling x) ∧ r.slots[(3 : SlotId)] = .free ∧
      r.slots[(1 : SlotId)] = .complete (record .f1) ∧ r.slots[(0 : SlotId)] = .held (record .f3) ∧
      (after (.freeRecord (head false false) 0) holdingRecord).plant.records.claims = [2, 1, 3] ∧
      (after (.freeRecord (head false false) 0) holdingRecord).plant.records.hold = none) := by
  refine ⟨by decide +kernel, by decide, by decide, ⟨_, rfl⟩, ?_⟩
  decide +kernel

def lawfulRecords : State :=
  waiting (putRecords { recordsWith (.held (record .f3)) .free (some (0, 16000)) with claims := [2, 1, 0] } State.reset)
theorem test_meets_O47 : lawfulRecords.recordLaw ∧ ∃ t, step lawfulRecords = .next t := by
  refine ⟨⟨by decide +kernel, by decide +kernel, fun n => ?_, fun n => ?_, fun k => ?_⟩, _, rfl⟩
  · match n with
    | 0 => exact ⟨fun _ => ⟨_, rfl⟩, fun _ => ⟨_, rfl⟩⟩
    | 1 | 2 | 3 =>
      refine ⟨?_, ?_⟩
      · rintro ⟨x, h⟩; cases h
      · rintro ⟨x, h⟩; cases h
  · match n with
    | 0 | 1 | 2 | 3 => simp [lawfulRecords, waiting, putRecords, recordsWith, Slot.lawful, record]
  · cases k <;> decide +kernel

/-! ### 09 -/

/-- A unit with a journal of a length, its indices up to `n − 1`, and all flags enabled. -/
def unitWith (n : Nat) : JournalUnit :=
  { JournalUnit.reset with
    journal := (List.range n).map (fun i => ⟨BitVec.ofNat 16 i, Stamp.powerOn, .station, .startUp, []⟩)
    nextIndex := BitVec.ofNat 16 n
    mask := ⟨true, true, true, true, true, true, true, true, true⟩ }

theorem test_meets_O48 :
    (let e := State.reset.env
    (unitWith 255).journal.length < 256 ∧ (unitWith 256).journal.length = 256 ∧ (unitWith 0).journal = [] ∧
      191 ≤ (unitWith 191).journal.length ∧ (unitWith 256).latched.journalOverflow = false ∧
      State.reset.plant.unit.latched.get .timeUnsync = true ∧ State.reset.plant.unit.latched.get .frameFault = false ∧
      State.reset.plant.unit.attention.get .restart = true ∧ State.reset.plant.unit.attention.get .trip = false ∧
      State.reset.plant.unit.mask.get .trip = false ∧ (unitWith 1).mask.get .trip = true ∧
      (unitWith 1).attention.get .trip = false ∧ (unitWith 1).holdoff = none ∧ (unitWith 1).notice = none ∧
      ({ unitWith 1 with holdoff := some 800 }).holdoff.isSome ∧
      ((JournalUnit.post e .station .startUp [] (unitWith 256)).latched.journalOverflow = true) ∧
      ((JournalUnit.post e .station .startUp [] (unitWith 190)).attention.journal = false) ∧
      ((JournalUnit.post e .station .startUp [] (unitWith 191)).attention.journal = true) ∧
      ((JournalUnit.raise e .trip (unitWith 1)).notice.map Notice.newest = some 0) ∧
      (JournalUnit.raise e .trip { unitWith 1 with holdoff := some 800 }).notice = none ∧
      (JournalUnit.raise e .trip { unitWith 1 with holdoff := some 800 }).pendingFlags.trip = true) := by decide +kernel

theorem test_meets_O49 :
    (let s := putUnit (unitWith 3) State.reset
    s.link.takesAtOnce = true ∧
      (∃ y, s.plant.unit.journal = (s.plant.unit.journal.take 1) ++ y :: s.plant.unit.journal.drop 2 ∧ y.index = 1) ∧
      (∀ z ∈ s.plant.unit.journal.take 1, z.index ≠ 1) ∧ (∀ z ∈ s.plant.unit.journal, z.index ≠ 3) ∧
      s.plant.unit.journal.length < 256 ∧
      (after (.releaseJournal (head false false) 1) s).link.slot = some ⟨0xB1, 9, [0, 2, 0, 1]⟩ ∧
      (after (.releaseJournal (head false false) 3) s).link.slot = some ⟨0xB1, 9, [7]⟩ ∧
      (after (.acknowledgeAlarms (head false false)) (putUnit { unitWith 3 with
        latched := { AlarmFlags.clear with supplyLost := true, frameFault := true }, contact := true }
        State.reset)).link.slot = some ⟨0xB3, 9, [0, 1, 0]⟩) := by
  refine ⟨by decide +kernel, ⟨⟨1, Stamp.powerOn, .station, .startUp, []⟩, by decide +kernel, rfl⟩, ?_⟩
  decide +kernel

theorem test_meets_O50 :
    State.reset.link.takesAtOnce = true ∧
      (after (.readAttention (head false false)) State.reset).link.slot = some ⟨0x84, 9, [0, 0x60, 1]⟩ ∧
      (after (.noticeMask (head false false) 0xFE01) State.reset).link.slot = some ⟨0x85, 9, [0, 1, 0]⟩ := by decide +kernel

theorem test_meets_O51 :
    (waiting State.reset).journalLaw ∧ (waiting State.reset).alarmLaw ∧
      (waiting (putUnit { unitWith 1 with pendingFlags := FlagSet.empty.set .trip, holdoff := some 800 }
        State.reset)).noticeLaw ∧ ∃ t, step (waiting State.reset) = .next t := by
  refine ⟨⟨by decide +kernel, fun n x h => ?_⟩, ⟨fun a => ?_, fun _ => ⟨.supplyLost, rfl⟩, fun _ => rfl⟩,
    ⟨fun f => ?_, fun _ => .inl rfl⟩, _, rfl⟩
  · match n, h with
    | 0, h | 1, h | 2, h | 3, h | 4, h | 5, h | 6, h => cases h; decide +kernel
    | n + 7, h => simp [waiting, State.reset, startUpEntries] at h
  · cases a with
    | bindingFault k | lockedOut k | thermalAlarm k => cases k <;> decide +kernel
    | itemFail i | unsensed i | discrepant i => cases i with
      | fb k | tc k => cases k <;> decide +kernel
      | re | acb => decide +kernel
    | _ => decide +kernel
  · cases f <;> decide +kernel

/-! ### 10 -/

theorem test_meets_O52 :
    (List.replicate 238 (0 : Byte)).length ≤ 238 ∧ State.reset.link.assembly = .hunt ∧
      ((LinkFrame.bytes ⟨0x01, 7, []⟩).foldl (fun s b => after (.receivedCharacter (.byte b) ⟨false, false⟩) s)
        State.reset).link = (after (.identify ⟨7, ⟨false, false⟩⟩) State.reset).link ∧
      (after (.identify ⟨7, ⟨false, false⟩⟩) State.reset).link.slot =
        some ⟨0x81, 7, [0, 0x6E, 0x0B, 0x64, 0x02, 1, 0, 0]⟩ := by decide +kernel

/-- R191: 0xA5 on the line, first to last; a stop bit at space is a framing error. -/
theorem test_character_on_the_line :
    characterLevels 0xA5 = [.space, .mark, .space, .mark, .space, .space, .mark, .space, .mark, .mark] ∧
      sampledCharacter (characterLevels 0xA5) = some (.byte 0xA5) ∧
      sampledCharacter ((characterLevels 0xA5).dropLast ++ [.space]) = some .framingError ∧
      (Transmitter.sendingReply [0xA5, 0]).lineLevel 9 = .mark ∧
      (Transmitter.sendingReply [0xA5, 0]).lineLevel 10 = .space ∧
      (Transmitter.sendingReply [0xA5, 0]).lineLevel 20 = .mark ∧
      [0xA5, (0 : Byte)][19 / 10]? = some 0 ∧ characterTimeNs 0 = 520833 ∧ bitRate 3 = 115200 := by decide +kernel

theorem test_meets_O53 :
    (List.replicate 237 (0 : Byte)).length ≤ 237 ∧ serveFrame ⟨0x05, 9, [1, 0]⟩ State.reset = serveNoticeMask 1 State.reset ∧
      (serveFrame ⟨0x05, 9, [1]⟩ State.reset).2 = some [2] ∧ (serveFrame ⟨0x7F, 9, []⟩ State.reset).2 = some [1, 0x7F] := by
  decide +kernel

def assembling (a : Assembly) : State := putLink { Link.reset 0 with assembly := a } State.reset
theorem test_meets_O54 :
    (assembling .hunt).link.assembly = .hunt ∧ (assembling .length).link.assembly = .length ∧
      (2 ≤ (2 : Byte).toNat ∧ (240 : Byte).toNat ≤ 240) ∧ (1 : Byte).toNat < 2 ∧ 240 < (241 : Byte).toNat ∧
      (assembling .hunt).link.assembly ≠ .lineBreak ∧ (assembling .lineBreak).link.assembly = .lineBreak ∧
      ((assembling (.body 3 [])).link.assembly ≠ .hunt ∧ (assembling (.body 3 [])).link.assembly ≠ .lineBreak) ∧
      (after (.receivedCharacter (.byte 241) ⟨true, true⟩) (assembling .length)).link.counters.length = 1 ∧
      (after .gapTimerExpiry (assembling (.body 3 []))).link.counters.gap = 1 ∧
      (after .gapTimerExpiry (assembling .hunt)).link.counters.gap = 0 ∧
      (after .linkBreakEnd (assembling .lineBreak)).link.assembly = .hunt := by decide +kernel

/-- R196: a break leaves a waiting notice as it is. -/
theorem test_meets_O54_notice :
    (let n : Notice := ⟨FlagSet.empty, FlagSet.empty, 0, 0⟩
    let s := putUnit { unitWith 1 with notice := some n } State.reset
    s.plant.unit.notice = some n ∧ s.link.assembly ≠ .lineBreak ∧
      (after .linkBreak s).plant.unit.notice = some n) := by decide +kernel

theorem test_meets_O54_check :
    (crc (BitVec.ofNat 8 2 :: [0x70, 0x05])).toNat ≠ (0xD1 : Byte).toNat + 256 * (0x13 : Byte).toNat ∧
      (assembling (.check 2 [0x70, 0x05] [0xD1])).link.assembly = .check 2 [0x70, 0x05] [0xD1] ∧
      (after (.receivedCharacter (.byte 0x13) ⟨true, true⟩) (assembling (.check 2 [0x70, 0x05] [0xD1]))).link.counters.crc =
        1 ∧
      (after (.receivedCharacter (.byte 0x12) ⟨true, true⟩) (assembling (.check 2 [0x70, 0x05] [0xD1]))).link.slot =
        some ⟨0xF0, 0x05, [1, 0x70]⟩ := by decide +kernel

def linked (slot : Option LinkFrame) (queue : List LinkFrame) (t : Transmitter) : State :=
  putLink { Link.reset 0 with slot := slot, queue := queue, transmitter := t } State.reset
def noticed (flags : FlagSet) (holdoff : Option Nat) (notice : Option Notice) : State :=
  putUnit { unitWith 1 with pendingFlags := flags, holdoff := holdoff, notice := notice } State.reset
theorem test_meets_O55 :
    (let f : LinkFrame := ⟨0x01, 9, []⟩
    let n : Notice := ⟨FlagSet.empty, FlagSet.empty, 0, 0⟩
    RequestKind.ofByte 0x70 = none ∧ RequestKind.ofByte 0x7F = none ∧ (0x7E : Byte).toNat < 127 ∧
      (linked none [] .idle).link.takesAtOnce = true ∧ (linked (some f) [f] .idle).link.takesAtOnce = false ∧
      (linked (some f) [f] .idle).link.queue.length < 2 ∧ ¬ (linked (some f) [f, f] .idle).link.queue.length < 2 ∧
      ((linked none [f] .idle).link.free = true ∧ (linked none [f] .idle).link.queue = f :: []) ∧
      ((linked (some f) [] .idle).link.transmitter = .idle ∧ (linked (some f) [] .idle).link.slot = some f ∧
        (linked (some f) [] .idle).link.restart = .none) ∧
      ((noticed FlagSet.empty (some 800) (some n)).link.transmitter = .idle ∧
        (noticed FlagSet.empty (some 800) (some n)).link.slot = none ∧
        (noticed FlagSet.empty (some 800) (some n)).plant.unit.notice = some n ∧
        (noticed FlagSet.empty (some 800) (some n)).plant.unit.holdoff.isSome) ∧
      (linked none [] (.sendingReply [])).link.transmitter ≠ .idle ∧
      (noticed FlagSet.empty (some 0) none).plant.unit.holdoff = some 0 ∧ 0 ≤ State.reset.time.tick ∧
      (noticed (FlagSet.empty.set .trip) (some 0) none).plant.unit.pendingFlags.get .trip = true ∧
      (noticed (FlagSet.empty.set .trip) (some 0) none).plant.unit.notice = none ∧
      (after .noticeHoldoffExpiry (noticed (FlagSet.empty.set .trip) (some 0) none)).plant.unit.holdoff = some 800 ∧
      (after (.unknownKind (head true true) 0x7F []) State.reset).link.slot = some ⟨0xFE, 9, [1, 0x7F]⟩ ∧
      (after (.unknownKind (head true true) 0x70 []) (linked (some f) [f, f] .idle)).link.counters.overflow = 1 ∧
      (after (.requestExecutionStart ⟨true, true⟩) (linked none [f] .idle)).link.slot.map LinkFrame.kind = some 0x81 ∧
      (after .frameTransmitStart (linked (some f) [] .idle)).link.transmitter = .sendingReply f.bytes ∧
      (after .frameTransmitEnd (linked none [] (.sendingReply []))).link.transmitter = .idle) := by decide +kernel

theorem test_no_flag_is_pending : ∀ f, (noticed FlagSet.empty (some 0) none).plant.unit.pendingFlags.get f = false := by
  intro f
  cases f <;> rfl

theorem test_meets_O55_transmission :
    (let f : LinkFrame := ⟨0x01, 9, []⟩
    let g : LinkFrame := ⟨0x11, 8, []⟩
    let n : Notice := ⟨FlagSet.empty, FlagSet.empty, 0, 0⟩
    let pins : Pins := ⟨true, true⟩
    let trip := FlagSet.empty.set .trip
    let restarting (phase : RestartPhase) :=
      putLink { (linked (some f) [] (.sendingReply [])).link with restart := phase } State.reset
    RequestKind.ofByte g.kind = some .readSet ∧ RequestKind.accepts .readSet g.payload.length = false ∧
      (after (.requestExecutionStart pins) (linked none [g] .idle)).link.slot = some ⟨0x91, 8, [2]⟩ ∧
      (linked none [g] .idle).link.free = true ∧ (linked (some f) [g] .idle).link.free = false ∧
      (after (.requestExecutionStart pins) State.reset).panel.pins = pins ∧
      (linked (some f) [g] .idle).link.executing = none ∧
      (after .frameTransmitStart (linked (some f) [⟨0x07, 8, []⟩] .idle)).link.slot = some ⟨0x87, 8, [4]⟩ ∧
      (after .frameTransmitStart (after (.requestExecutionStart pins) (linked (some f) [⟨0x07, 8, []⟩] .idle))).link.slot =
        some ⟨0x87, 8, [0]⟩ ∧
      (after .frameTransmitStart (linked (some f) [g] .idle)).link.slot = some ⟨0x91, 8, [2]⟩ ∧
      (after .frameTransmitStart (linked (some f) [g] .idle)).link.queue = [] ∧
      ((noticed trip none (some n)).plant.unit.holdoff = none ∧
        (noticed trip none (some n)).plant.unit.pendingFlags.get .trip = true) ∧
      (after .frameTransmitStart (noticed trip none (some n))).plant.unit.holdoff = some 800 ∧
      (after .frameTransmitStart (noticed trip none (some n))).link.transmitter = .sendingNotice n.frame.bytes ∧
      (after .frameTransmitEnd (linked (some f) [] (.sendingNotice []))).link.transmitter =
        .sendingReply f.bytes ∧
      (restarting .replySending).link.transmitter ≠ .idle ∧ (restarting .taken).link.restart ≠ .replySending ∧
      (after .frameTransmitEnd (restarting .replySending)).link.transmitter = .idle ∧
      (after .frameTransmitEnd (restarting .replySending)).link.restart = .replySent) := by decide +kernel

def programming : State :=
  (let s := writing (.set 3 set5)
  waiting { s with store := { s.store with sets := s.store.sets.set 3 ⟨.programming .empty, none⟩ } })
theorem test_meets_O56 : programming.linkLaw ∧ ∃ t, step programming = .next t := by
  refine ⟨⟨by decide +kernel, by decide +kernel, by decide +kernel, fun n => ?_, ?_⟩, _, rfl⟩
  · by_cases h : n = 3
    · subst h
      exact ⟨fun _ => ⟨_, _, rfl⟩, fun _ => ⟨.empty, rfl⟩⟩
    · have hs : ∀ m : SetId, m ≠ 3 → ((programming.store.sets[m]).state = .valid ∨
        (programming.store.sets[m]).state = .empty) := by decide +kernel
      refine ⟨?_, ?_⟩
      · rintro ⟨b, hb⟩
        rcases hs n h with h' | h' <;> rw [h'] at hb <;> cases hb
      · rintro ⟨f, due, hw⟩
        cases hw
        exact absurd rfl h
  · refine ⟨?_, ?_⟩
    · rintro ⟨b, hb⟩; cases hb
    · rintro ⟨f, due, hw⟩; cases hw

/-! ### 11 -/

theorem test_meets_O57 :
    State.reset.link.takesAtOnce = true ∧ (15 : Byte).toNat < 16 ∧ 16 ≤ (16 : Byte).toNat ∧ 1 ≤ (1 : Byte).toNat ∧
      (6 : Byte).toNat ≤ 6 ∧ (0 : Byte).toNat < 1 ∧ 6 < (7 : Byte).toNat ∧
      (List.replicate 237 (0 : Byte)).length ≤ 237 ∧
      (after (.readSet (head false false) 15) State.reset).link.slot = some ⟨0x91, 9, [0, 15, 0, 0]⟩ ∧
      (after (.readFeeder (head false false) 7) State.reset).link.slot = some ⟨0x98, 9, [3]⟩ := by decide +kernel

/-- R161's worked value and the layouts of R209: a counter at 2^64 - 1 mJ reads 5 124 095 576 030 Wh, a VALID record
its field block. -/
theorem test_meets_O57_contents :
    (let s := bound State.reset
    let full := { s with energy := { s.energy with rectPlus := 2 ^ 64 - 1 } }
    (5 : Byte).toNat = (5 : SetId).val ∧ (s.store.sets[(5 : SetId)]).stored = some set5 ∧
      (s.store.sets[(5 : SetId)]).state = .valid ∧ (s.store.sets[(4 : SetId)]).state = .empty ∧
      s.store.station.stored = some station ∧ s.store.station.state = .valid ∧
      State.reset.store.station.state = .empty ∧
      ((after (.readSet (head false false) 5) s).link.slot.map (fun f => f.payload.take 6)) =
        some [0, 5, 2, 1, 0x70, 0x17] ∧
      ((after (.readStationRecord (head false false)) s).link.slot.map (fun f => f.payload.length)) = some 58 ∧
      ((after (.readEnergy (head false false)) full).link.slot.map
        (fun f => leValue ((f.payload.drop 73).take 6))) = some 5124095576030 ∧
      ((after (.readMap (head false false)) s).link.slot.map (fun f => f.payload.take 6)) =
        some [0, 5, 5, 5, 5, 255] ∧
      ((after (.readStatus (head true false)) s).link.slot.map (fun f => f.payload.take 3)) = some [0, 0, 1]) := by
  decide +kernel

theorem test_reads_have_their_lengths :
    (replyReadMeasurements State.reset).length = 1 + 19 * 6 + 3 + 7 ∧ (replyReadMap State.reset).length = 1 + 24 + 6 + 18 ∧
      (replyReadAlarms State.reset).length = 1 + 9 + 9 + 1 := by decide +kernel

/-- R204: a reply has one length whether its optional parts are there or not. -/
theorem test_read_layouts :
    (let firing := putRect (firing .regulating) (bound State.reset)
    (1 : Byte).toNat = FeederId.number .f1 ∧
      (replyReadRectifier firing).length = 1 + 3 + 13 + 4 + 109 + 12 * 3 + 6 ∧
      (replyReadRectifier State.reset).length = (replyReadRectifier firing).length ∧
      ((replyReadRectifier firing).drop 21).take 13 = [1, 0, 0, 0, 0, 0, 0, 0x20, 0x4E, 0x2C, 1, 0x57, 4] ∧
      (replyReadRail State.reset).length = 1 + 6 + 1 + 3 + 1 + 4 + 1 + 12 + 3 + 17 ∧
      (replyReadFeeder .f1 State.reset).length = 1 + 1 + 32 + 70) := by decide +kernel

theorem test_meets_O58 :
    State.reset.link.takesAtOnce = true ∧ (head false true).pins.remote = false ∧ (head true false).pins.remote = true ∧
      State.reset.link.transmitter = .idle ∧
      (after (.setTime (head false false) 86400000) State.reset).time.unsync = false ∧
      (after (.restart (head true false)) State.reset).link.slot = some ⟨0x87, 9, [0]⟩ ∧
      (after (.restart (head true false)) State.reset).link.restart = .taken := by decide +kernel

/-- A Restart taken while a notice is on the line: its reply follows the notice, and the reset follows the reply. -/
theorem test_meets_O58_restart :
    (let x : ResetInputs := ⟨2, 9, true, 0, 0, []⟩
    let t1 := after (.restart (head true false)) (linked none [] (.sendingNotice []))
    let t2 := after .frameTransmitEnd t1
    let t3 := after .frameTransmitEnd t2
    (linked none [] (.sendingNotice [])).link.takesAtOnce = true ∧ t1.link.restart ≠ .replySent ∧
      t2.link.transmitter = .sendingReply (LinkFrame.bytes ⟨0x87, 9, [0]⟩) ∧ t2.link.restart = .replySending ∧
      after (.restartReset x) t2 = t2 ∧ t3.link.restart = .replySent ∧
      (after (.restartReset x) t3).link.rate = 2 ∧ (after (.restartReset x) t3).panel.cause = .restartRequest) := by
  decide +kernel

def cutWrite : State :=
  (let s := writing (.mapEntry .f1 .unknown (some 4))
  putLink { s.link with restart := .replySent } s)
theorem test_meets_O59 :
    (let x : ResetInputs := ⟨3, 9, true, 5, 0, []⟩
    (after (.powerOnReset ⟨3, 9, false, 0, 0, []⟩) State.reset).time.source = .fallback ∧
      (after (.pinReset x) State.reset).plant.unit.journal.length = 14 ∧
      (after (.pinReset x) (atTime 6 6 0 State.reset)).time.eighth = 4 ∧
      cutWrite.link.restart = .replySent ∧
      cutWrite.store.write = some ⟨.mapEntry .f1 .unknown (some 4), 160⟩ ∧
      (after (.restartReset x) cutWrite).panel.cause = .restartRequest ∧
      (after (.restartReset x) cutWrite).link.restart = .none) := by decide +kernel

/-- R49, R173, R190: the start-up check of the sets and the station record, and what the records and notices keep. -/
theorem test_meets_O59_store :
    (let s := writing (.set 4 set5)
    let s := { s with store := { s.store with sets := s.store.sets.set 4 ⟨.programming .empty, none⟩ } }
    let old : FaultRecord :=
      ⟨.f1, .rise, Stamp.powerOn, ⟨.rise, Stamp.powerOn, 0, 0, none, 0, none⟩, none, List.replicate 32 ⟨1, 2, 3⟩⟩
    let s := putRecords { RecordStore.reset with slots := #v[.filling old, .held old, .free, .complete old]
                                                 claims := [3, 0, 1] } s
    let t := after (.pinReset ⟨3, 9, true, 5, 0, [.station { station with tf := 51 }]⟩) s
    (s.store.sets[(4 : SetId)]).state = .programming .empty ∧ (t.store.sets[(4 : SetId)]).state = .invalid ∧
      t.store.sets[(5 : SetId)] = ⟨.valid, some set5⟩ ∧ t.store.sets[(0 : SetId)] = ⟨.empty, none⟩ ∧
      t.store.station = ⟨.invalid, some { station with tf := 51 }⟩ ∧ (t.store.map.get .f1).get .single = some 5 ∧
      t.store.inUse[(5 : SetId)] = 1 ∧ t.plant.records.claims = [3, 1] ∧
      t.plant.records.rings.get .f2 = List.replicate 32 ⟨0, 0, 0⟩ ∧ t.plant.unit.notice = none) := by decide +kernel

/-- R12, R13: the qualification of a crystal return goes on through a reset, from the last interruption in it. -/
theorem test_crystal_return_through_a_reset :
    (let run (x : ResetInputs) := (after (.pinReset x) (inFallback 300)).time.crystalRun
    run ⟨0, 0, true, 400, 0, []⟩ = 700 ∧ run ⟨0, 0, true, 500, 0, []⟩ = 800 ∧ run ⟨0, 0, true, 501, 0, []⟩ = 800 ∧
      run ⟨0, 0, false, 400, 150, []⟩ = 150 ∧ run ⟨0, 0, false, 400, 0, []⟩ = 0 ∧
      run ⟨0, 0, false, 900, 900, []⟩ = 800) := by decide +kernel

/-- R175, R177: the start-up entries of a reset push the oldest entries out of a journal that they fill. -/
theorem test_reset_of_a_full_journal :
    (let old : Entry := ⟨7, Stamp.powerOn, .station, .clockFallback, [1]⟩
    let s := putUnit { State.reset.plant.unit with journal := List.replicate 250 old, nextIndex := 9 } State.reset
    let t := after (.pinReset ⟨3, 9, true, 5, 0, []⟩) s
    t.plant.unit.journal.length = 256 ∧
      (t.plant.unit.journal.drop 249).head?.map (fun y => (y.index, y.kind, y.details)) =
        some (9, .startUp, [(ResetCause.resetPin.code : Int), 250])) := by decide +kernel

/-- R49 step 3: a map entry whose write a reset cut off is NONE, and RECORD_INVALID names it. -/
theorem test_cut_map_entry_is_reported :
    (let t := after (.pinReset ⟨0, 0, true, 0, 0, []⟩) cutWrite
    (t.plant.unit.journal.filter (fun y => y.kind = .recordInvalid)).map Entry.details = [[17, 1, 3]] ∧
      t.store.entryOf .f1 = none) := by decide +kernel

end Sys2Proof.Tests
end

section
/-! PROOFS. The laws at the reset state (O60). -/

namespace Sys2Proof.Machine

theorem bindingLaw_reset : State.reset.bindingLaw := by
  refine ⟨fun k => ?_, by decide⟩
  cases k <;> rfl

theorem attemptsLaw_reset : State.reset.attemptsLaw := fun k => by cases k <;> decide

theorem Item.lawful_reset (i : ItemId) : Item.reset.lawful i := by
  simp [Item.lawful, Item.reset]

theorem Sequencer.lawful_reset : Sequencer.reset.lawful := by
  simp [Sequencer.lawful, Sequencer.reset]

theorem itemLaw_reset : State.reset.itemLaw := fun i => by
  have h : State.reset.plant.item i = Item.reset := PerItem.get_all _ i
  exact h ▸ Item.lawful_reset i

theorem feederLaw_reset : State.reset.feederLaw := by
  have h (k : FeederId) : State.reset.plant.feeder k = Sequencer.reset := Six.get_all _ k
  exact ⟨fun k => h k ▸ Sequencer.lawful_reset, fun k => by rw [h]; exact ⟨nofun, nofun⟩⟩

theorem rectifierLaw_reset : State.reset.rectifierLaw := ⟨nofun, nofun, fun _ => ⟨rfl, by decide⟩⟩

@[simp] theorem RecordStore.slots_reset (n : Nat) (h : n < 4) : RecordStore.reset.slots[n] = .free :=
  Vector.getElem_replicate h

theorem recordLaw_reset : State.reset.recordLaw := by
  have store : State.reset.plant.records = RecordStore.reset := rfl
  have claims : RecordStore.reset.claims = [] := rfl
  have hold : RecordStore.reset.hold = none := rfl
  have rings (k : FeederId) : (RecordStore.reset.rings.get k).length = 32 := by cases k <;> rfl
  simp [State.recordLaw, store, claims, hold, rings, Slot.isFree, Slot.lawful]

theorem journalLaw_reset : State.reset.journalLaw := by
  refine ⟨by decide, fun n x hx => ?_⟩
  have hn : n < 7 := (List.getElem?_eq_some_iff.1 hx).1
  have every : ∀ n : Fin 7, ∀ y ∈ startUpEntries[n.val]?, y.index = 7 - BitVec.ofNat 16 (7 - n.val) := by decide
  exact every ⟨n, hn⟩ x hx

/-- R18, R64, R190: what is live at the reset is what its start-up has latched. -/
theorem live_reset : State.reset.plant.live State.reset.env = State.reset.plant.unit.latched := by decide

theorem alarmLaw_reset : State.reset.alarmLaw :=
  ⟨fun _ h => live_reset ▸ h, fun _ => ⟨.supplyLost, rfl⟩, fun _ => rfl⟩

theorem noticeLaw_reset : State.reset.noticeLaw := by
  refine ⟨fun f h => absurd h (by cases f <;> decide), fun ⟨f, h⟩ => absurd h (by cases f <;> decide)⟩

theorem linkLaw_reset : State.reset.linkLaw := by
  refine ⟨by decide, nofun, by decide, fun n => ?_, ⟨nofun, nofun⟩⟩
  have empty : ∀ n : SetId, State.reset.store.sets[n] = ⟨.empty, none⟩ := by decide
  rw [empty]
  exact ⟨nofun, nofun⟩

theorem everyCounter_reset {q : Nat → Prop} (h : q 0) : Energy.reset.everyCounter q := by
  refine ⟨fun k => ?_, fun k => ?_, h, h⟩ <;> cases k <;> exact h

/-- R13, R49: a power-on reset of a part whose store was never written leaves `State.reset` again. -/
theorem powerOnReset_reset : exec (.powerOnReset ⟨0, 0, true, 0, 0, []⟩) State.reset = .next State.reset := by
  rfl

/-- Settles O60, law by law. -/
theorem lawsHoldAtReset : Obligations.LawsHoldAtReset :=
  ⟨bindingLaw_reset, attemptsLaw_reset, itemLaw_reset, feederLaw_reset, rectifierLaw_reset, recordLaw_reset,
    journalLaw_reset, alarmLaw_reset, noticeLaw_reset, linkLaw_reset, everyCounter_reset (Nat.zero_le _),
    powerOnReset_reset⟩

end Sys2Proof.Machine
end

section
/-! PROOFS. What the journal and alarm unit keeps as entries are appended, said once for a list of entries. -/

namespace Sys2Proof.Machine

/-! ### What is appended to the journal -/

/-- R175, R176: the journal after entries have been appended one after another; a full one loses its oldest. -/
def withEntries (journal l : List Entry) : List Entry := l.foldl (fun j x => (j ++ [x]).rtake 256) journal

theorem withEntries_append (journal l m : List Entry) :
    withEntries journal (l ++ m) = withEntries (withEntries journal l) m := List.foldl_append

theorem withEntries_cons (journal l : List Entry) (x : Entry) :
    withEntries journal (x :: l) = withEntries ((journal ++ [x]).rtake 256) l := List.foldl_cons ..

theorem withEntries_singleton (journal : List Entry) (x : Entry) :
    withEntries journal [x] = (journal ++ [x]).rtake 256 := by
  simp only [withEntries, List.foldl_cons, List.foldl_nil]

theorem rtake_rtake_append {α : Type} (n : Nat) (a b : List α) : (a.rtake n ++ b).rtake n = (a ++ b).rtake n := by
  simp only [List.rtake_eq_reverse_take_reverse, List.reverse_append, List.reverse_reverse, List.take_append,
    List.take_take]
  congr 3
  omega

/-- The entries appended last push out the same entries together as one by one. -/
theorem withEntries_eq_rtake (journal : List Entry) {l : List Entry} (h : l ≠ []) :
    withEntries journal l = (journal ++ l).rtake 256 := by
  induction l generalizing journal with
  | nil => exact absurd rfl h
  | cons x l ih =>
    rcases eq_or_ne l [] with rfl | hl
    · exact withEntries_singleton journal x
    · rw [withEntries_cons, ih _ hl, rtake_rtake_append, List.append_assoc, List.singleton_append]

/-- At most 256 entries appended together all stay. -/
theorem mem_withEntries {journal l : List Entry} {x : Entry} (hx : x ∈ l) (hl : l.length ≤ 256) :
    x ∈ withEntries journal l := by
  rw [withEntries_eq_rtake _ (List.ne_nil_of_mem hx), List.rtake, List.drop_append_of_le_length (by simp; omega)]
  exact List.mem_append_right _ hx

/-- What appending the entries l makes of the unit, with the attention flags and alarms that come with it: no flag is
cleared, and with every flag masked nothing becomes pending. -/
structure JournalUnit.Logs (l : List Entry) (u v : JournalUnit) : Prop where
  journal : v.journal = withEntries u.journal l
  latched : ∀ a, u.latched.get a = true → v.latched.get a = true
  attention : ∀ f, u.attention.get f = true → v.attention.get f = true
  masked : u.mask = FlagSet.empty →
    v.mask = FlagSet.empty ∧ v.pendingFlags = u.pendingFlags ∧ v.holdoff = u.holdoff ∧ v.notice = u.notice

namespace JournalUnit

variable {e : Env} {u v w : JournalUnit} {l m : List Entry}

theorem Logs.mem {y : Entry} (h : Logs l u v) (hy : y ∈ l) (few : l.length ≤ 256) : y ∈ v.journal :=
  h.journal ▸ mem_withEntries hy few

theorem Logs.refl (u : JournalUnit) : Logs [] u u := ⟨rfl, fun _ h => h, fun _ h => h, fun h => ⟨h, rfl, rfl, rfl⟩⟩

theorem Logs.trans (a : Logs l u v) (b : Logs m v w) : Logs (l ++ m) u w where
  journal := by rw [withEntries_append, ← a.journal, b.journal]
  latched x h := b.latched x (a.latched x h)
  attention f h := b.attention f (a.attention f h)
  masked h := by
    obtain ⟨h1, p1, o1, n1⟩ := a.masked h
    obtain ⟨h2, p2, o2, n2⟩ := b.masked h1
    exact ⟨h2, p2.trans p1, o2.trans o1, n2.trans n1⟩

/-- R187: a flag that is not enabled joins no pending set. -/
theorem raise_masked {f : AttentionFlag} (h : u.mask = FlagSet.empty) :
    ∃ attention, raise e f u = { u with attention := attention } := by
  unfold raise
  split
  · exact ⟨_, rfl⟩
  · simp only [h, FlagSet.get_empty, Bool.false_eq_true, if_false]
    exact ⟨_, rfl⟩

theorem logs_raise (f : AttentionFlag) (u : JournalUnit) : Logs [] u (raise e f u) where
  journal := raise_journal ..
  latched a h := by rwa [raise_latched]
  attention g h := by rw [raise_attention]; split <;> trivial
  masked h := by
    obtain ⟨a, ha⟩ := raise_masked (e := e) (f := f) h
    rw [ha]
    exact ⟨h, rfl, rfl, rfl⟩

theorem logs_latch (a : Alarm) (u : JournalUnit) : Logs [] u (latch e a u) := by
  unfold latch
  split
  · exact .refl u
  · have set : Logs [] u { u with latched := u.latched.set a, contact := true } :=
      ⟨rfl, fun b h => by rw [AlarmFlags.get_set]; split <;> trivial, fun _ h => h, fun h => ⟨h, rfl, rfl, rfl⟩⟩
    exact set.trans (logs_raise _ _)

theorem logs_latchIfNew (a : Alarm) (before now : Bool) (u : JournalUnit) :
    Logs [] u (latchIfNew e a before now u) := by
  unfold latchIfNew
  split
  · exact logs_latch a u
  · exact .refl u

theorem post_journal_withEntries (s : Source) (k : Kind) (d : List Int) (u : JournalUnit) :
    (post e s k d u).journal = withEntries u.journal [⟨u.nextIndex, e.time.stamp, s, k, d⟩] := by
  have kept : u.journal.rtake 255 = if 256 ≤ u.journal.length then u.journal.drop (u.journal.length + 1 - 256)
      else u.journal := by
    rw [List.rtake]
    split
    · rw [show u.journal.length + 1 - 256 = u.journal.length - 255 by omega]
    · rw [Nat.sub_eq_zero_of_le (by omega), List.drop_zero]
  rw [post_journal, withEntries_singleton, List.rtake_concat_succ, kept]

theorem logs_post (s : Source) (k : Kind) (d : List Int) (u : JournalUnit) :
    Logs [⟨u.nextIndex, e.time.stamp, s, k, d⟩] u (post e s k d u) := by
  have after : ∃ journal nextIndex,
      Logs [] { u with journal := journal, nextIndex := nextIndex } (post e s k d u) := by
    unfold post
    dsimp only
    split
    · split
      · exact ⟨_, _, (logs_latch _ _).trans (logs_raise _ _)⟩
      · exact ⟨_, _, logs_latch _ _⟩
    · split
      · exact ⟨_, _, logs_raise _ _⟩
      · exact ⟨_, _, .refl _⟩
  obtain ⟨j, n, after⟩ := after
  exact ⟨post_journal_withEntries s k d u, after.latched, after.attention, after.masked⟩

end JournalUnit

end Sys2Proof.Machine
end

section
/-! PROOFS. The start-up that follows each reset: its entries, the first resolution of the bindings, the check of the
store; and what the three resets leave (O59). -/

namespace Sys2Proof.Machine

/-! ### The start-up -/

/-- What the events of a start-up do: they append the entries l, and change nothing beside the journal and alarm unit,
the bindings and the in-use counts. -/
structure State.StartsUp (l : List Entry) (s t : State) : Prop where
  frame : ∃ unit binding inUse, t =
    { s with
      store := { s.store with binding := binding, inUse := inUse }
      plant := { s.plant with unit := unit } }
  logs : JournalUnit.Logs l s.plant.unit t.plant.unit

namespace State

variable {s t r : State} {l m : List Entry}

theorem StartsUp.trans (a : StartsUp l s t) (b : StartsUp m t r) : StartsUp (l ++ m) s r where
  frame := by
    obtain ⟨_, _, _, rfl⟩ := a.frame
    obtain ⟨u, c, n, rfl⟩ := b.frame
    exact ⟨u, c, n, rfl⟩
  logs := a.logs.trans b.logs

theorem StartsUp.refl (s : State) : StartsUp [] s s := ⟨⟨_, _, _, rfl⟩, .refl _⟩

/-- Events that append one entry each append as many as they are. -/
theorem startsUp_foldl {α : Type} {f : State → α → State} (h : ∀ s a, ∃ y, StartsUp [y] s (f s a)) (as : List α)
    (s : State) : ∃ l, l.length = as.length ∧ StartsUp l s (as.foldl f s) := by
  induction as generalizing s with
  | nil => exact ⟨[], rfl, .refl s⟩
  | cons a as ih =>
    obtain ⟨y, hy⟩ := h s a
    obtain ⟨l, hl, rest⟩ := ih (f s a)
    exact ⟨y :: l, by rw [List.length_cons, hl, List.length_cons], hy.trans rest⟩

theorem startsUp_postStartUp (s : State) :
    StartsUp [⟨s.plant.unit.nextIndex, s.time.stamp, .station, .startUp,
      [(s.panel.cause.code : Int), (s.plant.unit.journal.length : Int)]⟩] s s.postStartUp :=
  ⟨⟨_, _, _, rfl⟩, JournalUnit.logs_post (e := s.env) ..⟩

theorem startsUp_startConditions (s : State) : StartsUp [] s s.startConditions :=
  ⟨⟨_, _, _, rfl⟩, ((JournalUnit.logs_latchIfNew ..).trans (JournalUnit.logs_latchIfNew ..)).trans
    (JournalUnit.logs_latchIfNew ..)⟩

theorem startsUp_postStartFallback (s : State) : ∃ l, l.length ≤ 1 ∧ StartsUp l s s.postStartFallback := by
  unfold postStartFallback
  split
  · exact ⟨[_], le_refl _, ⟨_, _, _, rfl⟩, JournalUnit.logs_post ..⟩
  · exact ⟨[], Nat.zero_le _, .refl s⟩

theorem startsUp_postRecordInvalid (record reason entry : Nat) (s : State) :
    StartsUp [⟨s.plant.unit.nextIndex, s.time.stamp, .store, .recordInvalid, [(record : Int), reason, entry]⟩] s
      (s.postRecordInvalid record reason entry) :=
  ⟨⟨_, _, _, rfl⟩, JournalUnit.logs_post (e := s.env) ..⟩

theorem startsUp_postInvalidSets (s : State) : ∃ l, l.length ≤ 16 ∧ StartsUp l s s.postInvalidSets := by
  obtain ⟨l, hl, h⟩ := startsUp_foldl (f := fun s (n : SetId) => s.postRecordInvalid n.val 1 0)
    (fun s n => ⟨_, startsUp_postRecordInvalid n.val 1 0 s⟩)
    (allSets.filter (fun n => (s.store.sets[n]).isInvalid)) s
  exact ⟨l, hl ▸ List.length_filter_le _ allSets, h⟩

/-- The entries of R49 step 3 beside those of the sets; a map entry that was cut off is named by one. -/
theorem startsUp_postInvalidRest (cut : Option (FeederId × FeedState)) (s : State) :
    ∃ l, l.length ≤ 2 ∧ StartsUp l s (s.postInvalidRest cut) ∧
      ∀ k f, cut = some (k, f) →
        ∃ y ∈ l, y.source = .store ∧ y.kind = .recordInvalid ∧ y.details = [17, 1, (entryNumber k f : Int)] := by
  have station : ∃ l, l.length ≤ 1 ∧
      StartsUp l s (if s.store.station.isInvalid then s.postRecordInvalid 16 1 0 else s) := by
    split
    · exact ⟨_, le_refl _, startsUp_postRecordInvalid 16 1 0 s⟩
    · exact ⟨[], Nat.zero_le _, .refl s⟩
  obtain ⟨l, hl, h⟩ := station
  unfold postInvalidRest
  cases cut with
  | none => exact ⟨l, by omega, h, nofun⟩
  | some entry =>
    refine ⟨l ++ [_], by simpa using hl, h.trans (startsUp_postRecordInvalid 17 1 _ _), fun k f hc => ?_⟩
    cases hc
    exact ⟨_, List.mem_append_right _ (List.mem_singleton_self _), rfl, rfl, rfl⟩

theorem startsUp_settingsCondition (before : Bool) (s : State) : StartsUp [] s (s.settingsCondition before) :=
  ⟨⟨_, _, _, rfl⟩, JournalUnit.logs_latchIfNew ..⟩

theorem startsUp_bindAtStart (s : State) (k : FeederId) : ∃ y, StartsUp [y] s (s.bindAtStart k) :=
  ⟨_, ⟨_, _, _, rfl⟩, (JournalUnit.logs_post ..).trans (JournalUnit.logs_latchIfNew ..)⟩

/-- The start-up from the conditions of the first instant on. -/
theorem startsUp_afterConditions (cut : Option (FeederId × FeedState)) (s : State) :
    ∃ l, l.length ≤ 25 ∧ StartsUp l s.postStartUp.startConditions (s.startUp cut) ∧
      ∀ k f, cut = some (k, f) →
        ∃ y ∈ l, y.source = .store ∧ y.kind = .recordInvalid ∧ y.details = [17, 1, (entryNumber k f : Int)] := by
  obtain ⟨l1, n1, h1⟩ := startsUp_postStartFallback s.postStartUp.startConditions
  obtain ⟨l2, n2, h2⟩ := startsUp_postInvalidSets s.postStartUp.startConditions.postStartFallback
  obtain ⟨l3, n3, h3, cutEntry⟩ :=
    startsUp_postInvalidRest cut s.postStartUp.startConditions.postStartFallback.postInvalidSets
  obtain ⟨l4, n4, h4⟩ := startsUp_foldl startsUp_bindAtStart FeederId.all
    ((s.postStartUp.startConditions.postStartFallback.postInvalidSets.postInvalidRest cut).settingsCondition false)
  refine ⟨l1 ++ (l2 ++ (l3 ++ ([] ++ l4))), ?_, ?_, fun k f hc => ?_⟩
  · simp only [FeederId.all, List.length_cons, List.length_nil] at n4
    simp only [List.length_append, List.length_nil]
    omega
  · exact h1.trans (h2.trans (h3.trans ((startsUp_settingsCondition false _).trans h4)))
  · obtain ⟨y, hy, isEntry⟩ := cutEntry k f hc
    exact ⟨y, by simp [hy], isEntry⟩

/-- R177: the entries of a start-up begin with START_UP. -/
theorem startsUp_startUp (cut : Option (FeederId × FeedState)) (s : State) :
    ∃ l, l.length ≤ 25 ∧
      StartsUp (⟨s.plant.unit.nextIndex, s.time.stamp, .station, .startUp,
        [(s.panel.cause.code : Int), (s.plant.unit.journal.length : Int)]⟩ :: l) s (s.startUp cut) ∧
      ∀ k f, cut = some (k, f) →
        ∃ y ∈ l, y.source = .store ∧ y.kind = .recordInvalid ∧ y.details = [17, 1, (entryNumber k f : Int)] := by
  obtain ⟨l, hl, h, cutEntry⟩ := startsUp_afterConditions cut s
  exact ⟨l, hl, (startsUp_postStartUp s).trans ((startsUp_startConditions _).trans h), cutEntry⟩

/-- R18, R184: a supply that is lost at the first instant is latched. -/
theorem startUp_supplyLost (cut : Option (FeederId × FeedState)) {s : State} (h : s.plant.tracker.supplyLost = true) :
    (s.startUp cut).plant.unit.latched.supplyLost = true := by
  obtain ⟨l, -, after, -⟩ := startsUp_afterConditions cut s
  refine after.logs.latched .supplyLost ?_
  refine ((JournalUnit.logs_latchIfNew ..).trans (JournalUnit.logs_latchIfNew ..)).latched .supplyLost ?_
  have latches (u : JournalUnit) (e : Env) :
      (JournalUnit.latchIfNew e .supplyLost false s.plant.tracker.supplyLost u).latched.get .supplyLost = true := by
    rw [h]
    exact (JournalUnit.latch_latched ..).trans (if_pos rfl)
  exact latches _ _

end State

/-! ### In-use counts -/

/-- How often a binding counts as a use of a set: once or not at all. -/
def Binding.uses (b : Binding) (n : SetId) : Nat := if b.set = some n then 1 else 0

theorem Store.useCount_eq_sum (st : Store) (n : SetId) :
    st.useCount n = (FeederId.all.map (fun k => (st.binding.get k).uses n)).sum := by
  unfold Store.useCount Binding.uses
  induction FeederId.all with
  | nil => rfl
  | cons k l ih =>
    rw [List.map_cons, List.sum_cons, ← ih]
    by_cases h : (st.binding.get k).set = some n <;> simp [h, Nat.add_comm]

theorem releaseUse_getElem (b : Binding) (counts : Vector Nat 16) (n : SetId) :
    (releaseUse b.set counts)[n] = counts[n] - b.uses n := by
  unfold releaseUse Binding.uses
  cases b.set with
  | none => rfl
  | some m =>
    simp only [Option.some.injEq, Fin.getElem_fin, Vector.getElem_set, Fin.ext_iff]
    split <;> simp [*]

theorem takeUse_getElem (b : Binding) (counts : Vector Nat 16) (n : SetId) :
    (takeUse b.set counts)[n] = counts[n] + b.uses n := by
  unfold takeUse Binding.uses
  cases b.set with
  | none => rfl
  | some m =>
    simp only [Option.some.injEq, Fin.getElem_fin, Vector.getElem_set, Fin.ext_iff]
    split <;> simp [*]

theorem Store.useCount_replaceBinding (st : Store) (k : FeederId) (new : Binding) (n : SetId) :
    (st.replaceBinding k new).useCount n + (st.binding.get k).uses n = st.useCount n + new.uses n := by
  simp only [Store.useCount_eq_sum, Store.replaceBinding, Six.get_set, FeederId.all, List.map_cons, List.map_nil,
    List.sum_cons, List.sum_nil]
  cases k <;> simp <;> omega

/-- R67: the counts stay those of the bindings when a binding is replaced. -/
theorem Store.inUse_replaceBinding {st : Store} (h : ∀ n : SetId, st.inUse[n] = st.useCount n) (k : FeederId)
    (new : Binding) (n : SetId) : (st.replaceBinding k new).inUse[n] = (st.replaceBinding k new).useCount n := by
  have count := st.useCount_replaceBinding k new n
  have used : (st.binding.get k).uses n ≤ st.useCount n := by
    rw [Store.useCount_eq_sum]
    exact List.le_sum_of_mem (List.mem_map_of_mem (FeederId.mem_everyFeeder k))
  have counted : (st.replaceBinding k new).inUse[n] = st.useCount n - (st.binding.get k).uses n + new.uses n := by
    rw [← h, ← releaseUse_getElem, ← takeUse_getElem]
    rfl
  omega

/-! ### The first resolution of the bindings -/

@[simp] theorem Store.resolved_replaceBinding (st : Store) (k j : FeederId) (new : Binding) :
    (st.replaceBinding k new).resolved j = st.resolved j := rfl

/-- R49 step 4: the bindings of these feeders resolved, one after another. -/
def Store.bindEach (ks : List FeederId) (st : Store) : Store :=
  ks.foldl (fun st k => st.replaceBinding k (st.resolved k)) st

theorem Store.bindEach_binding {ks : List FeederId} {st : Store} {j : FeederId}
    (h : j ∈ ks ∨ st.binding.get j = st.resolved j) :
    (st.bindEach ks).binding.get j = (st.bindEach ks).resolved j := by
  induction ks generalizing st with
  | nil => exact h.resolve_left List.not_mem_nil
  | cons k ks ih =>
    refine ih ?_
    simp only [List.mem_cons] at h
    rw [Store.resolved_replaceBinding]
    by_cases hj : j = k
    · exact .inr (by simp [Store.replaceBinding, hj])
    · exact (h.imp_left (fun h => h.resolve_left hj)).imp_right (by simp [Store.replaceBinding, hj])

theorem Store.bindEach_inUse {ks : List FeederId} {st : Store} (h : ∀ n : SetId, st.inUse[n] = st.useCount n)
    (n : SetId) : (st.bindEach ks).inUse[n] = (st.bindEach ks).useCount n := by
  induction ks generalizing st with
  | nil => exact h n
  | cons k ks ih => exact ih (Store.inUse_replaceBinding h k _)

namespace State

theorem foldl_store {α : Type} {f : State → α → State} (h : ∀ s a, (f s a).store = s.store) (as : List α) (s : State) :
    (as.foldl f s).store = s.store := by
  induction as generalizing s with
  | nil => rfl
  | cons a as ih => exact (ih (f s a)).trans (h s a)

theorem foldl_bindAtStart_store (ks : List FeederId) (s : State) :
    (ks.foldl bindAtStart s).store = s.store.bindEach ks := by
  induction ks generalizing s with
  | nil => rfl
  | cons k ks ih => exact ih (s.bindAtStart k)

theorem postStartFallback_store (s : State) : s.postStartFallback.store = s.store := by
  unfold postStartFallback
  split <;> rfl

theorem postInvalidSets_store (s : State) : s.postInvalidSets.store = s.store :=
  foldl_store (f := fun s (n : SetId) => s.postRecordInvalid n.val 1 0) (fun _ _ => rfl) _ s

theorem postInvalidRest_store (cut : Option (FeederId × FeedState)) (s : State) :
    (s.postInvalidRest cut).store = s.store := by
  unfold postInvalidRest
  dsimp only
  split <;> split <;> rfl

theorem startUp_store (cut : Option (FeederId × FeedState)) (s : State) :
    (s.startUp cut).store = s.store.bindEach FeederId.all := by
  unfold startUp
  dsimp only
  rw [foldl_bindAtStart_store, settingsCondition, onPlant_store, postInvalidRest_store, postInvalidSets_store,
    postStartFallback_store]
  rfl

end State

/-! ### The check of the store -/

theorem mapSets_getElem (f : StoredRecord SetFields → StoredRecord SetFields)
    (v : Vector (StoredRecord SetFields) 16) (n : SetId) : (mapSets f v)[n] = f v[n] := by
  fin_cases n <;> rfl

/-- R49 step 1, by the state in which the record is found. -/
theorem StoredRecord.startUp_cases {α : Type} (words : α → List Word16) (left : α) (r : StoredRecord α) :
    ((∃ before, r.state = .programming before) → (r.startUp words left).state = .invalid) ∧
    (r.state = .empty → r.startUp words left = ⟨.empty, none⟩) ∧
    ∀ f, r.stored = some f → r.state = .valid ∨ r.state = .invalid →
      r.startUp words left =
        ⟨if ((words f).map BitVec.toNat).sum % 65536 = 65535 then .valid else .invalid, some f⟩ := by
  obtain ⟨state, stored⟩ := r
  cases state with
  | empty => exact ⟨nofun, fun _ => rfl, nofun⟩
  | programming before => exact ⟨fun _ => rfl, nofun, nofun⟩
  | valid => exact ⟨nofun, nofun, by rintro f rfl -; simp [StoredRecord.startUp, checkWordRule]⟩
  | invalid => exact ⟨nofun, nofun, by rintro f rfl -; simp [StoredRecord.startUp, checkWordRule]⟩

theorem MapRow.get_set (m : MapRow) (f g : FeedState) (x : Option SetId) :
    (m.set f x).get g = if f = g then x else m.get g := by
  cases f <;> cases g <;> rfl

namespace Store

theorem setEntry_map (st : Store) (j k : FeederId) (f g : FeedState) (x : Option SetId) :
    ((st.setEntry j f x).map.get k).get g = if j = k ∧ f = g then x else (st.map.get k).get g := by
  rw [setEntry, Six.get_set]
  by_cases h : k = j
  · subst h
    simp [MapRow.get_set]
  · simp [h, Ne.symm h]

/-- What a disturbance of stored contents leaves alone. -/
theorem disturb_keeps (st : Store) (x : FoundRecord) :
    (st.disturb x).map = st.map ∧ (st.disturb x).write = st.write := by
  cases x <;> exact ⟨rfl, rfl⟩

theorem disturbed_keeps (found : List FoundRecord) (st : Store) :
    (found.foldl disturb st).map = st.map ∧ (found.foldl disturb st).write = st.write := by
  induction found generalizing st with
  | nil => exact ⟨rfl, rfl⟩
  | cons x found ih =>
    obtain ⟨map, write⟩ := disturb_keeps st x
    obtain ⟨maps, writes⟩ := ih (st.disturb x)
    exact ⟨maps.trans map, writes.trans write⟩

theorem loadMap_map (st : Store) (k : FeederId) (f : FeedState) :
    (st.loadMap.map.get k).get f = if st.cutEntry = some (k, f) then none else (st.map.get k).get f := by
  unfold loadMap
  cases st.cutEntry with
  | none => rfl
  | some entry => simp [setEntry_map, Prod.ext_iff]

/-- R49 step 2. -/
theorem checked_map (found : List FoundRecord) (st : Store) (k : FeederId) (f : FeedState) :
    ((st.checked found).map.get k).get f = if st.cutEntry = some (k, f) then none else (st.map.get k).get f := by
  obtain ⟨map, write⟩ := disturbed_keeps found st
  have cut : (found.foldl disturb st).cutEntry = st.cutEntry := by rw [cutEntry, cutEntry, write]
  rw [← map, ← cut]
  exact loadMap_map _ k f

theorem checked_sets (found : List FoundRecord) (st : Store) (n : SetId) :
    (st.checked found).sets[n] =
      ((found.foldl disturb st).sets[n]).startUp SetFields.toList (cutSet (found.foldl disturb st).cuts) :=
  mapSets_getElem _ _ n

theorem checked_station (found : List FoundRecord) (st : Store) :
    (st.checked found).station =
      (found.foldl disturb st).station.startUp StationFields.toList (cutStation (found.foldl disturb st).cuts) := rfl

/-- R67: before the first resolution no set is in use. -/
theorem checked_inUse (found : List FoundRecord) (st : Store) (n : SetId) :
    (st.checked found).inUse[n] = (st.checked found).useCount n := by
  simp [checked, useCount, FeederId.all]

end Store

/-! ### The time base and the records through a reset -/

theorem TimeBase.advanceBy_keeps (n : Nat) (t : TimeBase) :
    (advanceBy n t).source = t.source ∧ (advanceBy n t).unsync = t.unsync := by
  induction n generalizing t with
  | zero => exact ⟨rfl, rfl⟩
  | succ n ih => exact ih t.advance

/-- R173: what a pin reset or Restart leaves of a slot. -/
def Slot.afterReset : Slot → Slot
  | .free | .filling _ => .free
  | .complete r | .held r => .complete r

theorem RecordStore.afterReset_slots (r : RecordStore) (n : SlotId) :
    r.afterReset.slots[n] = (r.slots[n]).afterReset := by
  fin_cases n <;> rfl

/-- R173: the claim list loses the slots that a reset leaves free. -/
theorem RecordStore.afterReset_claims (r : RecordStore) :
    r.afterReset.claims = r.claims.filter (fun n => !(r.afterReset.slots[n]).isFree) := by
  refine List.filter_congr fun n _ => ?_
  rw [afterReset_slots]
  cases r.slots[n] <;> rfl

/-! ### The resets -/

/-- A start-up changes the journal and alarm unit, and resolves every binding. -/
theorem State.startUp_frame (cut : Option (FeederId × FeedState)) (s : State) :
    ∃ unit, s.startUp cut =
      { s with store := s.store.bindEach FeederId.all, plant := { s.plant with unit := unit } } := by
  obtain ⟨l, -, starts, -⟩ := startsUp_startUp cut s
  obtain ⟨u, b, n, frame⟩ := starts.frame
  have store := startUp_store cut s
  rw [frame] at store ⊢
  exact ⟨u, by rw [← store]⟩

/-- The part at the first instant after a reset, before the start-up entries. -/
def State.atFirstInstant (x : ResetInputs) (cause : ResetCause) (time : TimeBase) (records : RecordStore)
    (unit : JournalUnit) (energy : Energy) (s : State) : State :=
  State.onPlant
    { s with
      panel := { s.panel with unit := x.unit, cause := cause }
      time := time
      front := FrontEnd.reset
      store := s.store.checked x.found
      plant := Plant.atReset (s.store.checked x.found).startReference records unit
      energy := energy
      link := Link.reset x.rate }
    Plant.startSupply

section
variable (x : ResetInputs) (cause : ResetCause) (time : TimeBase) (records : RecordStore) (unit : JournalUnit)
  (energy : Energy) (s : State)

theorem State.resetWith_eq_startUp : s.resetWith x cause time records unit energy =
    (s.atFirstInstant x cause time records unit energy).startUp s.store.cutEntry := rfl

/-- What every reset leaves: the part at the first instant, with each binding resolved and the unit's start-up done. -/
theorem State.resetWith_frame : ∃ after, s.resetWith x cause time records unit energy =
    { s.atFirstInstant x cause time records unit energy with
      store := (s.store.checked x.found).bindEach FeederId.all
      plant := { (s.atFirstInstant x cause time records unit energy).plant with unit := after } } :=
  startUp_frame s.store.cutEntry (s.atFirstInstant x cause time records unit energy)

@[simp] theorem State.resetWith_panel : (s.resetWith x cause time records unit energy).panel =
    { s.panel with unit := x.unit, cause := cause } := by
  obtain ⟨after, frame⟩ := resetWith_frame x cause time records unit energy s
  rw [frame]
  rfl

@[simp] theorem State.resetWith_time : (s.resetWith x cause time records unit energy).time = time := by
  obtain ⟨after, frame⟩ := resetWith_frame x cause time records unit energy s
  rw [frame]
  rfl

@[simp] theorem State.resetWith_records :
    (s.resetWith x cause time records unit energy).plant.records = records := by
  obtain ⟨after, frame⟩ := resetWith_frame x cause time records unit energy s
  rw [frame]
  rfl

@[simp] theorem State.resetWith_energy : (s.resetWith x cause time records unit energy).energy = energy := by
  obtain ⟨after, frame⟩ := resetWith_frame x cause time records unit energy s
  rw [frame]
  rfl

@[simp] theorem State.resetWith_link :
    (s.resetWith x cause time records unit energy).link = Link.reset x.rate := by
  obtain ⟨after, frame⟩ := resetWith_frame x cause time records unit energy s
  rw [frame]
  rfl

/-- R177: what a reset appends to the journal it keeps; a map entry that it cut off is named. -/
theorem State.resetWith_logs : ∃ l : List Entry, l.length ≤ 25 ∧
    JournalUnit.Logs (⟨unit.nextIndex, time.stamp, .station, .startUp,
        [(cause.code : Int), (unit.journal.length : Int)]⟩ :: l) unit
      (s.resetWith x cause time records unit energy).plant.unit ∧
    ∀ k f, s.store.cutEntry = some (k, f) →
      ∃ y ∈ l, y.source = .store ∧ y.kind = .recordInvalid ∧ y.details = [17, 1, (entryNumber k f : Int)] := by
  obtain ⟨l, hl, starts, cutEntry⟩ :=
    startsUp_startUp s.store.cutEntry (s.atFirstInstant x cause time records unit energy)
  exact ⟨l, hl, starts.logs, cutEntry⟩

/-- R18, R184: after a reset the tracker is not in lock, and the loss of the supply is latched. -/
theorem State.resetWith_supplyLost :
    (s.resetWith x cause time records unit energy).plant.unit.latched.supplyLost = true := by
  rw [resetWith_eq_startUp]
  exact startUp_supplyLost _ rfl

end

/-- R175, R177: the journal that a reset keeps, with what the start-up appends. -/
theorem State.resetWith_journal (x : ResetInputs) (cause : ResetCause) (time : TimeBase) (records : RecordStore)
    (unit : JournalUnit) (energy : Energy) (s : State) : ∃ later : List Entry, later.length ≤ 128 ∧
      (s.resetWith x cause time records unit energy).plant.unit.journal =
        (unit.journal ++ later).drop (unit.journal.length + later.length - 256) ∧
      later.head? = some ⟨unit.nextIndex, time.stamp, .station, .startUp,
        [(cause.code : Int), (unit.journal.length : Int)]⟩ ∧
      ∀ k f value due, s.store.write = some ⟨.mapEntry k f value, due⟩ →
        ∃ y ∈ later, y.source = .store ∧ y.kind = .recordInvalid ∧ y.details = [17, 1, (entryNumber k f : Int)] := by
  obtain ⟨l, hl, logs, cutEntry⟩ := resetWith_logs x cause time records unit energy s
  refine ⟨_ :: l, by rw [List.length_cons]; omega, ?_, rfl, fun k f value due h => ?_⟩
  · rw [logs.journal, withEntries_eq_rtake _ (List.cons_ne_nil _ l), List.rtake, List.length_append]
  · obtain ⟨y, hy, names⟩ := cutEntry k f (by rw [Store.cutEntry, h])
    exact ⟨y, List.mem_cons_of_mem _ hy, names⟩

/-- R177, R190: after a power-on reset the indices begin at 0. -/
theorem State.powerOn_journal_head (x : ResetInputs) (s : State) :
    (s.resetWith x .powerOn (TimeBase.reset (sourceOf x.crystal)) RecordStore.reset JournalUnit.reset
      Energy.reset).plant.unit.journal.head?.map Entry.index = some 0 := by
  obtain ⟨later, few, journal, first, -⟩ := resetWith_journal x .powerOn (TimeBase.reset (sourceOf x.crystal))
    RecordStore.reset JournalUnit.reset Energy.reset s
  have empty : JournalUnit.reset.journal = [] := rfl
  rw [journal, empty, List.length_nil, Nat.sub_eq_zero_of_le (by omega), List.drop_zero, List.nil_append, first]
  rfl

theorem exec_powerOnReset (x : ResetInputs) (s : State) : exec (.powerOnReset x) s = .next (s.resetWith x .powerOn
    (TimeBase.reset (sourceOf x.crystal)) RecordStore.reset JournalUnit.reset Energy.reset) := rfl

theorem exec_pinReset (x : ResetInputs) (s : State) :
    exec (.pinReset x) s = .next (s.warmReset x .resetPin) := rfl

theorem exec_restartReset_due {x : ResetInputs} {s : State} (h : s.link.restart = .replySent) :
    exec (.restartReset x) s = .next (s.warmReset x .restartRequest) := by
  simp [exec, execRestartReset, Link.restartDue, h]

/-- Settles O59. Each reset is `State.resetWith`, so what all of them leave is shown once, and what a pin reset and
Restart keep once for both. -/
theorem resetsLeaveTheirValues : Obligations.ResetsLeaveTheirValues := by
  intro x s atRest warm
  have rest (cause : ResetCause) (time : TimeBase) (records : RecordStore) (unit : JournalUnit) (energy : Energy)
      (elapsed : time.elapsed = 0) (tick : time.tick = 0)
      (rings : ∀ k, records.rings.get k = List.replicate 32 ⟨0, 0, 0⟩)
      (flags : unit.attention.get .restart = true) (mask : unit.mask = FlagSet.empty)
      (pending : unit.pendingFlags = FlagSet.empty) (holdoff : unit.holdoff = none) (notice : unit.notice = none) :
      atRest cause (s.resetWith x cause time records unit energy) := by
    obtain ⟨l, -, logs, -⟩ := State.resetWith_logs x cause time records unit energy s
    obtain ⟨masked, noFlag, noHoldoff, noNotice⟩ := logs.masked mask
    have restart := logs.attention .restart flags
    have supplyLost := State.resetWith_supplyLost x cause time records unit energy s
    obtain ⟨after, frame⟩ := State.resetWith_frame x cause time records unit energy s
    generalize s.resetWith x cause time records unit energy = t at *
    subst frame
    refine ⟨rfl, rfl, rfl, rfl, rfl, rfl, rfl, rfl, rfl, rfl, rfl, rfl, elapsed, tick, fun k => Six.get_all _ k,
      fun k => Store.bindEach_binding (.inl (FeederId.mem_everyFeeder k)), rfl, rfl, restart,
      masked, supplyLost, noFlag.trans pending, noHoldoff.trans holdoff, noNotice.trans notice, rings, rfl,
      Store.bindEach_inUse (Store.checked_inUse x.found s.store), ⟨fun n => ?_, ?_⟩, fun k f => ?_⟩
    · exact Store.checked_sets x.found s.store n ▸ StoredRecord.startUp_cases ..
    · exact StoredRecord.startUp_cases ..
    · refine (Store.checked_map x.found s.store k f).trans ?_
      unfold Store.cutEntry
      rcases s.store.write with _ | ⟨_ | _ | _, _⟩ <;> simp
  have kept (cause : ResetCause) : warm cause (s.warmReset x cause) := by
    obtain ⟨source, unsync⟩ := TimeBase.advanceBy_keeps x.held s.time.begin
    rw [TimeBase.begin_source] at source
    rw [TimeBase.begin_unsync] at unsync
    have slots (n : SlotId) := s.plant.records.afterReset_slots n
    have reset := rest cause (s.time.afterReset x) s.plant.records.afterReset s.plant.unit.afterReset
      s.energy.afterReset rfl rfl (fun k => Six.get_all _ k) rfl rfl rfl rfl rfl
    obtain ⟨later, few, journal, first, cutEntry⟩ := State.resetWith_journal x cause (s.time.afterReset x)
      s.plant.records.afterReset s.plant.unit.afterReset s.energy.afterReset s
    simp only [warm, State.warmReset, State.resetWith_time, State.resetWith_energy, State.resetWith_records]
    refine ⟨reset, rfl, rfl, unsync, source, ?_, rfl, fun n => ?_, rfl,
      s.plant.records.afterReset_claims, later, few, journal, first, cutEntry⟩
    · cases h : s.time.source <;> simp [TimeBase.afterReset, h, crystalRunAfter]
    · rw [slots]
      cases s.plant.records.slots[n] <;> rfl
  refine ⟨⟨_, exec_powerOnReset x s, rest _ _ _ _ _ rfl rfl (fun k => Six.get_all _ k) rfl rfl rfl rfl rfl, ?_⟩,
    ⟨_, exec_pinReset x s, kept .resetPin⟩, fun h => ⟨_, exec_restartReset_due h, kept .restartRequest⟩⟩
  rw [State.resetWith_time, State.resetWith_energy, State.resetWith_records]
  exact ⟨rfl, rfl, rfl, rfl, rfl, rfl, State.powerOn_journal_head x s⟩

end Sys2Proof.Machine
end

section
/-! PROOFS. Set Time, and a Restart from its taking to the end of its reply and the reset (O58). -/

namespace Sys2Proof.Machine

/-! ### Requests and transmissions -/

/-- R197, R198: a frame is taken at once only while no request is under execution. -/
theorem Link.executing_of_takesAtOnce {l : Link} (h : l.takesAtOnce = true) : l.executing = none := by
  simp only [Link.takesAtOnce, Link.free, Bool.and_eq_true, Option.isNone_iff_eq_none] at h
  obtain ⟨⟨⟨idle, -⟩, -⟩, -⟩ := h
  exact idle

/-- R85, R198: a request that is taken at once, leaves the link as its taking left it, and is answered. -/
theorem State.request_repliedWith {s : State} {head : RequestHead} {kind : RequestKind} {payload reply : List Byte}
    {serve : State → Served} {time : TimeBase} {plant : Plant} (h : s.link.takesAtOnce = true)
    (hs : serve (s.begin head.pins kind.code head.tag) =
      ({ s.begin head.pins kind.code head.tag with time := time, plant := plant }, some reply)) :
    s.request head kind payload serve = { s.repliedWith head kind reply plant with time := time } := by
  rw [State.request_answered h hs rfl, replyKind_code]
  simp [State.repliedWith, State.begin, Link.executing_of_takesAtOnce h]

theorem exec_setTime {head : RequestHead} {count : Millis} {s : State} (h : s.link.takesAtOnce = true) :
    exec (.setTime head count) s = .next { s.repliedWith head .setTime [0] (s.plant.post
        ⟨s.time.load count, s.front, s.store⟩ .station .timeSet [s.time.clock.toNat, count.toNat]) with
      time := s.time.load count } :=
  congrArg _ (State.request_repliedWith h rfl)

theorem exec_restart_refused {head : RequestHead} {s : State} (h : s.link.takesAtOnce = true)
    (hr : head.pins.remote = false) :
    exec (.restart head) s = .next (s.repliedWith head .restart [4] s.plant) := by
  refine congrArg _ (State.request_repliedWith h ?_)
  simp [serveRestart, needsRemote, State.begin, hr, answered, refusal, Status.code]

/-- R198, R207: a Restart has been taken and its reply stands in the slot. -/
def State.restartTaken (head : RequestHead) (s : State) : State :=
  { s with
    panel := { s.panel with remote := head.pins.remote, engKey := head.pins.engKey }
    link := { s.link with slot := some ⟨0x87, head.tag, [0]⟩, executing := none, restart := .taken } }

theorem exec_restart_taken {head : RequestHead} {s : State} (h : s.link.takesAtOnce = true)
    (hr : head.pins.remote = true) :
    exec (.restart head) s = .next (s.restartTaken head) := by
  have served : serveRestart (s.begin head.pins RequestKind.restart.code head.tag) =
      ({ s.begin head.pins RequestKind.restart.code head.tag with
          link := { s.link with executing := some ⟨RequestKind.restart.code, head.tag⟩, restart := .taken } },
        some [0]) := by
    simp [serveRestart, needsRemote, State.begin, hr, okReply, Status.code]
  refine congrArg _ ((State.request_answered h served rfl).trans ?_)
  rw [replyKind_code]
  rfl

/-- R207: after a Restart has been taken no request is executed. -/
theorem State.startExecution_restart {pins : Pins} {s : State} (h : s.link.restart ≠ .none) :
    s.startExecution pins = s := by
  simp [State.startExecution, Link.free, h]

/-- R201, R207: the reply of a taken Restart begins on an IDLE transmitter, and no queued request with it. -/
theorem State.transmitStart_restart {s : State} {f : LinkFrame} (ht : s.link.transmitter = .idle)
    (hr : s.link.restart = .taken) (hf : s.link.slot = some f) :
    s.transmitStart = { s with link := s.link.beginReply f } := by
  have begun : ({ s with link := s.link.beginReply f } : State).link.restart ≠ .none := by simp [Link.beginReply, hr]
  simp [State.transmitStart, ht, hr, hf, State.startExecution_restart begun]

/-- R207: after the reply of a Restart nothing more is sent. -/
theorem State.transmitStart_replySent {s : State} (h : s.link.restart = .replySent) : s.transmitStart = s := by
  unfold State.transmitStart
  split
  · rfl
  · rfl
  · rw [if_pos h]

theorem exec_frameTransmitEnd_sending {s : State} (h : s.link.transmitter ≠ .idle) :
    exec .frameTransmitEnd s = .next (State.transmitStart { s with link := s.link.transmitEnd }) := by
  simp only [exec, execFrameTransmitEnd]
  split
  · contradiction
  · rfl
  · rfl

theorem exec_restartReset_notDue {x : ResetInputs} {s : State} (h : s.link.restart ≠ .replySent) :
    exec (.restartReset x) s = .next s := by
  simp [exec, execRestartReset, Link.restartDue, h]

/-- R201, R207: the reply of a taken Restart begins at FRAME_TRANSMIT_START on an IDLE transmitter, and at the end of
the frame under way on another. -/
theorem exec_transmit_restart {s : State} {f : LinkFrame} (hr : s.link.restart = .taken)
    (hf : s.link.slot = some f) :
    exec (if s.link.transmitter = .idle then .frameTransmitStart else .frameTransmitEnd) s =
      .next { s with link := { s.link with slot := none, transmitter := .sendingReply f.bytes,
                                           restart := .replySending } } := by
  split
  · rename_i ht
    have start := State.transmitStart_restart ht hr hf
    simp only [Link.beginReply, hr] at start
    exact congrArg _ start
  · rename_i ht
    have taken : s.link.transmitEnd.restart = .taken := by simp [Link.transmitEnd, hr]
    have start := State.transmitStart_restart (s := { s with link := s.link.transmitEnd }) rfl taken hf
    simp only [Link.beginReply, taken] at start
    exact (exec_frameTransmitEnd_sending ht).trans (congrArg _ start)

/-- R207: the end of a Restart's reply begins no other frame and executes no queued request. -/
theorem exec_frameTransmitEnd_restart {s : State} (hr : s.link.restart = .replySending)
    (ht : s.link.transmitter ≠ .idle) :
    exec .frameTransmitEnd s =
      .next { s with link := { s.link with transmitter := .idle, restart := .replySent } } := by
  have sent : s.link.transmitEnd.restart = .replySent := by simp [Link.transmitEnd, hr]
  have stays := State.transmitStart_replySent (s := { s with link := s.link.transmitEnd }) sent
  rw [exec_frameTransmitEnd_sending ht, stays]
  simp [Link.transmitEnd, hr]

theorem Link.takesAtOnce_restart {l : Link} (h : l.restart ≠ .none) : l.takesAtOnce = false := by
  simp [Link.takesAtOnce, Link.free, h]

theorem State.warmReset_cause (x : ResetInputs) (cause : ResetCause) (s : State) :
    (s.warmReset x cause).panel.cause = cause := by
  rw [State.warmReset, State.resetWith_panel]

theorem State.warmReset_link (x : ResetInputs) (cause : ResetCause) (s : State) :
    (s.warmReset x cause).link = Link.reset x.rate := State.resetWith_link ..

/-- Settles O58: the taken Restart is followed through its three steps, the taking, and the start and the end of its
reply. -/
theorem setTimeAndRestartAreTaken : Obligations.SetTimeAndRestartAreTaken := by
  intro head s h
  refine ⟨fun count => ⟨_, exec_setTime h, JournalUnit.post_last ..⟩, exec_restart_refused h, fun hr => ?_,
    fun x u => exec_restartReset_notDue⟩
  refine ⟨_, _, _, exec_restart_taken h hr, rfl, Link.takesAtOnce_restart nofun, rfl, rfl, rfl, rfl, rfl,
    exec_transmit_restart (s := s.restartTaken head) rfl rfl, rfl, rfl, exec_frameTransmitEnd_restart rfl nofun, rfl,
    Link.takesAtOnce_restart nofun, rfl, fun x => ⟨exec_restartReset_notDue nofun, exec_restartReset_notDue nofun⟩,
    fun x => ⟨_, exec_restartReset_due rfl, State.warmReset_cause .., State.warmReset_link ..⟩⟩

end Sys2Proof.Machine
end

section
/-! PROOFS. Expiries on the grid and the changes of the clock source (O4). -/

namespace Sys2Proof.Machine

/-! ### Expiries and the clock source -/

/-- Log 3, log 4: an expiry command that is `State.atExpiry` of its timer changes nothing while the timer is stopped or
not due, and due at the next instant it acts with the grid standing there. -/
theorem exec_expires {c : Instr} {s : State} {due : Option Nat}
    (h : ∃ act, ∀ time : TimeBase, exec c { s with time := time } =
      .next (State.atExpiry { s with time := time } due act)) :
    (due = none → exec c s = .next s) ∧
    ∀ n, due = some n →
      (s.time.tick + 1 < n ∨ n = s.time.tick + 1 ∧ s.time.begun = true → exec c s = .next s) ∧
      (n = s.time.tick + 1 → s.time.begun = false →
        exec c s = exec c { s with time := { s.time.advance with begun := true } }) := by
  obtain ⟨act, h⟩ := h
  have now : exec c s = .next (s.atExpiry due act) := h s.time
  refine ⟨?_, ?_⟩
  · rintro rfl
    exact now
  · rintro n rfl
    refine ⟨fun early => ?_, fun next notBegun => ?_⟩
    · rw [now]
      rcases early with early | ⟨rfl, begun⟩
      · rw [State.atExpiry_notDue act early]
      · simp [State.atExpiry, TimeBase.reach, begun]
    · have due : n ≤ ({ s.time.advance with begun := true } : TimeBase).tick := le_of_eq next
      rw [now, State.atExpiry_nextInstant act next notBegun, h, State.atExpiry_due act due]
      simp [TimeBase.begin, notBegun]

/-- R12: at a failure of the crystal. -/
theorem exec_crystalFailure {s : State} (h : s.time.source = .crystal) :
    exec .crystalFailure s = .next (State.onPlant { s with time := s.time.fail }
      (fun e p => (p.latch e .clockFallback).post e .station .clockFallback [1])) := by
  simp [exec, execCrystalFailure, h]

/-- R12: at the return of a crystal that has oscillated for 100 ms. -/
theorem exec_crystalReturn {s : State} (h : s.time.source = .fallback) (run : 800 ≤ s.time.crystalRun) :
    exec .crystalReturn s = .next (State.onPlant { s with time := s.time.recover }
      (fun e p => p.post e .station .clockFallback [0])) := by
  simp [exec, execCrystalReturn, h, run]

/-- Settles O4: the two changes of the source by what they post, and each expiry as `State.atExpiry` of its timer. -/
theorem clockSourceChanges : Obligations.ClockSourceChanges := by
  intro s next
  refine ⟨fun source => ?_, fun source run => ?_, ?_⟩
  · refine ⟨_, exec_crystalFailure source, rfl, ?_, ?_, rfl, rfl, rfl, rfl, rfl⟩
    · refine (JournalUnit.post_latched _ _ _ _ .clockFallback).trans ?_
      rw [if_neg (by simp), Plant.latch_unit, JournalUnit.latch_latched, if_pos rfl]
    · exact (JournalUnit.post_last ..).trans (by rw [Plant.latch_unit, JournalUnit.latch_nextIndex]; rfl)
  · exact ⟨_, exec_crystalReturn source run, rfl, JournalUnit.post_last .., rfl, rfl, rfl, rfl, rfl⟩
  intro t expires
  refine ⟨exec_expires ⟨_, fun _ => rfl⟩, fun f => exec_expires ?_, fun f => exec_expires ?_, fun v => exec_expires ?_,
    fun found => exec_expires ⟨_, fun _ => rfl⟩,
    fun i => ⟨exec_expires ⟨_, fun _ => rfl⟩, exec_expires ⟨_, fun _ => rfl⟩⟩,
    fun k => ⟨exec_expires ⟨_, fun _ => rfl⟩, exec_expires ⟨_, fun _ => rfl⟩, exec_expires ⟨_, fun _ => rfl⟩⟩,
    exec_expires ⟨_, fun _ => rfl⟩, exec_expires ?_, exec_expires ?_,
    exec_expires ⟨_, fun _ => rfl⟩, exec_expires ⟨_, fun _ => rfl⟩⟩
  · simp only [exec, execSetWriteCompletion]
    rcases s.store.write with _ | ⟨_ | _ | _, n⟩
    exacts [⟨id, fun _ => rfl⟩, ⟨_, fun _ => rfl⟩, ⟨id, fun _ => rfl⟩, ⟨id, fun _ => rfl⟩]
  · simp only [exec, execStationRecordWriteCompletion]
    rcases s.store.write with _ | ⟨_ | _ | _, n⟩
    exacts [⟨id, fun _ => rfl⟩, ⟨id, fun _ => rfl⟩, ⟨_, fun _ => rfl⟩, ⟨id, fun _ => rfl⟩]
  · simp only [exec, execMapEntryWriteCompletion]
    rcases s.store.write with _ | ⟨_ | _ | _, n⟩
    exacts [⟨id, fun _ => rfl⟩, ⟨id, fun _ => rfl⟩, ⟨id, fun _ => rfl⟩, ⟨_, fun _ => rfl⟩]
  · simp only [exec, execEnergyPulseOnExpiry]
    cases s.energy.output
    exacts [⟨id, fun _ => rfl⟩, ⟨_, fun _ => rfl⟩, ⟨id, fun _ => rfl⟩]
  · simp only [exec, execEnergyPulseGapExpiry]
    cases s.energy.output
    exacts [⟨id, fun _ => rfl⟩, ⟨id, fun _ => rfl⟩, ⟨_, fun _ => rfl⟩]

end Sys2Proof.Machine
end

section
/-! PROOFS. One sample instant: the front end, the grid, the means and the order of the blocks' events (O3). -/

namespace Sys2Proof

/-! ### Conversions (R2) -/

/-- R2: the floor of a converted value. -/
theorem floorDiv_eq {num v : Int} {den : Nat} (pos : 0 < den) (lo : v * den ≤ num) (hi : num < (v + 1) * den) :
    floorDiv num den = v := by
  have pos : (0 : Int) < den := by omega
  rw [floorDiv, Int.fdiv_eq_ediv_of_nonneg _ pos.le]
  exact le_antisymm (Int.lt_add_one_iff.1 (Int.ediv_lt_of_lt_mul pos hi)) (Int.le_ediv_of_mul_le pos lo)

namespace Channel

theorem lower_le_upper (c : Channel) : c.lower ≤ c.upper := by
  cases c <;> simp [lower, upper]

section
variable {c : Channel} {num v : Int} {den : Nat}

theorem present_within (hv : floorDiv num den = v) (lo : c.lower ≤ v) (hi : v ≤ c.upper) :
    c.present (.scaled num den) = (v, false) := by
  simp only [present, hv, if_neg (not_lt.2 lo), if_neg (not_lt.2 hi)]

theorem present_above (hv : floorDiv num den = v) (hi : c.upper < v) :
    c.present (.scaled num den) = (c.upper, true) := by
  simp only [present, hv, if_pos hi]

/-- R2: a value below the range is presented as the lower limit, flagged unless that is 0. -/
theorem present_below (hv : floorDiv num den = v) (lo : v < c.lower) :
    c.present (.scaled num den) = (c.lower, decide (c.lower < 0)) := by
  have := c.lower_le_upper
  simp only [present, hv, if_pos lo, if_neg (show ¬ c.upper < v by omega)]

end

end Channel

namespace Machine

/-! ### The front end -/

/-- R4: the floor of an eighth. -/
theorem meanOfSum_bounds (sum : Int) : 8 * meanOfSum sum ≤ sum ∧ sum < 8 * meanOfSum sum + 8 := by
  rw [meanOfSum, floorDiv, Int.fdiv_eq_ediv_of_nonneg _ (by omega)]
  omega

section
variable (conversions : PerChannel Conversion) (f : FrontEnd) (c : Channel)

@[simp] theorem FrontEnd.take_latest :
    (f.take conversions).latest.get c = (c.present (conversions.get c)).1 := by simp [FrontEnd.take]

@[simp] theorem FrontEnd.take_saturation : (f.take conversions).saturation.get c =
    if (c.present (conversions.get c)).2 then 160 else f.saturation.get c - 1 := by
  simp [FrontEnd.take, saturationAfter]

@[simp] theorem FrontEnd.take_sums :
    (f.take conversions).sums.get c = f.sums.get c + (f.take conversions).latest.get c := by
  simp [FrontEnd.take]

@[simp] theorem FrontEnd.take_history (k : FeederId) : (f.take conversions).history.get k =
    (f.history.get k).drop 1 ++ [(f.take conversions).latest.get (.feederCurrent k)] := by
  simp only [FrontEnd.take, Six.get_zip, slide]
  rfl

@[simp] theorem FrontEnd.closeMillisecond_means : f.closeMillisecond.means.get c =
    (f.means.get c).drop 1 ++ [meanOfSum (f.sums.get c)] := by simp [FrontEnd.closeMillisecond, slide]

@[simp] theorem FrontEnd.closeMillisecond_sums : f.closeMillisecond.sums.get c = 0 := by
  simp [FrontEnd.closeMillisecond]

end

/-! ### One sample instant -/

section
variable (x : SampleInputs) (s : State)

theorem TimeBase.qualify_only (oscillates : Bool) (t : TimeBase) :
    ∃ run, t.qualify oscillates = { t with crystalRun := run } := by
  unfold TimeBase.qualify
  split
  · exact ⟨_, rfl⟩
  · exact ⟨_, rfl⟩

/-- The part once the samples of an instant have been presented and taken by the blocks. -/
def State.sampled : State :=
  State.onPlant { s with time := s.time.present.qualify x.crystal, front := s.front.take x.conversions }
    (Plant.sampleEvents x)

/-- R4: the events of the millisecond come at an eighth 7 alone. -/
theorem State.sampleInstant_eq : s.sampleInstant x =
    if (s.time.present.qualify x.crystal).eighth = 7 then (s.sampled x).millisecondEvent x else s.sampled x := rfl

theorem exec_sampleInstant : exec (.sampleInstant x) s = .next (s.sampleInstant x) := rfl

@[simp] theorem State.sampleInstant_time : (s.sampleInstant x).time = s.time.present.qualify x.crystal := by
  rw [sampleInstant_eq]
  split <;> rfl

@[simp] theorem State.sampleInstant_store : (s.sampleInstant x).store = s.store := by
  rw [sampleInstant_eq]
  split <;> rfl

@[simp] theorem State.sampleInstant_link : (s.sampleInstant x).link = s.link := by
  rw [sampleInstant_eq]
  split <;> rfl

@[simp] theorem State.sampleInstant_panel : (s.sampleInstant x).panel = s.panel := by
  rw [sampleInstant_eq]
  split <;> rfl

@[simp] theorem State.sampleInstant_latest :
    (s.sampleInstant x).front.latest = (s.front.take x.conversions).latest := by
  rw [sampleInstant_eq]
  split <;> rfl

@[simp] theorem State.sampleInstant_saturation :
    (s.sampleInstant x).front.saturation = (s.front.take x.conversions).saturation := by
  rw [sampleInstant_eq]
  split <;> rfl

@[simp] theorem State.sampleInstant_history :
    (s.sampleInstant x).front.history = (s.front.take x.conversions).history := by
  rw [sampleInstant_eq]
  split <;> rfl

variable {x s}

theorem State.sampleInstant_eighth7 (h : (s.time.present.qualify x.crystal).eighth = 7) :
    s.sampleInstant x = (s.sampled x).millisecondEvent x := by rw [sampleInstant_eq, if_pos h]

theorem State.sampleInstant_otherEighth (h : (s.time.present.qualify x.crystal).eighth ≠ 7) :
    s.sampleInstant x = s.sampled x := by rw [sampleInstant_eq, if_neg h]

/-- R2, R3: the presented sample of a channel shows in its latest value and in its saturation count. -/
theorem State.sampleInstant_shows {c : Channel} {v : Int} {flag : Bool}
    (h : c.present (x.conversions.get c) = (v, flag)) :
    (s.sampleInstant x).front.latest.get c = v ∧
      (s.sampleInstant x).front.saturation.get c = if flag then 160 else s.front.saturation.get c - 1 := by
  simp [h]

/-- R8, R9: the grid moves on to the instant, unless it stands there. -/
theorem State.sampleInstant_grid (x : SampleInputs) (s : State) :
    let t := (s.sampleInstant x).time
    t.begun = false ∧ t.unsync = s.time.unsync ∧ t.source = s.time.source ∧
      (s.time.begun = false →
        t.eighth = s.time.eighth + 1 ∧ t.tick = s.time.tick + 1 ∧
        t.clock = (if s.time.eighth = 7 then s.time.clock + 1 else s.time.clock) ∧
        t.elapsed = (if s.time.eighth = 7 then s.time.elapsed + 1 else s.time.elapsed)) ∧
      (s.time.begun = true →
        t.eighth = s.time.eighth ∧ t.tick = s.time.tick ∧ t.clock = s.time.clock ∧ t.elapsed = s.time.elapsed) := by
  intro t
  obtain ⟨run, qualified⟩ := TimeBase.qualify_only x.crystal s.time.present
  have time : t = { s.time.present with crystalRun := run } := (sampleInstant_time x s).trans qualified
  rw [time, TimeBase.present]
  cases begun : s.time.begun with
  | false => exact ⟨begun, rfl, rfl, fun _ => ⟨rfl, rfl, rfl, rfl⟩, nofun⟩
  | true => exact ⟨rfl, rfl, rfl, nofun, fun _ => ⟨rfl, rfl, rfl, rfl⟩⟩

/-- R4, R5: at the end of a millisecond each list of means takes the floor of an eighth of the sum, which restarts. -/
theorem State.sampleInstant_means (x : SampleInputs) (s : State) (c : Channel) :
    let t := s.sampleInstant x
    (t.time.eighth = 7 →
      ∃ m : Int, 8 * m ≤ s.front.sums.get c + t.front.latest.get c ∧
        s.front.sums.get c + t.front.latest.get c < 8 * m + 8 ∧
        t.front.means.get c = (s.front.means.get c).drop 1 ++ [m] ∧ t.front.sums.get c = 0) ∧
    (t.time.eighth ≠ 7 →
      t.front.means.get c = s.front.means.get c ∧
        t.front.sums.get c = s.front.sums.get c + t.front.latest.get c) := by
  intro t
  have sum := FrontEnd.take_sums x.conversions s.front c
  constructor
  · intro h
    have front : t.front = (s.front.take x.conversions).closeMillisecond := by
      rw [sampleInstant_time] at h
      exact congrArg State.front (sampleInstant_eighth7 h)
    obtain ⟨lo, hi⟩ := meanOfSum_bounds (s.front.sums.get c + (s.front.take x.conversions).latest.get c)
    rw [front]
    refine ⟨_, lo, hi, ?_, FrontEnd.closeMillisecond_sums ..⟩
    rw [FrontEnd.closeMillisecond_means, sum]
    rfl
  · intro h
    have front : t.front = s.front.take x.conversions := by
      rw [sampleInstant_time] at h
      exact congrArg State.front (sampleInstant_otherEighth h)
    rw [front]
    exact ⟨rfl, sum⟩

end

/-! ### The blocks' events -/

/-- R1: the blocks' events of the instant, by eighth. -/
theorem State.sampleInstant_plant (x : SampleInputs) (s : State) :
    let t := s.sampleInstant x
    let sampled := s.plant.sampleEvents x ⟨t.time, s.front.take x.conversions, s.store⟩
    (t.time.eighth ≠ 7 → t.front = s.front.take x.conversions ∧ t.plant = sampled ∧ t.energy = s.energy) ∧
      (t.time.eighth = 7 → t.plant = sampled.millisecondEvents x ⟨t.time, t.front, s.store⟩) := by
  intro t sampled
  have time : t.time = s.time.present.qualify x.crystal := sampleInstant_time x s
  have taken : (s.sampled x).plant = sampled := by
    simp only [sampled, time]
    rfl
  constructor
  · intro h
    have other : t = s.sampled x := sampleInstant_otherEighth (time ▸ h)
    exact ⟨congrArg State.front other, (congrArg State.plant other).trans taken,
      (congrArg State.energy other).trans rfl⟩
  · intro h
    have seven : t = (s.sampled x).millisecondEvent x := sampleInstant_eighth7 (time ▸ h)
    rw [← taken, time, seven]
    rfl

/-- Settles O3: channel by channel from what the front end presents, and task by task from what a block runs. -/
theorem sampleInstantConvertsAndAdvances : Obligations.SampleInstantConvertsAndAdvances := by
  refine ⟨⟨fun x s c => ⟨_, exec_sampleInstant x s, ?_⟩,
    fun x s => ⟨_, exec_sampleInstant x s, State.sampleInstant_grid x s⟩,
    fun x s c => ⟨_, exec_sampleInstant x s, rfl, State.sampleInstant_means x s c⟩,
    fun x s k => ⟨_, exec_sampleInstant x s, by simp⟩⟩, fun x s => ?_⟩
  · intro shows
    have shown {v : Int} {flag : Bool} (h : c.present (x.conversions.get c) = (v, flag)) : shows v flag :=
      State.sampleInstant_shows h
    refine ⟨fun num den v conv pos lo hi => ?_, fun conv low => shown ?_, fun conv low => shown ?_,
      fun conv => shown ?_⟩
    · have floor := floorDiv_eq pos lo hi
      refine ⟨fun above below => shown ?_, fun above => shown ?_, fun below low => shown ?_, fun below low => shown ?_⟩
      · rw [conv, Channel.present_within floor above below]
      · rw [conv, Channel.present_above floor above]
      · rw [conv, Channel.present_below floor below, decide_eq_true low]
      · rw [conv, Channel.present_below floor below, low, decide_eq_false (lt_irrefl 0)]
    · rw [conv, Channel.present, decide_eq_true low]
    · rw [conv, Channel.present, low, decide_eq_false (lt_irrefl 0)]
    · rw [conv, Channel.present]
  · intro runs ofMillisecond order taken
    refine ⟨_, exec_sampleInstant x s, State.sampleInstant_store x s, State.sampleInstant_link x s,
      State.sampleInstant_panel x s, ?_⟩
    intro probes comes sampled
    have runTask : runs = fun e => Plant.runTask e x.lines := by
      funext e p task
      cases task with
      | feederSample k =>
        simp only [runs, Plant.runTask, Plant.feederSample]
        rcases (p.disc k).sample e k with ⟨d, _ | snap⟩ <;> rfl
      | thermal k =>
        simp only [runs, Plant.runTask]
        rcases p.thermalEvent e k with ⟨q, _ | snap⟩ <;> rfl
      | _ => rfl
    have withSamples : comes = InstantTask.withSamples (s.sampleInstant x).time := by
      funext task
      cases task with
      | probe i => simp [comes, probes, ofMillisecond, InstantTask.withSamples, InstantTask.ofMillisecond,
          InstantTask.isProbe, TimeBase.probesEnd]
      | _ => rfl
    have millisecond : ofMillisecond = InstantTask.ofMillisecond := by
      funext task
      cases task <;> rfl
    have plant := State.sampleInstant_plant x s
    simp only [sampled, runTask, withSamples, millisecond]
    exact plant

end Machine
end Sys2Proof
end

section
/-! PROOFS. The phase tracker: crossings, lock, and the absence of crossings (O5). -/

namespace Sys2Proof.Machine

variable {e : Env} {p : Plant}

/-! ### What the rectifier controller posts as it hears of the tracker -/

theorem Plant.logs_rectBlock (cause : BlockCause) :
    ∃ y, JournalUnit.Logs [y] p.unit (p.rectBlock e cause).unit :=
  ⟨_, (JournalUnit.logs_post (e := e) ..).trans (JournalUnit.logs_raise ..)⟩

@[simp] theorem Plant.rectBlock_tracker (cause : BlockCause) : (p.rectBlock e cause).tracker = p.tracker := rfl

theorem Plant.logs_rectLockLost : ∃ l, l.length ≤ 1 ∧ JournalUnit.Logs l p.unit (p.rectLockLost e).unit := by
  unfold Plant.rectLockLost
  split
  · obtain ⟨y, h⟩ := logs_rectBlock (e := e) (p := p) .unlocked
    exact ⟨[y], le_refl _, h⟩
  · exact ⟨[], Nat.zero_le _, .refl _⟩

@[simp] theorem Plant.rectLockLost_tracker : (p.rectLockLost e).tracker = p.tracker := by
  unfold Plant.rectLockLost
  split <;> rfl

/-- R121, R128, R138: at a crossing the rectifier controller changes its own record alone, or enters a firing state or
BLOCKED. -/
theorem Plant.rectCrossing_cases (crossing : Nat) :
    (∃ r, p.rectCrossing e crossing = { p with rect := r }) ∨
      (∃ f, p.rectCrossing e crossing = p.rectEnterFiring e f crossing) ∨
      p.rectCrossing e crossing = p.rectBlock e .unlocked := by
  unfold Plant.rectCrossing
  split
  · exact .inl ⟨_, rfl⟩
  · dsimp only
    split
    · split
      · exact .inr (.inl ⟨_, rfl⟩)
      · exact .inl ⟨_, rfl⟩
    · split
      · exact .inr (.inl ⟨_, rfl⟩)
      · exact .inl ⟨_, rfl⟩
    iterate 4
      · split
        · exact .inl ⟨_, rfl⟩
        · exact .inr (.inr rfl)
    · exact .inl ⟨_, rfl⟩
    · exact .inl ⟨_, rfl⟩

theorem Plant.logs_rectCrossing (crossing : Nat) :
    ∃ l, l.length ≤ 1 ∧ JournalUnit.Logs l p.unit (p.rectCrossing e crossing).unit := by
  rcases rectCrossing_cases (e := e) (p := p) crossing with ⟨r, h⟩ | ⟨f, h⟩ | h <;> rw [h]
  · exact ⟨[], Nat.zero_le _, .refl _⟩
  · exact ⟨[_], le_refl _, JournalUnit.logs_post (e := e) ..⟩
  · obtain ⟨y, h⟩ := logs_rectBlock (e := e) (p := p) .unlocked
    exact ⟨[y], le_refl _, h⟩

@[simp] theorem Plant.rectCrossing_tracker (crossing : Nat) : (p.rectCrossing e crossing).tracker = p.tracker := by
  rcases rectCrossing_cases (e := e) (p := p) crossing with ⟨r, h⟩ | ⟨f, h⟩ | h <;> rw [h] <;> rfl

/-! ### The tracker -/

@[simp] theorem Plant.setTracker_tracker (t : Tracker) : (p.setTracker e t).tracker = t := rfl

theorem Plant.logs_setTracker (t : Tracker) : JournalUnit.Logs [] p.unit (p.setTracker e t).unit :=
  JournalUnit.logs_latchIfNew ..

@[simp] theorem Plant.setTracker_nextIndex (t : Tracker) : (p.setTracker e t).unit.nextIndex = p.unit.nextIndex := by
  simp only [setTracker, latchIfNew_unit, JournalUnit.latchIfNew]
  split
  · exact JournalUnit.latch_nextIndex ..
  · rfl

@[simp] theorem Plant.loseSync_tracker (reason period : Nat) :
    (p.loseSync e reason period).tracker = p.tracker.loseRun := by
  unfold Plant.loseSync
  dsimp only
  split
  · rw [rectLockLost_tracker]
    rfl
  · rfl

/-- R16: a tracker that loses its lock journals SYNC_LOST. -/
theorem Plant.logs_loseSync (reason period : Nat) (h : p.tracker.locked = true) :
    ∃ l, l.length ≤ 2 ∧ ⟨p.unit.nextIndex, e.time.stamp, .station, .syncLost, [(reason : Int), period]⟩ ∈ l ∧
      JournalUnit.Logs l p.unit (p.loseSync e reason period).unit := by
  unfold Plant.loseSync
  dsimp only
  rw [if_pos h]
  have posted := JournalUnit.logs_post (e := e) .station .syncLost [(reason : Int), period]
    (p.setTracker e p.tracker.loseRun).unit
  obtain ⟨l, few, rect⟩ := logs_rectLockLost (e := e)
    (p := (p.setTracker e p.tracker.loseRun).post e .station .syncLost [(reason : Int), period])
  refine ⟨_, ?_, ?_, (logs_setTracker (e := e) _).trans (posted.trans rect)⟩
  · simpa using few
  · simp

/-- R15: what a valid period makes of the tracker. -/
theorem Plant.takeCrossingPeriod_valid {crossing last : Nat} (h : p.tracker.lastCrossing = some last)
    (valid : validPeriod (crossing - last) = true) :
    (p.takeCrossingPeriod e crossing).tracker = p.tracker.takePeriod (crossing - last) := by
  unfold Plant.takeCrossingPeriod
  simp only [h, if_pos valid]
  split <;> rfl

/-- R16: a tracker that comes into lock journals SYNC_LOCKED with the reference period. -/
theorem Plant.logs_takeCrossingPeriod_locked {crossing last : Nat} (h : p.tracker.lastCrossing = some last)
    (valid : validPeriod (crossing - last) = true) (before : p.tracker.locked = false)
    (now : (p.tracker.takePeriod (crossing - last)).locked = true) :
    JournalUnit.Logs [⟨p.unit.nextIndex, e.time.stamp, .station, .syncLocked,
      [((p.tracker.takePeriod (crossing - last)).period : Int)]⟩] p.unit (p.takeCrossingPeriod e crossing).unit := by
  unfold Plant.takeCrossingPeriod
  simp only [h, if_pos valid, before, setTracker_tracker, now, Bool.not_false, Bool.and_self, if_true]
  have posted := JournalUnit.logs_post (e := e) .station .syncLocked
    [((p.tracker.takePeriod (crossing - last)).period : Int)]
    (p.setTracker e (p.tracker.takePeriod (crossing - last))).unit
  rw [setTracker_nextIndex] at posted
  exact (logs_setTracker (e := e) _).trans posted

theorem Plant.takeCrossingPeriod_invalid {crossing last : Nat} (h : p.tracker.lastCrossing = some last)
    (invalid : validPeriod (crossing - last) = false) :
    p.takeCrossingPeriod e crossing = p.loseSync e 1 (crossing - last) := by
  simp [Plant.takeCrossingPeriod, h, invalid]

theorem Plant.takeCrossingPeriod_first {crossing : Nat} (h : p.tracker.lastCrossing = none) :
    p.takeCrossingPeriod e crossing = p := by
  simp [Plant.takeCrossingPeriod, h]

/-- A period that is measured leaves alone what R17 reads and what R14 keeps. -/
theorem Plant.takeCrossingPeriod_keeps (crossing : Nat) :
    (p.takeCrossingPeriod e crossing).tracker.previous = p.tracker.previous ∧
      (p.takeCrossingPeriod e crossing).tracker.peak = p.tracker.peak := by
  cases h : p.tracker.lastCrossing with
  | none => rw [takeCrossingPeriod_first h]; exact ⟨rfl, rfl⟩
  | some last =>
    cases valid : validPeriod (crossing - last) with
    | true => rw [takeCrossingPeriod_valid h valid]; exact ⟨rfl, rfl⟩
    | false => rw [takeCrossingPeriod_invalid h valid, loseSync_tracker]; exact ⟨rfl, rfl⟩

/-- R17: every crossing restarts the no-crossing timer and refreshes the AC peak. -/
theorem Plant.crossing_tracker (crossing : Nat) (v : Int) :
    (p.crossing e crossing v).tracker =
      { (p.takeCrossingPeriod e crossing).tracker.refreshPeak e.supplyLevel v.natAbs with
        lastCrossing := some crossing, noCrossing := e.time.after 30 } := by
  simp [Plant.crossing]

theorem Plant.logs_crossing (crossing : Nat) (v : Int) : ∃ l, l.length ≤ 1 ∧
    JournalUnit.Logs l (p.takeCrossingPeriod e crossing).unit (p.crossing e crossing v).unit := by
  obtain ⟨l, few, rect⟩ := logs_rectCrossing (e := e) (p := (p.takeCrossingPeriod e crossing).setTracker e
    { (p.takeCrossingPeriod e crossing).tracker.refreshPeak e.supplyLevel v.natAbs with
      lastCrossing := some crossing, noCrossing := e.time.after 30 }) crossing
  exact ⟨l, few, (logs_setTracker (e := e) _).trans rect⟩

/-- R16: the entry of a lock gained at a crossing stays in the journal through what follows in that event. -/
theorem Plant.mem_crossing_journal_locked {crossing last : Nat} (v : Int)
    (h : p.tracker.lastCrossing = some last) (valid : validPeriod (crossing - last) = true)
    (before : p.tracker.locked = false) (now : (p.tracker.takePeriod (crossing - last)).locked = true) :
    ⟨p.unit.nextIndex, e.time.stamp, .station, .syncLocked, [((p.tracker.takePeriod (crossing - last)).period : Int)]⟩
      ∈ (p.crossing e crossing v).unit.journal := by
  obtain ⟨l, few, logs⟩ := logs_crossing (e := e) (p := p) crossing v
  exact ((logs_takeCrossingPeriod_locked h valid before now).trans logs).mem
    (List.mem_append_left _ (List.mem_singleton_self _)) (by simp; omega)

/-- R16: and so does that of a lock lost there. -/
theorem Plant.mem_crossing_journal_lost {crossing last : Nat} (v : Int) (h : p.tracker.lastCrossing = some last)
    (invalid : validPeriod (crossing - last) = false) (before : p.tracker.locked = true) :
    ⟨p.unit.nextIndex, e.time.stamp, .station, .syncLost, [1, ((crossing - last : Nat) : Int)]⟩
      ∈ (p.crossing e crossing v).unit.journal := by
  obtain ⟨l, few, logs⟩ := logs_crossing (e := e) (p := p) crossing v
  obtain ⟨m, fewLost, entry, loses⟩ := logs_loseSync (e := e) (p := p) 1 (crossing - last) before
  rw [takeCrossingPeriod_invalid h invalid] at logs
  exact (loses.trans logs).mem (List.mem_append_left _ entry) (by simp; omega)

/-- R14: the present sample of VAB kept as the previous one, with its time. -/
def Plant.keepSample (e : Env) (p : Plant) : Plant :=
  { p with tracker := { p.tracker with previous := some (e.front.latest.vab, e.time.nowUs) } }

/-- R14: VAB goes from below 0 to 0 or above. -/
theorem Plant.trackVab_crossing {v0 : Int} {t0 : Nat} (previous : p.tracker.previous = some (v0, t0)) (below : v0 < 0)
    (above : 0 ≤ e.front.latest.vab) :
    p.trackVab e =
      (p.keepSample e).crossing e (crossingTime t0 v0 e.front.latest.vab) e.front.latest.vab := by
  simp [Plant.trackVab, Plant.keepSample, previous, below, above]

/-- R14, R17: any other sample is kept as the previous one and raises the running peak. -/
theorem Plant.trackVab_noCrossing
    (h : ∀ v0 t0, p.tracker.previous = some (v0, t0) → 0 ≤ v0 ∨ e.front.latest.vab < 0) :
    p.trackVab e =
      { p with
        tracker := { p.tracker with
          previous := some (e.front.latest.vab, e.time.nowUs)
          peak := max p.tracker.peak e.front.latest.vab.natAbs } } := by
  unfold Plant.trackVab
  dsimp only
  split
  · rename_i v0 t0 previous
    have := h v0 t0 previous
    rw [if_neg (by omega)]
  · rfl

theorem validPeriod_iff (period : Nat) : validPeriod period = true ↔ 18182 ≤ period ∧ period ≤ 22222 := by
  simp [validPeriod]

/-- R15 step 1: the list keeps its newest three periods and takes one more. -/
theorem periodsWith_eq (period : Nat) (l : List Nat) : periodsWith period l = l.drop (l.length - 3) ++ [period] := by
  unfold periodsWith
  split
  · rfl
  · rw [Nat.sub_eq_zero_of_le (by omega), List.drop_zero]

/-! ### The absence of crossings -/

@[simp] theorem Plant.noCrossing_tracker : (p.noCrossing e).tracker =
    { p.tracker.loseRun.refreshPeak e.supplyLevel 0 with lastCrossing := none, noCrossing := e.time.after 30 } := by
  simp [Plant.noCrossing]

theorem Plant.mem_noCrossing_journal (h : p.tracker.locked = true) :
    ⟨p.unit.nextIndex, e.time.stamp, .station, .syncLost, [2, 0]⟩ ∈ (p.noCrossing e).unit.journal := by
  obtain ⟨l, few, entry, logs⟩ := logs_loseSync (e := e) 2 0 h
  exact (logs.trans (logs_setTracker _)).mem (List.mem_append_left _ entry) (by simp; omega)

theorem exec_noCrossingExpiry_due {s : State} (h : s.plant.tracker.noCrossing ≤ s.time.tick) :
    exec .noCrossingExpiry s = .next (s.onPlant Plant.noCrossing) :=
  congrArg Host.Outcome.next (State.atExpiry_due _ h)

theorem exec_noCrossingExpiry_notDue {s : State} (h : s.time.tick + 1 < s.plant.tracker.noCrossing) :
    exec .noCrossingExpiry s = .next s :=
  congrArg Host.Outcome.next (State.atExpiry_notDue _ h)

/-- Settles O5: a crossing by the period measured there, valid or not, and the expiry by the loss of lock. -/
theorem crossingsAndTheirAbsence : Obligations.CrossingsAndTheirAbsence := by
  refine ⟨fun e p v0 t0 previous below above => ?_, fun e p h => Plant.trackVab_noCrossing h, fun s => ⟨fun due => ?_,
    exec_noCrossingExpiry_notDue⟩⟩
  · intro v at' r q
    have crosses : r = (p.keepSample e).crossing e at' v := Plant.trackVab_crossing previous below above
    have tracker : q = { ((p.keepSample e).takeCrossingPeriod e at').tracker.refreshPeak e.supplyLevel v.natAbs with
        lastCrossing := some at', noCrossing := e.time.after 30 } :=
      (congrArg Plant.tracker crosses).trans (Plant.crossing_tracker at' v)
    refine ⟨fun last hlast => ?_, fun first => ?_⟩
    · intro period
      have stored : (p.keepSample e).tracker.lastCrossing = some last := hlast
      obtain ⟨kept, peak⟩ := Plant.takeCrossingPeriod_keeps (e := e) (p := p.keepSample e) at'
      refine ⟨tracker ▸ kept, tracker ▸ rfl, tracker ▸ rfl, tracker ▸ peak, tracker ▸ rfl, ?_, fun lo hi => ?_,
        fun outside => ?_⟩
      · rw [tracker]
        exact congrArg (fun peak => decide (peak < e.supplyLevel)) peak
      · have valid := (validPeriod_iff period).2 ⟨lo, hi⟩
        rw [tracker, crosses, Plant.takeCrossingPeriod_valid stored valid]
        exact ⟨rfl, periodsWith_eq .., rfl, rfl, Plant.mem_crossing_journal_locked v stored valid⟩
      · have invalid : validPeriod period = false := by
          rw [Bool.eq_false_iff, ne_eq, validPeriod_iff]
          omega
        rw [tracker, crosses, Plant.takeCrossingPeriod_invalid stored invalid, Plant.loseSync_tracker]
        exact ⟨rfl, rfl, rfl, rfl, Plant.mem_crossing_journal_lost v stored invalid⟩
    · rw [tracker, Plant.takeCrossingPeriod_first (p := p.keepSample e) first]
      rfl
  · exact ⟨_, exec_noCrossingExpiry_due due, Plant.noCrossing_tracker, Plant.mem_noCrossing_journal, rfl, rfl, rfl,
      rfl, rfl⟩

end Sys2Proof.Machine
end

section
/-! PROOFS. What one feeder-current sample does at a discriminator (O6, O7, O8): the instant function, the start run and
the rise event, each said once for each way it can go. -/

namespace Sys2Proof.Machine

variable {e : Env} {k : FeederId} {d d' : Discriminator} {v : BoundValues} {ev : RiseEvent}

/-! ### The sample taken (R6, R26) -/

/-- R26: i is the newest value of the history and d its rise over the ninth newest. -/
theorem lastSampleOf_eq {oldest newest : Int} {earlier between : List Int} (seven : between.length = 7)
    (history : e.front.history.get k = earlier ++ oldest :: (between ++ [newest])) :
    lastSampleOf e k = ⟨newest, newest - oldest, e.time.stamp⟩ := by
  have newestIs : (e.front.history.get k).getLastD 0 = newest := by
    rw [history, ← List.cons_append, ← List.append_assoc, List.getLastD_concat]
  have oldestIs : (e.front.history.get k).getD ((e.front.history.get k).length - 9) 0 = oldest := by
    have ninth : (e.front.history.get k).length - 9 = earlier.length := by
      simp [history, seven]
    rw [ninth, history, List.getD_append_right _ _ _ _ le_rfl, Nat.sub_self, List.getD_cons_zero]
  simp only [lastSampleOf, newestIs, oldestIs]

/-! ### The instant function (R24) -/

theorem instantCount_below {i : Int} {n : Nat} (below : i < (v.imax : Int)) : instantCount v i n = 0 :=
  if_neg (by omega)

theorem instantCount_above {i : Int} {n : Nat} (above : (v.imax : Int) ≤ i) : instantCount v i n = n + 1 :=
  if_pos above

theorem instantTrips_iff {i : Int} {n : Nat} :
    instantTrips v i n = true ↔ (v.imax : Int) ≤ i ∧ v.nmax ≤ n + 1 := by
  simp only [instantTrips, Bool.and_eq_true, decide_eq_true_eq]
  exact and_congr_right fun above => by rw [instantCount_above above]

theorem instantTrips_below {i : Int} {n : Nat} (below : i < (v.imax : Int)) : instantTrips v i n = false := by
  rw [Bool.eq_false_iff, ne_eq, instantTrips_iff]
  omega

/-! ### The event step (R29 to R31) -/

theorem RiseEvent.trips_iff {i : Int} : ev.trips i = true ↔ (ev.deltaI : Int) ≤ i - ev.ib ∧ ev.tmin ≤ ev.age := by
  simp [RiseEvent.trips]

/-- R28: an event at its entry, with the thresholds that a binding latches. -/
def RiseEvent.entered (v : BoundValues) (base : Int) : RiseEvent :=
  ⟨base, 0, 0, v.dfall, v.nend, v.deltaI, v.tmin, v.tmax⟩

namespace Discriminator

theorem eventStep_trips (h : ev.trips d.last.i = true) :
    d.eventStep ev = (d, some ⟨ev.ib, d.last.i - ev.ib, ev.age⟩) := by
  rw [eventStep, if_pos h]

section
variable (untripped : ev.trips d.last.i = false)
include untripped

theorem eventStep_ended (atEnd : ev.nend ≤ ev.endStep d.last.d) : d.eventStep ev = (d.endEvent .ended, none) := by
  simp [eventStep, untripped, atEnd]

theorem eventStep_expired (notEnded : ev.endStep d.last.d < ev.nend) (atMax : ev.age = ev.tmax) :
    d.eventStep ev = (d.endEvent .expired, none) := by
  simp [eventStep, untripped, notEnded, atMax]

theorem eventStep_goesOn (notEnded : ev.endStep d.last.d < ev.nend) (young : ev.age ≠ ev.tmax) :
    d.eventStep ev =
      ({ d with event := some { ev with endCount := ev.endStep d.last.d, age := ev.age + 1 } }, none) := by
  simp [eventStep, untripped, notEnded, young]

end

/-- R29 to R32: an event step changes the rise function's part of the discriminator alone. -/
theorem eventStep_only (ev : RiseEvent) (d : Discriminator) : ∃ run base event events outcome, (d.eventStep ev).1 =
    { d with startRun := run, startBase := base, event := event, events := events, outcome := outcome } := by
  unfold eventStep
  split
  · exact ⟨_, _, _, _, _, rfl⟩
  · dsimp only
    split
    · exact ⟨_, _, _, _, _, rfl⟩
    · split
      · exact ⟨_, _, _, _, _, rfl⟩
      · exact ⟨_, _, _, _, _, rfl⟩

/-! ### The start run (R27, R28) -/

theorem startBlocked_iff : d.startBlocked v = true ↔ 0 < d.blocking ∨ v.riseEnabled = false := by
  simp [startBlocked]

theorem startBlocked_false (unblocked : d.blocking = 0) (enabled : v.riseEnabled = true) :
    d.startBlocked v = false := by
  simp [startBlocked, unblocked, enabled]

/-- R27: a sample that does not count, or may not, leaves no start run. -/
theorem startStep_held (h : 0 < d.blocking ∨ v.riseEnabled = false ∨ d.last.d < (v.drise : Int)) :
    d.startStep v = { d with startRun := 0, startBase := none } := by
  unfold startStep
  split
  · rfl
  · rename_i free
    have low : d.last.d < (v.drise : Int) := by
      rw [startBlocked_iff] at free
      tauto
    rw [if_pos low]

/-- R27: the base of a start run after one more sample, taken at the first. -/
def runBase (d : Discriminator) : Option Int := if d.startRun = 0 then some (d.last.i - d.last.d) else d.startBase

theorem startStep_counts (free : d.startBlocked v = false) (high : (v.drise : Int) ≤ d.last.d) :
    d.startStep v = { d with startRun := d.startRun + 1, startBase := d.runBase } := by
  unfold startStep runBase
  rw [if_neg (by simp [free]), if_neg (not_lt.2 high)]
  split
  · rename_i first
    rw [first]
  · rfl

theorem runBase_getD (first : d.startRun = 0 → d.startBase = none) :
    d.runBase.getD (d.last.i - d.last.d) = d.startBase.getD (d.last.i - d.last.d) := by
  unfold runBase
  split
  · rename_i h
    rw [first h]
    rfl
  · rfl

/-- R27: the start step changes the start run and its base alone. -/
theorem startStep_only (v : BoundValues) (d : Discriminator) :
    ∃ run base, d.startStep v = { d with startRun := run, startBase := base } := by
  unfold startStep
  split
  · exact ⟨_, _, rfl⟩
  · split
    · exact ⟨_, _, rfl⟩
    · split
      · exact ⟨_, _, rfl⟩
      · exact ⟨_, _, rfl⟩

/-! ### The rise function (R22 step 3) -/

theorem riseStep_event (h : d.event = some ev) : d.riseStep v = d.eventStep ev := by
  simp only [riseStep, h]

section
variable (idle : d.event = none)
include idle

theorem riseStep_held (h : 0 < d.blocking ∨ v.riseEnabled = false ∨ d.last.d < (v.drise : Int)) :
    d.riseStep v = ({ d with startRun := 0, startBase := none }, none) := by
  simp [riseStep, idle, startStep_held h]

variable (unblocked : d.blocking = 0) (enabled : v.riseEnabled = true) (high : (v.drise : Int) ≤ d.last.d)
include unblocked enabled high

theorem riseStep_counts (short : d.startRun + 1 < v.nstart) :
    d.riseStep v = ({ d with startRun := d.startRun + 1, startBase := d.runBase }, none) := by
  simp [riseStep, idle, startStep_counts (startBlocked_false unblocked enabled) high, short]

/-- R28: entry into RISING, with the event's first step on the same sample. -/
theorem riseStep_starts (long : v.nstart ≤ d.startRun + 1) (first : d.startRun = 0 → d.startBase = none) :
    d.riseStep v =
      let ev := RiseEvent.entered v (d.startBase.getD (d.last.i - d.last.d))
      eventStep ev { d with startRun := 0, startBase := none, event := some ev } := by
  simp [riseStep, idle, startStep_counts (startBlocked_false unblocked enabled) high, long, startBlocked, unblocked,
    enabled, enterRising, runBase_getD first, RiseEvent.entered]

end

/-- R27 to R32: the rise function changes its own part of the discriminator alone. -/
theorem riseStep_only (v : BoundValues) (d : Discriminator) : ∃ run base event events outcome, (d.riseStep v).1 =
    { d with startRun := run, startBase := base, event := event, events := events, outcome := outcome } := by
  unfold riseStep
  split
  · exact eventStep_only _ _
  · obtain ⟨run, base, start⟩ := startStep_only v d
    simp only [start]
    split
    · obtain ⟨run', base', event', events', outcome', step⟩ := eventStep_only
        (.entered v (base.getD (d.last.i - d.last.d)))
        ({ d with startRun := run, startBase := base }.enterRising v)
      exact ⟨run', base', event', events', outcome', step⟩
    · exact ⟨_, _, _, _, _, rfl⟩

/-! ### One sample (R22, R40) -/

theorem sample_notArmed (h : d.state ≠ .armed) : d.sample e k = ({ d with last := lastSampleOf e k }, none) := by
  unfold sample
  dsimp only
  split
  · rfl
  · rfl
  · contradiction

/-- R22: the discriminator with the sample taken and the instant function's count of it. -/
def counted (e : Env) (k : FeederId) (d : Discriminator) : Discriminator :=
  { d with
    last := lastSampleOf e k
    instant := instantCount (e.store.values k) (lastSampleOf e k).i d.instant }

theorem counted_below (below : (lastSampleOf e k).i < ((e.store.values k).imax : Int)) :
    d.counted e k = { d with last := lastSampleOf e k, instant := 0 } := by
  rw [counted, instantCount_below below]

section
variable (armed : d.state = .armed)
include armed

theorem sample_instantTrips
    (h : instantTrips (e.store.values k) (lastSampleOf e k).i d.instant = true) :
    d.sample e k =
      ({ d with last := lastSampleOf e k }.trip,
        some ({ d with last := lastSampleOf e k }.snapshot (e.store.binding.get k).set .instant none)) := by
  simp [sample, armed, evaluate, h]

variable (calm : instantTrips (e.store.values k) (lastSampleOf e k).i d.instant = false)
include calm

theorem sample_riseTrips {values : RiseValues}
    (rise : (d.counted e k).riseStep (e.store.values k) = (d', some values)) :
    d.sample e k = (d'.trip, some (d'.snapshot (e.store.binding.get k).set .rise (some values))) := by
  rw [counted] at rise
  simp only [sample, evaluate, calm, rise, Bool.false_eq_true, if_false]
  simp only [armed]

theorem sample_untripped (rise : (d.counted e k).riseStep (e.store.values k) = (d', none)) :
    d.sample e k = ({ d' with blocking := d'.blocking - 1 }, none) := by
  rw [counted] at rise
  simp only [sample, evaluate, calm, rise, Bool.false_eq_true, if_false]
  simp only [armed]

/-- R24, R40: where the instant function does not trip, the sample leaves its count, or the rise function trips. -/
theorem sample_calm :
    (d.sample e k).2 = none ∧
        (d.sample e k).1.instant = instantCount (e.store.values k) (lastSampleOf e k).i d.instant ∨
      (∃ snap, (d.sample e k).2 = some snap ∧ snap.cause = .rise) ∧ (d.sample e k).1.instant = 0 := by
  rcases rise : (d.counted e k).riseStep (e.store.values k) with ⟨d', _ | values⟩
  · obtain ⟨run, base, event, events, outcome, only⟩ := riseStep_only (e.store.values k) (d.counted e k)
    rw [sample_untripped armed calm rise]
    rw [rise] at only
    exact .inl ⟨rfl, congrArg Discriminator.instant only⟩
  · rw [sample_riseTrips armed calm rise]
    exact .inr ⟨⟨_, rfl, rfl⟩, rfl⟩

omit calm

variable (below : (lastSampleOf e k).i < ((e.store.values k).imax : Int))
include below

theorem sample_below_riseTrips {values : RiseValues}
    (rise : riseStep (e.store.values k) { d with last := lastSampleOf e k, instant := 0 } = (d', some values)) :
    d.sample e k = (d'.trip, some (d'.snapshot (e.store.binding.get k).set .rise (some values))) :=
  sample_riseTrips armed (instantTrips_below below) (by rwa [counted_below below])

theorem sample_below_untripped
    (rise : riseStep (e.store.values k) { d with last := lastSampleOf e k, instant := 0 } = (d', none)) :
    d.sample e k = ({ d' with blocking := d'.blocking - 1 }, none) :=
  sample_untripped armed (instantTrips_below below) (by rwa [counted_below below])

end

end Discriminator

open Discriminator

/-- Settles O6: at or above Imax by the instant counter, below it by what a sample without an INSTANT trip can do. -/
theorem instantFunctionTrips : Obligations.InstantFunctionTrips := by
  intro e k d x v r
  refine ⟨fun oldest newest earlier between => lastSampleOf_eq, fun armed above reached => ?_,
    fun armed above short untripped => ?_, fun armed below => ?_, sample_notArmed⟩
  · exact sample_instantTrips armed (instantTrips_iff.2 ⟨above, reached⟩)
  · have calm : instantTrips v x.i d.instant = false := by
      rw [Bool.eq_false_iff, ne_eq, instantTrips_iff]
      omega
    rcases sample_calm armed calm with ⟨-, count⟩ | ⟨⟨snap, trips, -⟩, -⟩
    · exact count.trans (instantCount_above above)
    · cases untripped.symm.trans trips
  · rcases sample_calm armed (instantTrips_below below) with ⟨untripped, count⟩ | ⟨⟨snap, trips, rise⟩, cleared⟩
    · exact ⟨count.trans (instantCount_below below), fun snap trips => by cases untripped.symm.trans trips⟩
    · refine ⟨cleared, fun other answered => ?_⟩
      cases trips.symm.trans answered
      exact rise

/-- Settles O7: a start run held, counted, or grown to an event that takes its first step. -/
theorem riseFunctionStarts : Obligations.RiseFunctionStarts := by
  intro e k d armed idle below x v r
  refine ⟨fun held => ?_, fun unblocked enabled high short => ?_, fun unblocked enabled high long first _ => ?_⟩
  · exact sample_below_untripped armed below (riseStep_held idle held)
  · refine (sample_below_untripped armed below (riseStep_counts idle unblocked enabled high short)).trans ?_
    rw [unblocked]
    rfl
  · intro base ended
    have starts := riseStep_starts (d := { d with last := x, instant := 0 }) idle unblocked enabled high long
      first
    refine ⟨fun ⟨risen, now⟩ => ?_, fun h notEnded tmax nend => ?_⟩
    · have trips := sample_below_riseTrips armed below
        (starts.trans (eventStep_trips (RiseEvent.trips_iff.2 ⟨risen, now.le⟩)))
      exact ⟨_, congrArg Prod.snd trips, rfl, rfl, congrArg (state ∘ Prod.fst) trips⟩
    · have untripped : (RiseEvent.entered v base).trips x.i = false := by
        rw [Bool.eq_false_iff, ne_eq, RiseEvent.trips_iff]
        exact fun ⟨risen, now⟩ => h ⟨risen, Nat.le_zero.1 now⟩
      have short : (RiseEvent.entered v base).endStep x.d < v.nend := by
        rw [RiseEvent.endStep]
        split
        · rename_i falls
          exact lt_of_not_ge fun nend => notEnded ⟨falls, nend⟩
        · exact nend
      have goesOn := sample_below_untripped armed below (starts.trans (eventStep_goesOn untripped short tmax.ne))
      exact ⟨congrArg Prod.snd goesOn, (congrArg (state ∘ Prod.fst) goesOn).trans armed,
        congrArg (startRun ∘ Prod.fst) goesOn, congrArg (startBase ∘ Prod.fst) goesOn,
        congrArg (event ∘ Prod.fst) goesOn⟩

/-- Settles O8: the four ways of the event step, below Imax. -/
theorem riseEventRunsAndEnds : Obligations.RiseEventRunsAndEnds := by
  intro e k d ev armed rising below x r trips n gone
  have step : riseStep (e.store.values k) { d with last := x, instant := 0 } =
      eventStep ev { d with last := x, instant := 0 } := riseStep_event rising
  have untripped (h : ¬ trips) : ev.trips x.i = false := by
    rwa [Bool.eq_false_iff, ne_eq, RiseEvent.trips_iff]
  refine ⟨fun h => ?_, fun h atEnd => ?_, fun h notEnded atMax => ?_, fun h notEnded young => ?_⟩
  · exact sample_below_riseTrips armed below (step.trans (eventStep_trips (RiseEvent.trips_iff.2 h)))
  · exact sample_below_untripped armed below (step.trans (eventStep_ended (untripped h) atEnd))
  · exact sample_below_untripped armed below (step.trans (eventStep_expired (untripped h) notEnded atMax))
  · exact sample_below_untripped armed below (step.trans (eventStep_goesOn (untripped h) notEnded young))

end Sys2Proof.Machine
end

section
/-! PROOFS. The millisecond event at a discriminator: the thermal image, its alarm and its trip (O9). -/

namespace Sys2Proof.Machine

/-! ### The thermal image (R35, R36) -/

section
variable (s : Nat) (mean θ : Int)

/-- R35: the added term is the floor of an exact quotient. -/
theorem thermalStep_eq : thermalStep s mean θ = θ + (mean * mean - θ) / 2 ^ s := by
  rw [thermalStep, floorDiv, Int.fdiv_eq_ediv_of_nonneg _ (by positivity)]

/-- R36: θ never passes I². -/
theorem thermalStep_between :
    min θ (mean * mean) ≤ thermalStep s mean θ ∧ thermalStep s mean θ ≤ max θ (mean * mean) := by
  have one : (1 : Int) ≤ 2 ^ s := one_le_pow₀ (by norm_num)
  rw [thermalStep_eq]
  rcases lt_or_ge (mean * mean - θ) 0 with falls | rises
  · have lower : mean * mean - θ ≤ (mean * mean - θ) / 2 ^ s :=
      Int.le_ediv_of_mul_le (by omega) (mul_le_of_one_le_right falls.le one)
    have upper := Int.ediv_neg_of_neg_of_pos falls (zero_lt_one.trans_le one)
    omega
  · have lower := Int.ediv_nonneg rises (zero_le_one.trans one)
    have upper := Int.ediv_le_self (2 ^ s) rises
    omega

theorem thermalStep_eq_self_iff :
    thermalStep s mean θ = θ ↔ 0 ≤ mean * mean - θ ∧ mean * mean - θ < 2 ^ s := by
  rw [thermalStep_eq, add_eq_left, Int.ediv_eq_iff_of_pos (by positivity)]
  simp

variable {mean θ}

theorem thermalStep_lt (h : mean * mean < θ) : thermalStep s mean θ < θ := by
  have falls := Int.ediv_neg_of_neg_of_pos (sub_neg.2 h) (show (0 : Int) < 2 ^ s by positivity)
  rw [thermalStep_eq]
  omega

end

/-! ### The millisecond event (R37, R38, R40) -/

variable {e : Env} {k : FeederId} {p : Plant}

@[simp] theorem JournalUnit.latchIfNew_nextIndex (a : Alarm) (before now : Bool) (u : JournalUnit) :
    (latchIfNew e a before now u).nextIndex = u.nextIndex := by
  unfold latchIfNew
  split
  · exact latch_nextIndex ..
  · rfl

/-- R180: a condition that has come about is latched, and stays so through an entry that follows. -/
theorem JournalUnit.post_latchIfNew_latched (a : Alarm) (s : Source) (kind : Kind) (l : List Int) (u : JournalUnit) :
    (post e s kind l (latchIfNew e a false true u)).latched.get a = true := by
  refine (logs_post s kind l _).latched a ?_
  simp [latchIfNew, latch_latched]

theorem thermalTrips_iff {v : BoundValues} {d : Discriminator} : thermalTrips v d = true ↔
    d.state = .armed ∧ v.thermalEnabled = true ∧ (v.ith : Int) * v.ith ≤ d.theta := by
  simp [thermalTrips, and_assoc]

/-- R35: discriminator k with θ updated and the alarm condition evaluated. -/
def Plant.heatedDisc (e : Env) (k : FeederId) (p : Plant) : Discriminator :=
  (p.disc k).heat (e.store.values k) (e.front.mean1 (.feederCurrent k))

/-- R35, R37: the plant with θ updated and a change of the alarm condition journaled, before the trip test. -/
def Plant.heated (e : Env) (k : FeederId) (p : Plant) : Plant :=
  let new := p.heatedDisc e k
  let q := p.setDisc k new
  if (p.disc k).alarm = new.alarm then q
  else (q.latchIfNew e (.thermalAlarm k) (p.disc k).alarm new.alarm).post e (.feeder k) .thermalAlarm
    [if new.alarm then 1 else 0]

namespace Plant

theorem thermalEvent_eq : p.thermalEvent e k =
    if thermalTrips (e.store.values k) (p.heatedDisc e k) then
      ((p.heated e k).setDisc k (p.heatedDisc e k).trip,
        some ((p.heatedDisc e k).snapshot (e.store.binding.get k).set .thermal none))
    else (p.heated e k, none) := rfl

@[simp] theorem heated_disc (j : FeederId) :
    (p.heated e k).disc j = if j = k then p.heatedDisc e k else p.disc j := by
  unfold heated
  dsimp only
  split <;> simp

theorem heated_unit_same (h : (p.heatedDisc e k).alarm = (p.disc k).alarm) : (p.heated e k).unit = p.unit := by
  rw [heated, if_pos h.symm, setDisc_unit]

/-- R37: the entry of a change. -/
theorem heated_unit_changed (h : (p.heatedDisc e k).alarm ≠ (p.disc k).alarm) :
    (p.heated e k).unit = JournalUnit.post e (.feeder k) .thermalAlarm [if (p.heatedDisc e k).alarm then 1 else 0]
      (JournalUnit.latchIfNew e (.thermalAlarm k) (p.disc k).alarm (p.heatedDisc e k).alarm p.unit) := by
  rw [heated, if_neg (Ne.symm h), post_unit, latchIfNew_unit, setDisc_unit]

/-- R40: a trip clears the evaluation at once. -/
theorem thermalEvent_disc_self : (p.thermalEvent e k).1.disc k =
    if thermalTrips (e.store.values k) (p.heatedDisc e k) then (p.heatedDisc e k).trip else p.heatedDisc e k := by
  rw [thermalEvent_eq]
  split <;> simp

theorem thermalEvent_disc_other {j : FeederId} (h : j ≠ k) : (p.thermalEvent e k).1.disc j = p.disc j := by
  rw [thermalEvent_eq]
  split <;> simp [h]

theorem thermalEvent_unit : (p.thermalEvent e k).1.unit = (p.heated e k).unit := by
  rw [thermalEvent_eq]
  split <;> rfl

end Plant

/-- Settles O9: the event as the heated discriminator with the entry of its alarm, tripped or not, and the bounds of R36
from the quotient that R35 adds. -/
theorem thermalEventAlarmsAndTrips : Obligations.ThermalEventAlarmsAndTrips := by
  refine ⟨fun e k p => ?_, fun s mean θ => ?_⟩
  · intro v mean d θ alarm r trips
    have tripsIff : thermalTrips (e.store.values k) (p.heatedDisc e k) = true ↔ trips := thermalTrips_iff
    refine ⟨?_, ?_, fun j other => Plant.thermalEvent_disc_other other, fun same => ?_, fun changed => ?_,
      fun live before => ?_, fun h => ?_, fun h => ?_⟩
    · rw [Plant.thermalEvent_disc_self]
      split <;> rfl
    · rw [Plant.thermalEvent_disc_self]
      split <;> rfl
    · rw [Plant.thermalEvent_unit, Plant.heated_unit_same same]
    · rw [Plant.thermalEvent_unit, Plant.heated_unit_changed changed, JournalUnit.post_last,
        JournalUnit.latchIfNew_nextIndex]
      rfl
    · have changed : alarm ≠ d.alarm := by simp [live, before]
      rw [Plant.thermalEvent_unit, Plant.heated_unit_changed changed]
      have turns : (p.disc k).alarm = false ∧ (p.heatedDisc e k).alarm = true := ⟨before, live⟩
      rw [turns.1, turns.2]
      exact JournalUnit.post_latchIfNew_latched (.thermalAlarm k) ..
    · have tripped := tripsIff.2 h
      have disc : r.1.disc k = (p.heatedDisc e k).trip := Plant.thermalEvent_disc_self.trans (if_pos tripped)
      exact ⟨congrArg Prod.snd (Plant.thermalEvent_eq.trans (if_pos tripped)), congrArg Discriminator.state disc,
        congrArg Discriminator.event disc, congrArg Discriminator.instant disc⟩
    · have untripped := mt tripsIff.1 h
      have disc : r.1.disc k = p.heatedDisc e k := Plant.thermalEvent_disc_self.trans (if_neg untripped)
      exact ⟨congrArg Prod.snd (Plant.thermalEvent_eq.trans (if_neg untripped)),
        (congrArg Discriminator.state disc).trans rfl⟩
  · intro next
    obtain ⟨lower, upper⟩ := thermalStep_between s mean θ
    exact ⟨lower, upper, thermalStep_eq_self_iff s mean θ, thermalStep_lt s⟩

end Sys2Proof.Machine
end

section
/-! PROOFS. Arming, disarming and requested snapshots of a discriminator (O10), and the clearing of its counters
(O11). -/

namespace Sys2Proof

theorem FeederId.ofNumber_eq_none {n : Nat} (h : n < 1 ∨ 6 < n) : FeederId.ofNumber n = none := by
  rcases h with low | high
  · rw [Nat.lt_one_iff.1 low]
    rfl
  · obtain ⟨m, rfl⟩ := Nat.exists_eq_add_of_le' (Nat.succ_le_of_lt high)
    rfl

namespace Machine

variable {e : Env} {k : FeederId} {p : Plant} {d : Discriminator}

/-! ### The position of the feeder breaker (R20, R21) -/

theorem Discriminator.arm_disarmed (v : BoundValues) (h : d.state = .disarmed) :
    d.arm v = { d.clearRun with state := .armed, blocking := 8 * v.tcb } := by
  simp only [arm, h]

theorem Discriminator.disarm_eq (h : d.state ≠ .disarmed) : d.disarm = { d.clearRun with state := .disarmed } := by
  unfold disarm
  split
  · rfl
  · rfl
  · contradiction

theorem Plant.presentBreaker_closes {before : Position} (h : before ≠ .closed) :
    p.presentBreaker e k before .closed = p.setDisc k ((p.disc k).arm (e.store.values k)) :=
  if_pos ⟨rfl, h⟩

theorem Plant.presentBreaker_leaves {now : Position} (h : now ≠ .closed) :
    p.presentBreaker e k .closed now = p.setDisc k (p.disc k).disarm :=
  (if_neg fun closes => closes.2 rfl).trans (if_pos ⟨rfl, h⟩)

/-! ### Requested snapshots (R42) -/

theorem Discriminator.onRequest_eq (d : Discriminator) : d.onRequest = if d.state = .armed then d.trip else d := by
  unfold onRequest
  cases d.state <;> rfl

/-- Settles O10: each change of position, and a request, by what it makes of the one discriminator it reaches. -/
theorem breakerPositionArms : Obligations.BreakerPositionArms := by
  intro e k p r cause d clear
  refine ⟨fun disarmed moved => ?_, fun active moved => ?_, rfl, ?_⟩
  · rw [Plant.presentBreaker_closes moved, Plant.disc_setDisc, if_pos rfl, Discriminator.arm_disarmed _ disarmed]
    rfl
  · rw [Plant.presentBreaker_leaves moved, Plant.disc_setDisc, if_pos rfl, Discriminator.disarm_eq active]
    rfl
  · rw [Plant.requestSnapshot, Plant.disc_setDisc, if_pos rfl, Discriminator.onRequest_eq]
    rfl

/-! ### Clear Feeder Counters (R45) -/

theorem leBytes_number {n : Byte} (h : n.toNat = k.number) : leBytes 1 (k.number : Int) = [n] := by
  simp [leBytes, ← h]

section
variable {serve : FeederId → State → Served} {n : Byte} {s : State}

theorem withFeeder_number (h : n.toNat = k.number) : withFeeder n serve s = serve k s := by
  simp [withFeeder, h]

/-- R204: a feeder number outside 1..6. -/
theorem withFeeder_outside (h : n.toNat < 1 ∨ 6 < n.toNat) :
    withFeeder n serve s = answered (refusal .badValue) s := by
  simp [withFeeder, FeederId.ofNumber_eq_none h]

end

section
variable {serve : State → Served} {s : State}

theorem needsKey_active (h : s.panel.engKey = true) : needsKey serve s = serve s := if_pos h

theorem needsKey_inactive (h : s.panel.engKey = false) :
    needsKey serve s = answered (refusal .notPermitted) s := if_neg (by simp [h])

end

/-- Settles O11: the request answered at once, with the key and a feeder or refused. -/
theorem clearFeederCountersClears : Obligations.ClearFeederCountersClears := by
  intro head n s atOnce
  refine ⟨fun k key number => ?_, fun noKey => ?_, fun key outside => ?_⟩
  · refine congrArg _ (State.request_repliedWith (time := s.time) atOnce ?_)
    refine (needsKey_active key).trans ((withFeeder_number number).trans ?_)
    rw [leBytes_number number]
    rfl
  · exact congrArg _ (State.request_repliedWith (time := s.time) atOnce (needsKey_inactive noKey))
  · refine congrArg _ (State.request_repliedWith (time := s.time) atOnce ?_)
    exact (needsKey_active key).trans (withFeeder_outside outside)

end Machine

end Sys2Proof
end

section
/-! PROOFS. What each command can do to the settings, the link's requests and the attempts used, said once: a property of
the state that a few changes keep is kept by every command. -/

namespace Sys2Proof.Machine

/-! ### Attempts used -/

/-- R69: no feeder has used more attempts than before, or than its binding presents. -/
def Plant.AttemptsWithin (e : Env) (p q : Plant) : Prop :=
  ∀ k, (q.feeder k).attempts ≤ max (p.feeder k).attempts (e.store.values k).attempts

theorem Plant.attemptsWithin_refl (e : Env) (p : Plant) : p.AttemptsWithin e p := fun _ => Nat.le_max_left ..

theorem Plant.AttemptsWithin.setFeeder {e : Env} {p q : Plant} (h : p.AttemptsWithin e q) {k : FeederId} {f : Sequencer}
    (a : f.attempts ≤ (q.feeder k).attempts ∨ f.attempts ≤ (e.store.values k).attempts) :
    p.AttemptsWithin e (q.setFeeder k f) := by
  intro j
  rw [Plant.feeder_setFeeder]
  split
  · subst j
    have before := h k
    omega
  · exact h j

/-- R69: no event of the plant's blocks takes a feeder beyond its attempts. -/
theorem Kept.attemptsWithin (e : Env) (p : Plant) : Kept e (fun _ q => p.AttemptsWithin e q) where
  weaken _ h := h
  post _ _ _ h := h
  raise _ h := h
  latch _ h := h
  claim _ _ h := h
  disc _ _ h _ := h
  heat _ _ h := h
  seq k f h quiet := h.setFeeder quiet.2.2.2
  lock _ _ h _ := Plant.AttemptsWithin.setFeeder h (.inl (Nat.le_refl _))
  join {q} k reclose exit h := by
    have entered : p.AttemptsWithin e (q.onFeeder k (Sequencer.enterTripping reclose exit)) :=
      Plant.AttemptsWithin.setFeeder h (.inl (Nat.le_refl _))
    unfold Plant.joinPending Plant.retardEntry
    dsimp only
    (repeat' split) <;> exact entered
  leave k h _ := by
    unfold Plant.leavePending Plant.retardExit
    dsimp only
    (repeat' split) <;> exact h
  item _ _ h _ := h
  itemFails _ _ h := h
  itemUnsensed _ _ h _ _ := h
  rect _ h _ _ := h
  rectTrips _ h _ := h
  rail _ h _ _ := h
  railPermanent _ h _ := h
  frameFault _ h _ := h
  tracker _ h := h
  trackerQuiet _ h _ := h
  capture h := h

/-! ### Changes that leave the settings alone -/

/-- A change that leaves the store and the request under execution alone, brings no reply and no third frame into the
queue, and takes no feeder beyond its attempts. -/
structure State.Spares (s t : State) : Prop where
  store : t.store = s.store
  executing : t.link.executing = s.link.executing
  slot : t.link.slot = s.link.slot ∨ t.link.slot = none
  queue : t.link.queue.length ≤ max 2 s.link.queue.length
  attempts : s.plant.AttemptsWithin s.env t.plant

namespace State

variable {s t r : State}

theorem Spares.refl (s : State) : s.Spares s :=
  ⟨rfl, rfl, .inl rfl, Nat.le_max_right .., s.plant.attemptsWithin_refl s.env⟩

theorem Spares.trans (a : s.Spares t) (b : t.Spares r) : s.Spares r where
  store := b.store.trans a.store
  executing := b.executing.trans a.executing
  slot := b.slot.elim (fun h => h ▸ a.slot) .inr
  queue := by
    have first := a.queue
    have second := b.queue
    omega
  attempts k := by
    have first := a.attempts k
    have second := b.attempts k
    simp only [env_store, a.store] at first second ⊢
    omega

/-- A change of the plant alone. -/
theorem spares_plant {p : Plant} (h : s.plant.AttemptsWithin s.env p) : s.Spares { s with plant := p } :=
  ⟨rfl, rfl, .inl rfl, Nat.le_max_right .., h⟩

/-- A change of the plant that no feeder's attempts are part of. -/
theorem spares_sameFeeders {p : Plant} (h : p.feeders = s.plant.feeders) : s.Spares { s with plant := p } :=
  spares_plant (fun k => by simp only [Plant.feeder, h]; exact Nat.le_max_left ..)

/-- An event of the plant's blocks. -/
theorem spares_kept {f : Env → Plant → Plant}
    (h : ∀ P : Option FeederId → Plant → Prop, Kept s.env P → P none s.plant → P none (f s.env s.plant)) :
    s.Spares (s.onPlant f) :=
  spares_plant (h _ (Kept.attemptsWithin s.env s.plant) (s.plant.attemptsWithin_refl s.env))

/-- A change of the time base, the inputs, the front end or the energy unit. -/
theorem spares_outside (s : State) {t : State} (store : t.store = s.store) (link : t.link = s.link) (plant : t.plant = s.plant) :
    s.Spares t :=
  ⟨store, congrArg Link.executing link, .inl (congrArg Link.slot link), by rw [link]; exact Nat.le_max_right ..,
    plant ▸ s.plant.attemptsWithin_refl s.env⟩

theorem spares_link {l : Link} (executing : l.executing = s.link.executing)
    (slot : l.slot = s.link.slot ∨ l.slot = none) (queue : l.queue.length ≤ max 2 s.link.queue.length) :
    s.Spares { s with link := l } :=
  ⟨rfl, executing, slot, queue, s.plant.attemptsWithin_refl s.env⟩

/-- A change of the receive assembly and the counters. -/
theorem spares_reception (s : State) (assembly : Assembly) (counters : LinkCounters) :
    s.Spares { s with link := { s.link with assembly := assembly, counters := counters } } :=
  spares_link rfl (.inl rfl) (Nat.le_max_right ..)

theorem spares_enqueue (s : State) (f : LinkFrame) : s.Spares { s with link := s.link.enqueue f } := by
  unfold Link.enqueue
  split
  · refine spares_link rfl (.inl rfl) ?_
    simp only [List.length_append, List.length_singleton]
    omega
  · exact spares_link rfl (.inl rfl) (Nat.le_max_right ..)

/-- R192: a change of the receive assembly at a framing error, a gap and the end of a break. -/
theorem spares_framingError (s : State) : s.Spares { s with link := s.link.framingError } := by
  unfold Link.framingError
  split
  · exact .refl s
  all_goals exact s.spares_reception ..

theorem spares_gapExpires (s : State) : s.Spares { s with link := s.link.gapExpires } := by
  unfold Link.gapExpires
  split
  · exact s.spares_reception ..
  · exact .refl s

theorem spares_breakEnds (s : State) : s.Spares { s with link := s.link.breakEnds } := by
  unfold Link.breakEnds
  split
  · exact s.spares_reception _ s.link.counters
  all_goals exact .refl s

theorem spares_linkBreak (s : State) : s.Spares s.linkBreak := by
  unfold linkBreak
  split
  · exact .refl s
  · exact (spares_link (l := s.link.takeBreak) rfl (.inl rfl) (Nat.zero_le _)).trans (spares_sameFeeders rfl)

theorem spares_beginReply (s : State) (f : LinkFrame) : s.Spares { s with link := s.link.beginReply f } :=
  spares_link rfl (.inr rfl) (Nat.le_max_right ..)

theorem spares_beginNotice (s : State) (n : Notice) : s.Spares (s.beginNotice n) :=
  ⟨rfl, rfl, .inl rfl, Nat.le_max_right .., s.plant.attemptsWithin_refl s.env⟩

/-- An expiry spares the settings where what it does spares them, wherever the grid stands. -/
theorem spares_atExpiry {expiry : Option Nat} {act : State → State}
    (h : ∀ time : TimeBase, Spares { s with time := time } (act { s with time := time })) :
    s.Spares (s.atExpiry expiry act) := by
  rcases s.atExpiry_cases expiry act with same | now | next
  · rw [same]; exact .refl s
  · rw [now]; exact h s.time
  · have moved : s.Spares { s with time := s.time.begin } := s.spares_outside rfl rfl rfl
    rw [next]
    exact moved.trans (h s.time.begin)

end State

end Sys2Proof.Machine
end

section
/-! PROOFS. What serving each request gives, and the principle by which a property of the settings is kept by every
command. -/

namespace Sys2Proof.Machine

/-! ### What serving a request gives -/

/-- What serving a request can give: an answer that spares the settings, an erased set that no feeder is bound to, an
applied feed state, or a write that is taken without a reply. -/
inductive State.Serves (s : State) : Served → Prop
  | answers {t : State} {payload : List Byte} (spares : s.Spares t) : s.Serves (t, some payload)
  | erasesSet (n : SetId) (payload : List Byte) (free : s.store.inUse[n] = 0) : s.Serves (s.eraseSet n, some payload)
  | appliesFeedState (k : FeederId) (f : FeedState) (payload : List Byte) :
      s.Serves (s.applyFeedState k f, some payload)
  | takesSetWrite (n : SetId) (fields : SetFields) : s.Serves (takeSetWrite n fields s)
  | takesStationWrite (fields : StationFields) : s.Serves (takeStationWrite fields s)
  | takesMapWrite (k : FeederId) (f : FeedState) (value : Option SetId) : s.Serves (takeMapWrite k f value s)

namespace State

variable {s : State}

theorem serves_answered (s : State) (payload : List Byte) : s.Serves (answered payload s) := .answers (.refl s)

/-- An event of the plant that no feeder's attempts are part of. -/
theorem serves_sameFeeders {p : Plant} {payload : List Byte} (h : p.feeders = s.plant.feeders) :
    s.Serves ({ s with plant := p }, some payload) := .answers (spares_sameFeeders h)

/-- An event of the plant's blocks. -/
theorem serves_kept {f : Env → Plant → Plant} {payload : List Byte}
    (h : ∀ P : Option FeederId → Plant → Prop, Kept s.env P → P none s.plant → P none (f s.env s.plant)) :
    s.Serves (s.onPlant f, some payload) := .answers (spares_kept h)

theorem serves_needsRemote {serve : State → Served} (h : s.Serves (serve s)) : s.Serves (needsRemote serve s) := by
  unfold needsRemote
  split
  · exact h
  · exact s.serves_answered _

theorem serves_needsKey {serve : State → Served} (h : s.Serves (serve s)) : s.Serves (needsKey serve s) := by
  unfold needsKey
  split
  · exact h
  · exact s.serves_answered _

theorem serves_withFeeder {serve : FeederId → State → Served} {b : Byte} (h : ∀ k, s.Serves (serve k s)) :
    s.Serves (withFeeder b serve s) := by
  unfold withFeeder
  split
  · exact h _
  · exact s.serves_answered _

/-! ### The settings requests -/

theorem serves_writeSet (number : Byte) (fields : SetFields) : s.Serves (serveWriteSet number fields s) := by
  refine serves_needsKey ?_
  split
  · exact s.serves_answered _
  · split
    · exact s.serves_answered _
    · exact .takesSetWrite ..

theorem serves_readSet (number : Byte) : s.Serves (serveReadSet number s) := by
  unfold serveReadSet
  split <;> exact s.serves_answered _

theorem serves_eraseSet (number : Byte) : s.Serves (serveEraseSet number s) := by
  refine serves_needsKey ?_
  split
  · exact s.serves_answered _
  · split
    · exact s.serves_answered _
    · exact .erasesSet _ _ (by omega)

theorem serves_writeMapEntry (feeder feedState value : Byte) :
    s.Serves (serveWriteMapEntry feeder feedState value s) := by
  refine serves_needsKey (serves_withFeeder fun k => ?_)
  split
  · exact s.serves_answered _
  · split
    · exact s.serves_answered _
    · exact .takesMapWrite ..

theorem serves_setFeedState (feeder feedState : Byte) : s.Serves (serveSetFeedState feeder feedState s) :=
  serves_withFeeder fun _ => .appliesFeedState ..

theorem serves_writeStationRecord (fields : StationFields) : s.Serves (serveWriteStationRecord fields s) := by
  refine serves_needsKey ?_
  split
  · exact s.serves_answered _
  · exact .takesStationWrite ..

/-! ### The station requests -/

theorem serves_setTime (count : Millis) : s.Serves (serveSetTime count s) :=
  .answers ⟨rfl, rfl, .inl rfl, Nat.le_max_right .., s.plant.attemptsWithin_refl s.env⟩

theorem serves_restart : s.Serves (serveRestart s) :=
  serves_needsRemote (.answers (spares_link rfl (.inl rfl) (Nat.le_max_right ..)))

theorem serves_clearEnergy : s.Serves (serveClearEnergy s) :=
  serves_needsKey (.answers ⟨rfl, rfl, .inl rfl, Nat.le_max_right .., s.plant.attemptsWithin_refl s.env⟩)

/-! ### The plant's requests -/

theorem serves_feederClose (feeder : Byte) : s.Serves (serveFeederClose feeder s) := by
  refine serves_needsRemote (serves_withFeeder fun k => ?_)
  split
  · rename_i may
    exact serves_kept fun _ K h => K.manualClose k may h
  · exact s.serves_answered _

theorem serves_feederOpen (feeder : Byte) : s.Serves (serveFeederOpen feeder s) := by
  refine serves_needsRemote (serves_withFeeder fun k => ?_)
  split
  · exact serves_kept fun _ K h => K.manualOpen k h
  · exact s.serves_answered _

theorem serves_resetLockout (feeder : Byte) : s.Serves (serveResetLockout feeder s) := by
  refine serves_needsRemote (serves_withFeeder fun k => ?_)
  split
  · rename_i may
    simp only [Plant.mayReset, Bool.and_eq_true, decide_eq_true_eq] at may
    exact serves_kept fun _ K h => K.resetLockout k may.1.1 h
  · exact s.serves_answered _

theorem serves_clearFeederCounters (feeder : Byte) : s.Serves (serveClearFeederCounters feeder s) :=
  serves_needsKey (serves_withFeeder fun _ => serves_sameFeeders rfl)

/-- R120: a start that is taken finds a station record and a rectifier at rest. -/
theorem startRefusal_none (h : startRefusal s = none) : s.store.stationFields.isSome ∧
    (s.plant.rect.state = .stopped ∨ s.plant.rect.state = .tripped) := by
  unfold startRefusal at h
  split at h
  · cases h
  · split at h
    · cases h
    · rename_i record atRest
      exact ⟨Option.isSome_iff_ne_none.2 (by simpa using record), by tauto⟩

theorem serves_rectifierStart : s.Serves (serveRectifierStart s) := by
  refine serves_needsRemote ?_
  split
  · exact s.serves_answered _
  · rename_i taken
    obtain ⟨record, atRest⟩ := startRefusal_none taken
    exact serves_kept fun _ K h => K.rectStart record atRest h

theorem serves_rectifierStop : s.Serves (serveRectifierStop s) :=
  serves_needsRemote (serves_kept fun _ K h => K.requestStop h)

theorem serves_releaseEarthing : s.Serves (serveReleaseEarthing s) := by
  refine serves_needsRemote ?_
  split
  · exact serves_kept fun _ K h => K.releaseEarthing h
  · exact s.serves_answered _

theorem serves_clearFrameFault : s.Serves (serveClearFrameFault s) := by
  refine serves_needsRemote (serves_needsKey ?_)
  split
  · exact serves_kept fun _ K h => K.clearFrameFault h
  · exact s.serves_answered _

/-! ### The journal and record requests -/

theorem serves_releaseJournal (x : Word16) : s.Serves (serveReleaseJournal x s) := by
  unfold serveReleaseJournal
  split
  · exact s.serves_answered _
  · exact serves_sameFeeders rfl

theorem serves_readRecordPiece (slot piece : Byte) : s.Serves (serveReadRecordPiece slot piece s) := by
  unfold serveReadRecordPiece
  split
  · exact s.serves_answered _
  · split
    · exact s.serves_answered _
    · split
      · exact s.serves_answered _
      · exact s.serves_answered _
      all_goals exact serves_sameFeeders rfl

theorem serves_freeRecord (slot : Byte) : s.Serves (serveFreeRecord slot s) := by
  unfold serveFreeRecord
  split
  · exact s.serves_answered _
  · split
    · exact s.serves_answered _
    · exact s.serves_answered _
    all_goals exact serves_sameFeeders rfl

/-- Each request of the catalogue. -/
theorem serves_serveKind (r : RequestKind) (payload : List Byte) (s : State) : s.Serves (serveKind r payload s) := by
  cases r with
  | identify | echo | readStatus | readMeasurements | readEnergy | readMap | readStationRecord | readItems
  | readRectifier | readRail | fetchJournal | readAlarms | listRecords => exact s.serves_answered _
  | readFeeder => exact serves_withFeeder fun _ => s.serves_answered _
  | readAttention | noticeMask | setVoltageReference | acknowledgeAlarms => exact serves_sameFeeders rfl
  | setTime => exact serves_setTime _
  | restart => exact serves_restart
  | clearEnergy => exact serves_clearEnergy
  | writeSet => exact serves_writeSet ..
  | readSet => exact serves_readSet _
  | eraseSet => exact serves_eraseSet _
  | writeMapEntry => exact serves_writeMapEntry ..
  | writeStationRecord => exact serves_writeStationRecord _
  | setFeedState => exact serves_setFeedState ..
  | feederClose => exact serves_feederClose _
  | feederOpen => exact serves_feederOpen _
  | resetLockout => exact serves_resetLockout _
  | clearFeederCounters => exact serves_clearFeederCounters _
  | rectifierStart => exact serves_rectifierStart
  | rectifierStop => exact serves_rectifierStop
  | releaseEarthing => exact serves_releaseEarthing
  | clearFrameFault => exact serves_clearFrameFault
  | releaseJournal => exact serves_releaseJournal _
  | readRecordPiece => exact serves_readRecordPiece ..
  | freeRecord => exact serves_freeRecord _

theorem serves_serveFrame (f : LinkFrame) (s : State) : s.Serves (serveFrame f s) := by
  unfold serveFrame
  cases RequestKind.ofByte f.kind with
  | none => exact s.serves_answered _
  | some r =>
    show s.Serves ((if r.accepts f.payload.length then serveKind r f.payload else answered _) s)
    split
    · exact s.serves_serveKind ..
    · exact s.serves_answered _

end State

end Sys2Proof.Machine
end

section
/-! PROOFS. The principle of the settings: a property that the changes of `Settled` keep is kept by every command. -/

namespace Sys2Proof.Machine

/-- The changes of the state, as far as the settings go, that every command is made of: those that keep Q. -/
structure Settled (Q : State → Prop) : Prop where
  spares : ∀ {s t : State}, s.Spares t → Q s → Q t
  executes : ∀ {s : State} {pins : Pins} {kind tag : Byte} {r : Served}, s.link.free = true →
    (s.begin pins kind tag).Serves r → Q s → Q (State.finish r)
  completesSet : ∀ {s : State} {n : SetId} {fields readBack : SetFields} {due : Nat},
    s.store.write = some ⟨.set n fields, due⟩ → Q s → Q (s.completeSet n fields readBack)
  completesStation : ∀ {s : State} {fields readBack : StationFields} {due : Nat},
    s.store.write = some ⟨.station fields, due⟩ → Q s → Q (s.completeStation fields readBack)
  completesEntry : ∀ {s : State} {k : FeederId} {f : FeedState} {value readBack : Option SetId} {due : Nat},
    s.store.write = some ⟨.mapEntry k f value, due⟩ → Q s → Q (s.completeEntry k f value readBack)
  visits : ∀ {s : State} (found : Option FoundRecord), Q s →
    Q { s.visit found with store := (s.visit found).store.nextVisit }
  resets : ∀ {s : State} (x : ResetInputs) (cause : ResetCause) (time : TimeBase) (records : RecordStore)
    (unit : JournalUnit) (energy : Energy), Q (s.resetWith x cause time records unit energy)

namespace Settled

variable {Q : State → Prop} (K : Settled Q) {s : State}
include K

/-! ### Frames and transmissions -/

theorem offer {pins : Pins} {f : LinkFrame} {serve : State → Served} (h : ∀ s : State, s.Serves (serve s)) (q : Q s) :
    Q (s.offer pins f serve) := by
  unfold State.offer
  split
  · rename_i atOnce
    exact K.executes (Bool.and_eq_true .. ▸ atOnce).1 (h _) q
  · exact K.spares (s.spares_enqueue f) q

theorem request {head : RequestHead} {kind : RequestKind} {payload : List Byte} {serve : State → Served}
    (h : ∀ s : State, s.Serves (serve s)) (q : Q s) : Q (s.request head kind payload serve) := K.offer h q

theorem startExecution (pins : Pins) (q : Q s) : Q (s.startExecution pins) := by
  rcases s.startExecution_cases pins with same | ⟨f, rest, free, queue, served⟩
  · rwa [same]
  · rw [served]
    refine K.executes (s := { s with link := { s.link with queue := rest } }) free (State.serves_serveFrame f _) ?_
    refine K.spares (State.spares_link rfl (.inl rfl) ?_) q
    simp only [queue, List.length_cons]
    omega

theorem transmitStart (q : Q s) : Q s.transmitStart := by
  rcases s.transmitStart_cases with same | ⟨f, -, -, -, begun⟩ | ⟨n, -, -, -, -, begun⟩
  · rwa [same]
  · rw [begun]
    exact K.startExecution _ (K.spares (s.spares_beginReply f) q)
  · rw [begun]
    exact K.spares (s.spares_beginNotice n) q

theorem frameTransmitEnd (q : Q s) : ∃ t, Machine.exec .frameTransmitEnd s = .next t ∧ Q t := by
  by_cases idle : s.link.transmitter = .idle
  · exact ⟨s, by simp [Machine.exec, execFrameTransmitEnd, idle], q⟩
  · refine ⟨_, exec_frameTransmitEnd_sending idle, K.transmitStart (K.spares ?_ q)⟩
    exact State.spares_link rfl (.inl rfl) (Nat.le_max_right ..)

theorem receiveByte (pins : Pins) (b : Byte) (q : Q s) : Q (s.receiveByte pins b) := by
  have assembles (a : Assembly) (c : LinkCounters) :
      Q { s with link := { s.link with assembly := a, counters := c } } := K.spares (s.spares_reception a c) q
  unfold State.receiveByte
  split
  · split
    · exact assembles _ s.link.counters
    · exact q
  · split <;> exact assembles ..
  · split <;> exact assembles ..
  · exact assembles ..
  · unfold State.checkFrame
    dsimp only
    split
    · exact K.offer (State.serves_serveFrame _) (assembles .hunt s.link.counters)
    · exact assembles ..
  · exact q

/-! ### Expiries and completions -/

/-- An event of the plant that keeps every property that its blocks' small changes keep. -/
theorem event {f : Env → Plant → Plant}
    (h : ∀ (e : Env) (P : Option FeederId → Plant → Prop), Kept e P → ∀ p, P none p → P none (f e p)) (q : Q s) :
    Q (s.onPlant f) := K.spares (State.spares_kept fun P kept => h s.env P kept s.plant) q

theorem expires {expiry : Option Nat} {act : State → State} (h : ∀ s : State, s.Spares (act s)) (q : Q s) :
    Q (s.atExpiry expiry act) := K.spares (State.spares_atExpiry fun _ => h _) q

/-- The expiry of a timer of the plant. -/
theorem expiresEvent {expiry : Option Nat} {f : Env → Plant → Plant}
    (h : ∀ (e : Env) (P : Option FeederId → Plant → Prop), Kept e P → ∀ p, P none p → P none (f e p)) (q : Q s) :
    Q (s.atExpiry expiry (fun s => s.onPlant f)) :=
  K.expires (fun s => State.spares_kept fun P kept => h s.env P kept s.plant) q

/-- An expiry whose handling is one of the changes of the settings: the time base may have moved on before it. -/
theorem expiresAs {expiry : Option Nat} {act : State → State}
    (h : ∀ time : TimeBase, Q { s with time := time } → Q (act { s with time := time })) (q : Q s) :
    Q (s.atExpiry expiry act) := by
  rcases s.atExpiry_cases expiry act with same | now | next
  · rwa [same]
  · rw [now]; exact h s.time q
  · rw [next]
    exact h s.time.begin (K.spares (s.spares_outside rfl rfl rfl) q)

theorem setWriteCompletion (readBack : SetFields) (q : Q s) :
    ∃ t, Machine.exec (.setWriteCompletion readBack) s = .next t ∧ Q t := by
  refine ⟨_, rfl, ?_⟩
  split
  · rename_i write
    exact K.expiresAs (fun _ => K.completesSet write) q
  all_goals exact q

theorem stationRecordWriteCompletion (readBack : StationFields) (q : Q s) :
    ∃ t, Machine.exec (.stationRecordWriteCompletion readBack) s = .next t ∧ Q t := by
  refine ⟨_, rfl, ?_⟩
  split
  · rename_i write
    exact K.expiresAs (fun _ => K.completesStation write) q
  all_goals exact q

theorem mapEntryWriteCompletion (readBack : Option SetId) (q : Q s) :
    ∃ t, Machine.exec (.mapEntryWriteCompletion readBack) s = .next t ∧ Q t := by
  refine ⟨_, rfl, ?_⟩
  split
  · rename_i write
    exact K.expiresAs (fun _ => K.completesEntry write) q
  all_goals exact q

/-! ### Events of the other blocks -/

theorem sampleInstant (x : SampleInputs) (q : Q s) : Q (s.sampleInstant x) := by
  have sampled : Q (s.sampled x) :=
    K.event (fun _ _ kept _ => kept.sampleEvents x) (K.spares (s.spares_outside rfl rfl rfl) q)
  rw [State.sampleInstant_eq]
  split
  · have closed : Q { s.sampled x with front := (s.sampled x).front.closeMillisecond } :=
      K.spares ((s.sampled x).spares_outside rfl rfl rfl) sampled
    refine K.spares ?_ (K.event (fun _ _ kept _ => kept.millisecondEvents x) closed)
    exact State.spares_outside _ rfl rfl rfl
  · exact sampled

theorem crystalFailure (q : Q s) : ∃ t, Machine.exec .crystalFailure s = .next t ∧ Q t := by
  cases source : s.time.source with
  | crystal =>
    refine ⟨_, exec_crystalFailure source, K.event (fun _ _ kept _ h => ?_) (K.spares (s.spares_outside rfl rfl rfl) q)⟩
    exact kept.post _ _ _ (kept.latch _ h)
  | fallback => exact ⟨s, by simp [Machine.exec, execCrystalFailure, source], q⟩

theorem crystalReturn (q : Q s) : ∃ t, Machine.exec .crystalReturn s = .next t ∧ Q t := by
  refine ⟨_, rfl, ?_⟩
  split
  · exact q
  · split
    · exact K.event (fun _ _ kept _ => kept.post _ _ _) (K.spares (s.spares_outside rfl rfl rfl) q)
    · exact q

/-- A change of one block of the plant in which no feeder's attempts are. -/
theorem block {p : Plant} (h : p.feeders = s.plant.feeders) (q : Q s) : Q { s with plant := p } :=
  K.spares (State.spares_sameFeeders h) q

theorem pulseInstant (gate : GateId) (q : Q s) : ∃ t, Machine.exec (.pulseInstant gate) s = .next t ∧ Q t := by
  refine ⟨_, rfl, ?_⟩
  split
  · exact q
  · split
    · exact K.block rfl q
    · exact q

theorem burstEnd (gate : GateId) (q : Q s) : ∃ t, Machine.exec (.burstEnd gate) s = .next t ∧ Q t := by
  refine ⟨_, rfl, ?_⟩
  split
  · exact q
  · split
    · exact K.block rfl q
    · exact q

theorem restartReset (x : ResetInputs) (q : Q s) : ∃ t, Machine.exec (.restartReset x) s = .next t ∧ Q t := by
  refine ⟨_, rfl, ?_⟩
  split
  · exact K.resets ..
  · exact q

/-- Every command keeps what the changes of `Settled` keep. -/
theorem exec (c : Instr) (q : Q s) : ∃ t, Machine.exec c s = .next t ∧ Q t := by
  cases c with
  | powerOnReset | pinReset => exact ⟨_, rfl, K.resets ..⟩
  | restartReset => exact K.restartReset _ q
  | crystalFailure => exact K.crystalFailure q
  | crystalReturn => exact K.crystalReturn q
  | sampleInstant => exact ⟨_, rfl, K.sampleInstant _ q⟩
  | noCrossingExpiry => exact ⟨_, rfl, K.expiresEvent (fun _ _ kept _ => kept.noCrossing) q⟩
  | coilPulseEnd => exact ⟨_, rfl, K.expiresEvent (fun _ _ kept _ => kept.pulseEnds _) q⟩
  | limitTimerExpiry => exact ⟨_, rfl, K.expiresEvent (fun _ _ kept _ => kept.limitEnds _) q⟩
  | deadTimeExpiry => exact ⟨_, rfl, K.expiresEvent (fun _ _ kept _ => kept.deadTimeExpires _) q⟩
  | settleExpiry => exact ⟨_, rfl, K.expiresEvent (fun _ _ kept _ => kept.settleExpires_stopped _) q⟩
  | serviceTimerExpiry => exact ⟨_, rfl, K.expiresEvent (fun _ _ kept _ => kept.serviceExpires _) q⟩
  | pulseInstant => exact K.pulseInstant _ q
  | burstEnd => exact K.burstEnd _ q
  | railHoldExpiry => exact ⟨_, rfl, K.expiresEvent (fun _ _ kept _ h => kept.holdExpires (kept.onRail h id id)) q⟩
  | energyPulseOnExpiry | energyPulseGapExpiry =>
    exact ⟨_, rfl, K.expires (fun s => s.spares_outside rfl rfl rfl) q⟩
  | recordHoldExpiry | noticeHoldoffExpiry =>
    exact ⟨_, rfl, K.expires (fun _ => State.spares_sameFeeders rfl) q⟩
  | scanVisit => exact ⟨_, rfl, K.expiresAs (fun _ => K.visits _) q⟩
  | setWriteCompletion => exact K.setWriteCompletion _ q
  | stationRecordWriteCompletion => exact K.stationRecordWriteCompletion _ q
  | mapEntryWriteCompletion => exact K.mapEntryWriteCompletion _ q
  | receivedCharacter char pins =>
    cases char with
    | byte b => exact ⟨_, rfl, K.receiveByte pins b q⟩
    | framingError => exact ⟨_, rfl, K.spares s.spares_framingError q⟩
  | gapTimerExpiry => exact ⟨_, rfl, K.spares s.spares_gapExpires q⟩
  | linkBreak => exact ⟨_, rfl, K.spares s.spares_linkBreak q⟩
  | linkBreakEnd => exact ⟨_, rfl, K.spares s.spares_breakEnds q⟩
  | requestExecutionStart pins =>
    exact ⟨_, rfl, K.startExecution pins (K.spares (s.spares_outside rfl rfl rfl) q)⟩
  | unknownKind => exact ⟨_, rfl, K.offer (State.serves_serveFrame _) q⟩
  | frameTransmitStart => exact ⟨_, rfl, K.transmitStart q⟩
  | frameTransmitEnd => exact K.frameTransmitEnd q
  | identify | echo | readStatus | readMeasurements | readEnergy | readMap | readStationRecord | readItems
  | readRectifier | readRail | fetchJournal | readAlarms | listRecords =>
    exact ⟨_, rfl, K.request (fun s => s.serves_answered _) q⟩
  | readFeeder => exact ⟨_, rfl, K.request (fun s => State.serves_withFeeder fun _ => s.serves_answered _) q⟩
  | readAttention | noticeMask | setVoltageReference | acknowledgeAlarms =>
    exact ⟨_, rfl, K.request (fun _ => State.serves_sameFeeders rfl) q⟩
  | setTime => exact ⟨_, rfl, K.request (fun _ => State.serves_setTime _) q⟩
  | restart => exact ⟨_, rfl, K.request (fun _ => State.serves_restart) q⟩
  | clearEnergy => exact ⟨_, rfl, K.request (fun _ => State.serves_clearEnergy) q⟩
  | writeSet => exact ⟨_, rfl, K.request (fun _ => State.serves_writeSet ..) q⟩
  | readSet => exact ⟨_, rfl, K.request (fun _ => State.serves_readSet _) q⟩
  | eraseSet => exact ⟨_, rfl, K.request (fun _ => State.serves_eraseSet _) q⟩
  | writeMapEntry => exact ⟨_, rfl, K.request (fun _ => State.serves_writeMapEntry ..) q⟩
  | writeStationRecord => exact ⟨_, rfl, K.request (fun _ => State.serves_writeStationRecord _) q⟩
  | setFeedState => exact ⟨_, rfl, K.request (fun _ => State.serves_setFeedState ..) q⟩
  | feederClose => exact ⟨_, rfl, K.request (fun _ => State.serves_feederClose _) q⟩
  | feederOpen => exact ⟨_, rfl, K.request (fun _ => State.serves_feederOpen _) q⟩
  | resetLockout => exact ⟨_, rfl, K.request (fun _ => State.serves_resetLockout _) q⟩
  | clearFeederCounters => exact ⟨_, rfl, K.request (fun _ => State.serves_clearFeederCounters _) q⟩
  | rectifierStart => exact ⟨_, rfl, K.request (fun _ => State.serves_rectifierStart) q⟩
  | rectifierStop => exact ⟨_, rfl, K.request (fun _ => State.serves_rectifierStop) q⟩
  | releaseEarthing => exact ⟨_, rfl, K.request (fun _ => State.serves_releaseEarthing) q⟩
  | clearFrameFault => exact ⟨_, rfl, K.request (fun _ => State.serves_clearFrameFault) q⟩
  | releaseJournal => exact ⟨_, rfl, K.request (fun _ => State.serves_releaseJournal _) q⟩
  | readRecordPiece => exact ⟨_, rfl, K.request (fun _ => State.serves_readRecordPiece ..) q⟩
  | freeRecord => exact ⟨_, rfl, K.request (fun _ => State.serves_freeRecord _) q⟩

/-- Every step keeps what the changes of `Settled` keep. -/
theorem step {t : State} (q : Q s) (h : Machine.step s = .next t) : Q t := by
  unfold Machine.step at h
  split at h
  · cases h
    exact q
  · rename_i c rest _
    obtain ⟨u, executed, kept⟩ := K.exec c (K.spares (t := { s with pending := rest }) (s.spares_outside rfl rfl rfl) q)
    rw [executed] at h
    cases h
    exact kept

end Settled

end Sys2Proof.Machine
end

section
/-! PROOFS. The resolution of bindings, for one feeder and for those that name a set, and what the events of the settings
store are made of. -/

namespace Sys2Proof.Machine

/-! ### Resolutions at the store -/

/-- R65: the binding of a feeder as a resolution leaves it, with the in-use counts. -/
def Store.rebind (st : Store) (k : FeederId) : Store :=
  if st.binding.get k = st.resolved k then st else st.replaceBinding k (st.resolved k)

/-- R65: feeders resolved one after another. -/
def Store.rebindEach (ks : List FeederId) (st : Store) : Store := ks.foldl Store.rebind st

/-- R64, R67: the bindings are resolved and the in-use counts are theirs. -/
def Store.Bound (st : Store) : Prop :=
  (∀ k, st.binding.get k = st.resolved k) ∧ ∀ n : SetId, st.inUse[n] = st.useCount n

theorem State.bindingLaw_iff (s : State) : s.bindingLaw ↔ s.store.Bound := Iff.rfl

namespace Store

variable {st : Store} {ks : List FeederId} {j k : FeederId} {n : SetId}

theorem rebind_frame (st : Store) (k : FeederId) : ∃ binding inUse, st.rebind k =
    { st with binding := binding, inUse := inUse } := by
  unfold rebind
  split <;> exact ⟨_, _, rfl⟩

theorem rebindEach_frame (ks : List FeederId) (st : Store) : ∃ binding inUse, st.rebindEach ks =
    { st with binding := binding, inUse := inUse } := by
  induction ks generalizing st with
  | nil => exact ⟨_, _, rfl⟩
  | cons k ks ih =>
    obtain ⟨b, u, first⟩ := st.rebind_frame k
    obtain ⟨b', u', rest⟩ := ih (st.rebind k)
    exact ⟨b', u', rest.trans (by rw [first])⟩

@[simp] theorem rebindEach_resolved (ks : List FeederId) (st : Store) (j : FeederId) :
    (st.rebindEach ks).resolved j = st.resolved j := by
  obtain ⟨b, u, frame⟩ := st.rebindEach_frame ks
  rw [frame]
  rfl

@[simp] theorem rebindEach_sets (ks : List FeederId) (st : Store) : (st.rebindEach ks).sets = st.sets := by
  obtain ⟨b, u, frame⟩ := st.rebindEach_frame ks
  rw [frame]

@[simp] theorem rebindEach_station (ks : List FeederId) (st : Store) : (st.rebindEach ks).station = st.station := by
  obtain ⟨b, u, frame⟩ := st.rebindEach_frame ks
  rw [frame]

@[simp] theorem rebindEach_map (ks : List FeederId) (st : Store) : (st.rebindEach ks).map = st.map := by
  obtain ⟨b, u, frame⟩ := st.rebindEach_frame ks
  rw [frame]

@[simp] theorem rebindEach_feed (ks : List FeederId) (st : Store) : (st.rebindEach ks).feed = st.feed := by
  obtain ⟨b, u, frame⟩ := st.rebindEach_frame ks
  rw [frame]

@[simp] theorem rebindEach_write (ks : List FeederId) (st : Store) : (st.rebindEach ks).write = st.write := by
  obtain ⟨b, u, frame⟩ := st.rebindEach_frame ks
  rw [frame]

@[simp] theorem rebindEach_scan (ks : List FeederId) (st : Store) : (st.rebindEach ks).scan = st.scan := by
  obtain ⟨b, u, frame⟩ := st.rebindEach_frame ks
  rw [frame]

@[simp] theorem rebindEach_scanDue (ks : List FeederId) (st : Store) : (st.rebindEach ks).scanDue = st.scanDue := by
  obtain ⟨b, u, frame⟩ := st.rebindEach_frame ks
  rw [frame]

theorem rebind_binding (st : Store) (k j : FeederId) :
    (st.rebind k).binding.get j = if j = k then st.resolved k else st.binding.get j := by
  unfold rebind
  split
  · rename_i same
    split
    · rename_i h
      rw [h, same]
    · rfl
  · exact Six.get_set ..

/-- The feeders named are bound as their entries give, and the others stay as they are. -/
theorem rebindEach_binding (ks : List FeederId) (st : Store) (j : FeederId) :
    (st.rebindEach ks).binding.get j = if j ∈ ks then st.resolved j else st.binding.get j := by
  induction ks generalizing st with
  | nil => simp [rebindEach]
  | cons k ks ih =>
    have resolved : (st.rebind k).resolved j = st.resolved j := st.rebindEach_resolved [k] j
    have rest := ih (st.rebind k)
    rw [resolved, rebind_binding] at rest
    refine rest.trans ?_
    by_cases h : j = k
    · simp [h]
    · simp [h]

theorem rebindEach_inUse (h : ∀ n : SetId, st.inUse[n] = st.useCount n) (n : SetId) :
    (st.rebindEach ks).inUse[n] = (st.rebindEach ks).useCount n := by
  induction ks generalizing st with
  | nil => exact h n
  | cons k ks ih =>
    refine ih (st := st.rebind k) fun m => ?_
    unfold rebind
    split
    · exact h m
    · exact inUse_replaceBinding h k _ m

/-- R64, R65, R67: resolving the feeders whose binding is not the one that is given now settles the bindings. -/
theorem rebindEach_bound (h : ∀ n : SetId, st.inUse[n] = st.useCount n)
    (others : ∀ j, j ∉ ks → st.binding.get j = st.resolved j) : (st.rebindEach ks).Bound := by
  refine ⟨fun j => ?_, rebindEach_inUse h⟩
  rw [rebindEach_binding, rebindEach_resolved]
  split
  · rfl
  · exact others j ‹_›

/-! ### What bindings and the values they present depend on -/

theorem mem_feedersNaming : j ∈ st.feedersNaming n ↔ st.entryOf j = some n := by
  simp [feedersNaming, FeederId.mem_everyFeeder]

/-- R64: a binding depends on the feed state, the map entry and what the set named there presents. -/
theorem resolved_congr {a b : Store} (feed : a.feed.get j = b.feed.get j) (entry : a.entryOf j = b.entryOf j)
    (presents : ∀ n : SetId, b.entryOf j = some n → (a.sets[n]).presents = (b.sets[n]).presents) :
    a.resolved j = b.resolved j := by
  unfold resolved bindingFor
  rw [feed, entry]
  cases h : b.entryOf j with
  | none => rfl
  | some n => simp only [presents n h]

/-- R64, R67: a binding names a set only while that set presents VALID contents. -/
theorem resolved_valid (h : (st.resolved k).set = some n) : (st.sets[n]).presents = .valid := by
  unfold resolved bindingFor at h
  split at h
  · cases h
  · split at h
    · cases h
    · cases h
    · rename_i m _ valid
      cases h
      exact valid

/-- R64: what a binding presents depends on the set it names and that set's contents. -/
theorem values_congr {a b : Store} (binding : a.binding.get k = b.binding.get k)
    (contents : ∀ n : SetId, (b.binding.get k).set = some n → (a.sets[n]).contents = (b.sets[n]).contents) :
    a.values k = b.values k := by
  unfold values
  rw [binding]
  cases h : (b.binding.get k).set with
  | none => rfl
  | some n => simp only [contents n h]

theorem setRecord_sets (st : Store) (n m : SetId) (r : StoredRecord SetFields) :
    (st.setRecord n r).sets[m] = if m = n then r else st.sets[m] := by
  simp only [setRecord, Fin.getElem_fin, Vector.getElem_set, Fin.ext_iff, eq_comm]

theorem setRecord_sets_self (st : Store) (n : SetId) (r : StoredRecord SetFields) : (st.setRecord n r).sets[n] = r := by
  rw [setRecord_sets, if_pos rfl]

theorem setRecord_sets_other (st : Store) {m : SetId} (r : StoredRecord SetFields) (h : m ≠ n) :
    (st.setRecord n r).sets[m] = st.sets[m] := by
  rw [setRecord_sets, if_neg h]

end Store

/-! ### Resolutions of the part -/

/-- What resolutions and the entries, alarms and cuts that go with them do: these feeders are resolved, and beside the
store the sequencers and the journal and alarm unit alone change. A feeder keeps its binding and its sequencer, or ends
within the attempts it is now given (R69). -/
structure State.Resolves (ks : List FeederId) (s t : State) : Prop where
  frame : ∃ feeders unit, t =
    { s with store := s.store.rebindEach ks, plant := { s.plant with feeders := feeders, unit := unit } }
  feeder : ∀ j, (t.store.binding.get j = s.store.binding.get j ∧ t.plant.feeder j = s.plant.feeder j) ∨
    (t.plant.feeder j).attempts ≤ (t.store.values j).attempts

namespace State

variable {ks ls : List FeederId} {s t r : State} {j k : FeederId} {n : SetId}

theorem Resolves.store (h : Resolves ks s t) : t.store = s.store.rebindEach ks := by
  obtain ⟨_, _, rfl⟩ := h.frame
  rfl

/-- R69: a feeder that is not touched stays within its attempts if it was. -/
theorem Resolves.within (h : Resolves ks s t) (before : t.store.binding.get j = s.store.binding.get j →
    (s.plant.feeder j).attempts ≤ (s.store.values j).attempts) :
    (t.plant.feeder j).attempts ≤ (t.store.values j).attempts := by
  rcases h.feeder j with ⟨binding, feeder⟩ | bounded
  · have values : t.store.values j = s.store.values j :=
      Store.values_congr binding fun _ _ => by rw [h.store, Store.rebindEach_sets]
    rw [feeder, values]
    exact before binding
  · exact bounded

theorem Resolves.trans (a : Resolves ks s t) (b : Resolves ls t r) : Resolves (ks ++ ls) s r where
  frame := by
    obtain ⟨_, _, rfl⟩ := a.frame
    obtain ⟨f, u, rfl⟩ := b.frame
    refine ⟨f, u, ?_⟩
    simp only [Store.rebindEach, List.foldl_append]
  feeder j := by
    rcases a.feeder j with ⟨binding, feeder⟩ | bounded
    · exact (b.feeder j).imp_left (And.imp (·.trans binding) (·.trans feeder))
    · exact .inr (b.within fun _ => bounded)

/-- An event of the journal and alarm unit. -/
theorem resolves_unit (s : State) (f : Env → Plant → Plant) (h : ∃ unit, f s.env s.plant = { s.plant with unit := unit }) :
    Resolves [] s (s.onPlant f) := by
  obtain ⟨unit, event⟩ := h
  refine ⟨⟨s.plant.feeders, unit, ?_⟩, fun j => .inl ⟨rfl, ?_⟩⟩
  · rw [onPlant, event]
    rfl
  · rw [onPlant_plant, event]
    rfl

theorem resolves_post (s : State) (source : Source) (kind : Kind) (details : List Int) :
    Resolves [] s (s.onPlant (fun e p => p.post e source kind details)) := s.resolves_unit _ ⟨_, rfl⟩

theorem resolves_settingsCondition (s : State) (before : Bool) : Resolves [] s (s.settingsCondition before) :=
  s.resolves_unit _ ⟨_, rfl⟩

theorem resolve_unchanged (h : s.store.binding.get k = s.store.resolved k) : s.resolve k = s := if_pos h

/-- R65: the store after a resolution that changes the binding. -/
theorem resolve_changed (h : s.store.binding.get k ≠ s.store.resolved k) :
    (s.resolve k).store = s.store.replaceBinding k (s.store.resolved k) := by
  simp only [resolve, if_neg h, onPlant_store]

/-- R69: the sequencers after a resolution that changes the binding. -/
theorem resolve_feeder (h : s.store.binding.get k ≠ s.store.resolved k) (j : FeederId) :
    (s.resolve k).plant.feeder j = if j = k then
      { s.plant.feeder k with
        attempts := min (s.plant.feeder k).attempts ((s.resolve k).store.values k).attempts }
      else s.plant.feeder j := by
  rw [resolve_changed h]
  simp only [resolve, if_neg h, onPlant_plant]
  exact Plant.feeder_onFeeder ..

theorem resolves_resolve (k : FeederId) (s : State) : Resolves [k] s (s.resolve k) := by
  by_cases same : s.store.binding.get k = s.store.resolved k
  · have stays : s.store.rebindEach [k] = s.store := if_pos same
    rw [resolve_unchanged same]
    exact ⟨⟨_, _, by rw [stays]⟩, fun j => .inl ⟨rfl, rfl⟩⟩
  · refine ⟨?_, fun j => ?_⟩
    · have changes : s.store.rebindEach [k] = s.store.replaceBinding k (s.store.resolved k) := if_neg same
      rw [changes]
      unfold resolve
      dsimp only
      rw [if_neg same]
      exact ⟨_, _, rfl⟩
    · rw [resolve_feeder same]
      by_cases h : j = k
      · subst h
        rw [if_pos rfl]
        exact .inr (Nat.min_le_right ..)
      · rw [if_neg h, resolve_changed same]
        exact .inl ⟨by simp [Store.replaceBinding, h], rfl⟩

theorem resolves_foldl (ks : List FeederId) (s : State) : Resolves ks s (ks.foldl (fun s k => s.resolve k) s) := by
  induction ks generalizing s with
  | nil => exact ⟨⟨_, _, rfl⟩, fun j => .inl ⟨rfl, rfl⟩⟩
  | cons k ks ih => exact (s.resolves_resolve k).trans (ih (s.resolve k))

theorem resolves_resolveNaming (n : SetId) (s : State) : Resolves (s.store.feedersNaming n) s (s.resolveNaming n) :=
  resolves_foldl _ s

/-! ### The cut of the attempts used (R69) -/

theorem cutEach_feeder (e : Env) (n : SetId) (ks : List FeederId) (p : Plant) (nodup : ks.Nodup) (j : FeederId) :
    (ks.foldl (fun p k => if (e.store.binding.get k).set = some n then p.cutAttempts e k else p) p).feeder j =
      if j ∈ ks ∧ (e.store.binding.get j).set = some n then
        { p.feeder j with attempts := min (p.feeder j).attempts (e.store.values j).attempts }
      else p.feeder j := by
  induction ks generalizing p with
  | nil => simp
  | cons k ks ih =>
    obtain ⟨fresh, nodup⟩ := List.nodup_cons.1 nodup
    rw [List.foldl_cons, ih _ nodup]
    by_cases h : j = k
    · subst h
      simp only [fresh, false_and, if_false, List.mem_cons, true_or, true_and]
      split
      · rw [Plant.cutAttempts, Plant.feeder_onFeeder, if_pos rfl]
      · rfl
    · have stays : (if (e.store.binding.get k).set = some n then p.cutAttempts e k else p).feeder j = p.feeder j := by
        split
        · rw [Plant.cutAttempts, Plant.feeder_onFeeder, if_neg h]
        · rfl
      simp only [stays, List.mem_cons, h, false_or]

/-- R69: a feeder whose binding names the set keeps no more attempts than it now presents. -/
theorem cutNaming_feeder (s : State) (n : SetId) (j : FeederId) : (s.cutNaming n).plant.feeder j =
    if (s.store.binding.get j).set = some n then
      { s.plant.feeder j with attempts := min (s.plant.feeder j).attempts (s.store.values j).attempts }
    else s.plant.feeder j := by
  rw [cutNaming, onPlant_plant, cutEach_feeder _ _ _ _ (by decide)]
  simp [FeederId.mem_everyFeeder]

theorem cutNaming_frame (s : State) (n : SetId) : ∃ feeders, s.cutNaming n =
    { s with plant := { s.plant with feeders := feeders } } := by
  have each : ∀ (ks : List FeederId) (p : Plant), ∃ feeders,
      ks.foldl (fun p k => if (s.env.store.binding.get k).set = some n then p.cutAttempts s.env k else p) p =
        { p with feeders := feeders } := by
    intro ks
    induction ks with
    | nil => exact fun p => ⟨_, rfl⟩
    | cons k ks ih =>
      intro p
      obtain ⟨f, rest⟩ := ih (if (s.env.store.binding.get k).set = some n then p.cutAttempts s.env k else p)
      refine ⟨f, rest.trans ?_⟩
      split <;> rfl
  obtain ⟨f, frame⟩ := each FeederId.all s.plant
  exact ⟨f, by rw [cutNaming, onPlant, frame]⟩

theorem resolves_cutNaming (s : State) (n : SetId) : Resolves [] s (s.cutNaming n) := by
  obtain ⟨f, frame⟩ := s.cutNaming_frame n
  refine ⟨⟨f, s.plant.unit, frame⟩, fun j => ?_⟩
  rw [cutNaming_feeder]
  split
  · exact .inr (Nat.min_le_right ..)
  · exact .inl ⟨rfl, rfl⟩

end State

end Sys2Proof.Machine
end

section
/-! PROOFS. The events of the settings store as resolutions: the completions of writes, the scan visits, an erase and a
feed state. -/

namespace Sys2Proof.Machine

namespace State

variable {s : State} {n : SetId} {k : FeederId}

/-- R53, R54: the write has ended and the set holds what it left. -/
def setWritten (n : SetId) (r : StoredRecord SetFields) (s : State) : State :=
  { s with store := { s.store.setRecord n r with write := none } }

/-- R59: the write has ended and the station record holds what it left. -/
def stationWritten (r : StoredRecord StationFields) (s : State) : State :=
  { s with store := { s.store with station := r, write := none } }

/-- R62: the write has ended and the map entry holds what it left. -/
def entryWritten (k : FeederId) (f : FeedState) (x : Option SetId) (s : State) : State :=
  { s with store := { s.store.setEntry k f x with write := none } }

/-- R56, R57: a set's record replaced outside a write. -/
def setReplaced (n : SetId) (r : StoredRecord SetFields) (s : State) : State :=
  { s with store := s.store.setRecord n r }

/-! ### Write Set (R53, R54) -/

/-- R53: the read-back matches. -/
theorem completeSet_passed (n : SetId) {fields : SetFields} (s : State) (check : checkWordRule fields.toList = true) :
    ∃ t, s.completeSet n fields fields = t.reply (okReply (leBytes 1 n.val)) ∧
      Resolves (s.store.feedersNaming n) (s.setWritten n ⟨.valid, some fields⟩) t ∧
      ∀ j, (t.store.binding.get j).set = some n → (t.plant.feeder j).attempts ≤ (t.store.values j).attempts := by
  let written := s.setWritten n ⟨.valid, some fields⟩
  let posted := written.onPlant (fun e p => p.post e .store .setWritten [n.val, fields.check.toNat])
  let resolved := posted.resolveNaming n
  refine ⟨(resolved.cutNaming n).settingsCondition s.store.settingsInvalid, ?_, ?_, fun j names => ?_⟩
  · unfold completeSet
    simp only [decide_true, Bool.true_and, check, if_true]
    rfl
  · have cut := (resolves_resolveNaming n posted).trans (resolves_cutNaming resolved n)
    have all := (written.resolves_post ..).trans (cut.trans (resolves_settingsCondition _ s.store.settingsInvalid))
    rw [List.append_nil, List.append_nil] at all
    exact all
  · have feeder : ((resolved.cutNaming n).settingsCondition s.store.settingsInvalid).plant.feeder j =
        (resolved.cutNaming n).plant.feeder j := rfl
    have named : (resolved.store.binding.get j).set = some n := names
    rw [feeder, cutNaming_feeder, if_pos named]
    exact Nat.min_le_right ..

/-- R54: the read-back fails. -/
theorem completeSet_failed (n : SetId) {fields readBack : SetFields} (s : State)
    (fails : ¬ (readBack = fields ∧ checkWordRule readBack.toList = true)) :
    ∃ t, s.completeSet n fields readBack = t.reply (Status.storeFail.code :: leBytes 1 n.val) ∧
      Resolves (s.store.feedersNaming n) (s.setWritten n ⟨.invalid, some readBack⟩) t := by
  let written := s.setWritten n ⟨.invalid, some readBack⟩
  let posted := written.postRecordInvalid n.val 3 0
  refine ⟨(posted.resolveNaming n).settingsCondition s.store.settingsInvalid, ?_, ?_⟩
  · have failed : (decide (readBack = fields) && checkWordRule readBack.toList) = false := by
      rw [← Bool.not_eq_true, Bool.and_eq_true, decide_eq_true_eq]
      exact fails
    unfold completeSet
    simp only [failed]
    rfl
  · have resolved := (resolves_resolveNaming n posted).trans (resolves_settingsCondition _ s.store.settingsInvalid)
    rw [List.append_nil] at resolved
    exact (written.resolves_post ..).trans resolved

/-! ### Write Map Entry (R62) -/

theorem completeEntry_passed (k : FeederId) (f : FeedState) (value : Option SetId) (s : State) :
    ∃ t, s.completeEntry k f value value =
        t.reply (okReply (leBytes 1 (entryNumber k f) ++ leBytes 1 (mapValueCode value))) ∧
      Resolves [k] (s.entryWritten k f value) t :=
  ⟨_, if_pos rfl, (resolves_post ..).trans (resolves_resolve k _)⟩

theorem completeEntry_failed (k : FeederId) (f : FeedState) {value readBack : Option SetId} (s : State)
    (fails : readBack ≠ value) : ∃ t, s.completeEntry k f value readBack = t.reply (refusal .storeFail) ∧
      Resolves [k] (s.entryWritten k f none) t :=
  ⟨_, if_neg fails, (resolves_post ..).trans (resolves_resolve k _)⟩

/-! ### Erase Set, Set Feed State (R56, R63) -/

theorem resolves_eraseSet (n : SetId) (s : State) :
    Resolves (s.store.feedersNaming n) (s.setReplaced n ⟨.empty, none⟩) (s.eraseSet n) := by
  let condition : State := ((s.setReplaced n ⟨.empty, none⟩).onPlant (fun e p => p.post e .store .setErased
    [n.val, (s.store.sets[n]).state.code])).settingsCondition s.store.settingsInvalid
  have posted := (resolves_post (s.setReplaced n ⟨.empty, none⟩) .store .setErased
    [n.val, (s.store.sets[n]).state.code]).trans (resolves_settingsCondition _ s.store.settingsInvalid)
  exact posted.trans (resolves_resolveNaming n condition)

/-- R63: a feed state that is the present one. -/
theorem applyFeedState_same {f : FeedState} (h : s.store.feed.get k = f) : s.applyFeedState k f = s := if_pos h

/-- R63: a feed state that is a change. -/
theorem resolves_applyFeedState {f : FeedState} (h : s.store.feed.get k ≠ f) :
    Resolves [k] { s with store := { s.store with feed := s.store.feed.set k f } } (s.applyFeedState k f) := by
  unfold applyFeedState
  dsimp only
  rw [if_neg h]
  exact (resolves_post ..).trans (resolves_resolve k _)

/-! ### The station record (R59, R61) -/

/-- R61: a change of what the station record presents is an event of the blocks that hear of it. -/
theorem spares_presentStation (s : State) : s.Spares s.presentStation := by
  refine spares_kept fun _ K h => ?_
  have supplied := K.supplySettings h
  dsimp only
  split
  · exact K.rectNewSettings _ supplied
  · exact K.rectSettingsLost supplied

theorem spares_post (s : State) (source : Source) (kind : Kind) (details : List Int) :
    s.Spares (s.onPlant (fun e p => p.post e source kind details)) := spares_sameFeeders rfl

theorem spares_settingsCondition (before : Bool) (s : State) : s.Spares (s.settingsCondition before) :=
  spares_sameFeeders rfl

/-- The station record as a completion leaves it. -/
theorem completeStation_spares (fields readBack : StationFields) (s : State) : ∃ t payload state,
    s.completeStation fields readBack = t.reply payload ∧ (∀ b, state ≠ .programming b) ∧
      Spares (s.stationWritten ⟨state, some readBack⟩) t := by
  have presented (state : RecordState) (source : Source) (kind : Kind) (details : List Int) :
      Spares (s.stationWritten ⟨state, some readBack⟩)
        ((((s.stationWritten ⟨state, some readBack⟩).onPlant (fun e p => p.post e source kind details)).settingsCondition
          s.store.settingsInvalid).presentStation) :=
    ((spares_post ..).trans (spares_settingsCondition ..)).trans (spares_presentStation _)
  unfold completeStation
  by_cases passes : (decide (readBack = fields) && checkWordRule readBack.toList) = true
  · rw [passes]
    exact ⟨_, _, .valid, rfl, nofun, presented ..⟩
  · rw [Bool.eq_false_of_not_eq_true passes]
    exact ⟨_, _, .invalid, rfl, nofun, presented ..⟩

/-! ### The background scan (R57) -/

/-- The visit to a set leaves the part as it is, or makes a VALID record INVALID. -/
theorem visitSet_cases (n : SetId) (found : Option FoundRecord) (s : State) :
    (s.visitSet n found = s ∧
      ∀ stored, s.store.sets[n] = ⟨.valid, some stored⟩ → checkWordRule (foundSet n found stored).toList = true) ∨
    ∃ stored, s.store.sets[n] = ⟨.valid, some stored⟩ ∧
      checkWordRule (foundSet n found stored).toList = false ∧
      Resolves (s.store.feedersNaming n) (s.setReplaced n ⟨.invalid, some (foundSet n found stored)⟩)
        (s.visitSet n found) := by
  unfold visitSet
  split
  · rename_i stored record
    dsimp only
    split
    · rename_i passes
      refine .inl ⟨rfl, fun other same => ?_⟩
      cases record.symm.trans same
      exact passes
    · rename_i fails
      refine .inr ⟨stored, record, Bool.eq_false_of_not_eq_true fails, ?_⟩
      let invalid := s.setReplaced n ⟨.invalid, some (foundSet n found stored)⟩
      let posted := (invalid.postRecordInvalid n.val 2 0).settingsCondition s.store.settingsInvalid
      have condition : Resolves [] invalid posted :=
        (invalid.resolves_post ..).trans (resolves_settingsCondition _ s.store.settingsInvalid)
      exact condition.trans (resolves_resolveNaming n posted)
  · rename_i unverified
    exact .inl ⟨rfl, fun stored valid => absurd valid (unverified stored)⟩

/-- The visit to the station record leaves the part as it is, or makes a VALID record INVALID. -/
theorem visitStation_cases (found : Option FoundRecord) (s : State) :
    (s.visitStation found = s ∧
      ∀ stored, s.store.station = ⟨.valid, some stored⟩ → checkWordRule (foundStation found stored).toList = true) ∨
    ∃ stored, s.store.station = ⟨.valid, some stored⟩ ∧
      checkWordRule (foundStation found stored).toList = false ∧
      Spares { s with store := { s.store with station := ⟨.invalid, some (foundStation found stored)⟩ } }
        (s.visitStation found) := by
  unfold visitStation
  split
  · rename_i stored record
    dsimp only
    split
    · rename_i passes
      refine .inl ⟨rfl, fun other same => ?_⟩
      cases record.symm.trans same
      exact passes
    · rename_i fails
      refine .inr ⟨stored, record, Bool.eq_false_of_not_eq_true fails, ?_⟩
      exact ((spares_post ..).trans (spares_settingsCondition ..)).trans (spares_presentStation _)
  · rename_i unverified
    exact .inl ⟨rfl, fun stored valid => absurd valid (unverified stored)⟩

end State

end Sys2Proof.Machine
end

section
/-! PROOFS. The laws of the bindings and of the attempts used (O18, O19). -/

namespace Sys2Proof.Machine

/-- R52: programming a record changes nothing of it that its program state does not change. -/
theorem Store.setRecord_program {α : Type} (st : Store) (n m : SetId) (f : StoredRecord SetFields → α)
    (h : f (st.sets[n]).program = f st.sets[n]) :
    f (st.setRecord n (st.sets[n]).program).sets[m] = f st.sets[m] := by
  rw [Store.setRecord_sets]
  split
  · rename_i same
    rw [same, h]
  · rfl

/-! ### Bindings and in-use counts (R64, R65, R67) -/

/-- The bindings stay settled where every feeder whose resolution has changed is resolved. -/
theorem Store.Bound.rebound {a : Store} (h : a.Bound) (b : Store) (binding : b.binding = a.binding) (inUse : b.inUse = a.inUse)
    {ks : List FeederId} (others : ∀ j, j ∉ ks → b.resolved j = a.resolved j) : (b.rebindEach ks).Bound := by
  obtain ⟨bound, counts⟩ := h
  refine Store.rebindEach_bound (fun n => ?_) fun j hj => ?_
  · rw [inUse, counts, Store.useCount, Store.useCount, binding]
  · rw [binding, others j hj, bound]

theorem Store.Bound.setRecord {st : Store} (h : st.Bound) (n : SetId) (r : StoredRecord SetFields)
    (write : Option WriteInProgress) :
    (Store.rebindEach (st.feedersNaming n) { st.setRecord n r with write := write }).Bound :=
  h.rebound { st.setRecord n r with write := write } rfl rfl fun j hj => Store.resolved_congr rfl rfl fun m entry => by
    have other : m ≠ n := fun same => hj (Store.mem_feedersNaming.2 (same ▸ entry))
    exact congrArg StoredRecord.presents (st.setRecord_sets_other r other)

theorem Store.Bound.setEntry {st : Store} (h : st.Bound) (k : FeederId) (f : FeedState) (x : Option SetId) :
    (Store.rebindEach [k] { st.setEntry k f x with write := none }).Bound :=
  h.rebound { st.setEntry k f x with write := none } rfl rfl fun j hj => by
    have other : j ≠ k := mt List.mem_singleton.2 hj
    have entry : (st.setEntry k f x).entryOf j = st.entryOf j := by
      simp only [Store.entryOf, Store.setEntry, Six.get_set, if_neg other]
    exact Store.resolved_congr rfl entry fun _ _ => rfl

theorem Store.Bound.setFeed {st : Store} (h : st.Bound) (k : FeederId) (f : FeedState) :
    (Store.rebindEach [k] { st with feed := st.feed.set k f }).Bound :=
  h.rebound { st with feed := st.feed.set k f } rfl rfl fun j hj => by
    have other : j ≠ k := mt List.mem_singleton.2 hj
    have feed : (st.feed.set k f).get j = st.feed.get j := by rw [Six.get_set, if_neg other]
    have entry : Store.entryOf { st with feed := st.feed.set k f } j = st.entryOf j := by
      simp only [Store.entryOf, feed]
    exact Store.resolved_congr feed entry fun _ _ => rfl

/-- R52: what a record presents stays while it is programmed. -/
theorem Store.Bound.program {st : Store} (h : st.Bound) (n : SetId) (write : Option WriteInProgress) :
    Store.Bound { st.setRecord n (st.sets[n]).program with write := write } :=
  h.rebound { st.setRecord n (st.sets[n]).program with write := write } (ks := []) rfl rfl fun _ _ =>
    Store.resolved_congr rfl rfl fun m _ => st.setRecord_program n m StoredRecord.presents rfl

/-- A change of the store that no resolution depends on. -/
theorem Store.Bound.same {a : Store} (h : a.Bound) (b : Store) (binding : b.binding = a.binding) (inUse : b.inUse = a.inUse)
    (resolved : ∀ j, b.resolved j = a.resolved j) : b.Bound :=
  h.rebound b (ks := []) binding inUse fun j _ => resolved j

theorem Store.bound_reset (found : List FoundRecord) (st : Store) : ((st.checked found).bindEach FeederId.all).Bound :=
  ⟨fun k => Store.bindEach_binding (.inl (FeederId.mem_everyFeeder k)), Store.bindEach_inUse (Store.checked_inUse found st)⟩

namespace State

variable {s t : State} {n : SetId}

@[simp] theorem finish_store (r : Served) : (finish r).store = r.1.store := by
  unfold finish
  split <;> rfl

@[simp] theorem finish_plant (r : Served) : (finish r).plant = r.1.plant := by
  unfold finish
  split <;> rfl

theorem visit_set {found : Option FoundRecord} (h : s.store.scan.val = n.val) : s.visit found = s.visitSet n found := by
  unfold visit
  rw [dif_pos (h ▸ n.isLt)]
  congr 1
  exact Fin.ext h

theorem visit_station {found : Option FoundRecord} (h : s.store.scan.val = 16) :
    s.visit found = s.visitStation found := dif_neg (by omega)

/-- The scan position names a set or the station record. -/
theorem scan_cases (s : State) : (∃ n : SetId, s.store.scan.val = n.val) ∨ s.store.scan.val = 16 := by
  by_cases h : s.store.scan.val < 16
  · exact .inl ⟨⟨_, h⟩, rfl⟩
  · exact .inr (by omega)

theorem resetWith_store (x : ResetInputs) (cause : ResetCause) (time : TimeBase) (records : RecordStore)
    (unit : JournalUnit) (energy : Energy) (s : State) :
    (s.resetWith x cause time records unit energy).store = (s.store.checked x.found).bindEach FeederId.all := by
  obtain ⟨after, frame⟩ := resetWith_frame x cause time records unit energy s
  rw [frame]

theorem bound_serves {r : Served} (h : s.Serves r) (bound : s.store.Bound) : r.1.store.Bound := by
  cases h with
  | answers spares => exact spares.store ▸ bound
  | erasesSet n => exact (resolves_eraseSet n s).store ▸ bound.setRecord n _ s.store.write
  | appliesFeedState k f =>
    by_cases same : s.store.feed.get k = f
    · rw [applyFeedState_same same]
      exact bound
    · exact (resolves_applyFeedState same).store ▸ bound.setFeed k f
  | takesSetWrite n => exact bound.program n _
  | takesStationWrite | takesMapWrite => exact bound.same _ rfl rfl fun _ => rfl

theorem bound_visit (found : Option FoundRecord) (bound : s.store.Bound) : (s.visit found).store.Bound := by
  rcases s.scan_cases with ⟨n, set⟩ | station
  · rw [visit_set set]
    rcases s.visitSet_cases n found with ⟨same, -⟩ | ⟨stored, -, -, invalid⟩
    · rwa [same]
    · exact invalid.store ▸ bound.setRecord n _ s.store.write
  · rw [visit_station station]
    rcases s.visitStation_cases found with ⟨same, -⟩ | ⟨stored, -, -, invalid⟩
    · rwa [same]
    · exact invalid.store ▸ bound.same _ rfl rfl fun _ => rfl

theorem bound_completeSet (n : SetId) (fields readBack : SetFields) (bound : s.store.Bound) :
    (s.completeSet n fields readBack).store.Bound := by
  by_cases passes : readBack = fields ∧ checkWordRule readBack.toList = true
  · obtain ⟨rfl, check⟩ := passes
    obtain ⟨t, completed, resolves, -⟩ := s.completeSet_passed n check
    rw [completed, reply_store, resolves.store]
    exact bound.setRecord n _ none
  · obtain ⟨t, completed, resolves⟩ := s.completeSet_failed n passes
    rw [completed, reply_store, resolves.store]
    exact bound.setRecord n _ none

theorem bound_completeEntry (k : FeederId) (f : FeedState) (value readBack : Option SetId) (bound : s.store.Bound) :
    (s.completeEntry k f value readBack).store.Bound := by
  by_cases passes : readBack = value
  · subst passes
    obtain ⟨t, completed, resolves⟩ := s.completeEntry_passed k f readBack
    rw [completed, reply_store, resolves.store]
    exact bound.setEntry k f readBack
  · obtain ⟨t, completed, resolves⟩ := s.completeEntry_failed k f passes
    rw [completed, reply_store, resolves.store]
    exact bound.setEntry k f none

end State

/-- R64, R65, R67: the law of the bindings. -/
theorem settled_bindingLaw : Settled State.bindingLaw where
  spares spared law := (State.bindingLaw_iff _).2 (spared.store ▸ law)
  executes {s} _ _ _ _ _ serves law := by
    have bound := State.bound_serves serves law
    rwa [← State.finish_store] at bound
  completesSet _ law := State.bound_completeSet _ _ _ law
  completesStation {s} fields readBack _ _ law := by
    obtain ⟨t, payload, state, completed, -, spared⟩ := s.completeStation_spares fields readBack
    rw [State.bindingLaw_iff, completed, State.reply_store, spared.store]
    exact Store.Bound.same law _ rfl rfl fun _ => rfl
  completesEntry _ law := State.bound_completeEntry _ _ _ _ law
  visits found law := Store.Bound.same (State.bound_visit found law) _ rfl rfl fun _ => rfl
  resets x cause time records unit energy := by
    rw [State.bindingLaw_iff, State.resetWith_store]
    exact Store.bound_reset _ _

/-- Settles O18: by the principle of the settings, since each of its changes resolves the feeders it concerns. -/
theorem bindingLawIsKept : Obligations.BindingLawIsKept := fun _ _ law stepped => settled_bindingLaw.step law stepped

/-! ### Attempts used (R69) -/

namespace State

variable {s t : State} {n : SetId}

/-- R69: the law follows a change that spares the settings. -/
theorem Spares.attemptsLaw (h : s.Spares t) (law : s.attemptsLaw) : t.attemptsLaw := fun k => by
  have within := h.attempts k
  have before := law k
  rw [h.store]
  simp only [env_store] at within
  omega

/-- R69: the law follows a resolution, where the change before it left the values that bindings present alone. -/
theorem attemptsLaw.resolved {s₁ : State} {ks : List FeederId} (law : s.attemptsLaw) (h : Resolves ks s₁ t)
    (plant : s₁.plant = s.plant) (values : ∀ k, s₁.store.values k = s.store.values k) : t.attemptsLaw :=
  fun k => h.within fun _ => by
    rw [plant, values]
    exact law k

/-- R69: the law follows the replacement of a set's record, where the feeders still bound to the set are within what it
now presents. -/
theorem attemptsLaw.replaced {s₁ : State} {ks : List FeederId} {r : StoredRecord SetFields} (law : s.attemptsLaw)
    (h : Resolves ks s₁ t) (plant : s₁.plant = s.plant) (binding : s₁.store.binding = s.store.binding)
    (sets : s₁.store.sets = (s.store.setRecord n r).sets)
    (named : ∀ j, (t.store.binding.get j).set = some n → (t.plant.feeder j).attempts ≤ (t.store.values j).attempts) :
    t.attemptsLaw := fun j => by
  by_cases names : (t.store.binding.get j).set = some n
  · exact named j names
  · refine h.within fun stays => ?_
    rw [stays, binding] at names
    have values : s₁.store.values j = s.store.values j :=
      Store.values_congr (by rw [binding]) fun m bound => by
        have other : m ≠ n := fun same => names (same ▸ bound)
        rw [sets, s.store.setRecord_sets_other r other]
    rw [plant, values]
    exact law j

/-- R67: no feeder is bound to a set that does not present VALID contents. -/
theorem unnamed (bound : t.store.Bound) (record : (t.store.sets[n]).presents ≠ .valid) (j : FeederId) :
    (t.store.binding.get j).set ≠ some n := by
  obtain ⟨resolved, -⟩ := bound
  rw [resolved j]
  exact fun names => record (Store.resolved_valid names)

/-- R69: the law follows the loss of a set's contents, where the feeders that name it are resolved. -/
theorem attemptsLaw.lost {s₁ : State} {ks : List FeederId} {r : StoredRecord SetFields} (law : s.attemptsLaw)
    (h : Resolves ks s₁ t) (plant : s₁.plant = s.plant) (binding : s₁.store.binding = s.store.binding)
    (sets : s₁.store.sets = (s.store.setRecord n r).sets) (record : r.presents ≠ .valid) (bound : t.store.Bound) :
    t.attemptsLaw := by
  refine law.replaced h plant binding sets fun j names => absurd names (unnamed bound ?_ j)
  rwa [h.store, Store.rebindEach_sets, sets, Store.setRecord_sets_self]

theorem attemptsLaw_serves {r : Served} (h : s.Serves r) (bound : s.store.Bound) (law : s.attemptsLaw) :
    r.1.attemptsLaw := by
  have after := bound_serves h bound
  cases h with
  | answers spares => exact spares.attemptsLaw law
  | erasesSet n => exact law.lost (resolves_eraseSet n s) rfl rfl rfl nofun after
  | appliesFeedState k f =>
    by_cases same : s.store.feed.get k = f
    · rw [applyFeedState_same same]
      exact law
    · exact law.resolved (resolves_applyFeedState same) rfl fun _ => rfl
  | takesSetWrite n fields =>
    refine fun k => (law k).trans (le_of_eq (congrArg BoundValues.attempts (Store.values_congr rfl fun m _ => ?_)))
    exact (s.store.setRecord_program n m StoredRecord.contents rfl).symm
  | takesStationWrite | takesMapWrite => exact law

theorem attemptsLaw_visit (found : Option FoundRecord) (bound : s.store.Bound) (law : s.attemptsLaw) :
    (s.visit found).attemptsLaw := by
  have after := bound_visit found bound
  rcases s.scan_cases with ⟨n, set⟩ | station
  · rw [visit_set set] at after ⊢
    rcases s.visitSet_cases n found with ⟨same, -⟩ | ⟨stored, -, -, invalid⟩
    · rwa [same]
    · exact law.lost invalid rfl rfl rfl nofun after
  · rw [visit_station station]
    rcases s.visitStation_cases found with ⟨same, -⟩ | ⟨stored, -, -, invalid⟩
    · rwa [same]
    · exact invalid.attemptsLaw law

theorem attemptsLaw_completeSet (n : SetId) (fields readBack : SetFields) (bound : s.store.Bound)
    (law : s.attemptsLaw) : (s.completeSet n fields readBack).attemptsLaw := by
  have after := bound_completeSet n fields readBack bound
  by_cases passes : readBack = fields ∧ checkWordRule readBack.toList = true
  · obtain ⟨rfl, check⟩ := passes
    obtain ⟨t, completed, resolves, named⟩ := s.completeSet_passed n check
    rw [completed]
    show t.attemptsLaw
    exact law.replaced (n := n) resolves rfl rfl rfl named
  · obtain ⟨t, completed, resolves⟩ := s.completeSet_failed n passes
    rw [completed] at after ⊢
    show t.attemptsLaw
    exact law.lost (n := n) (r := ⟨.invalid, some readBack⟩) resolves rfl rfl rfl nofun after

theorem attemptsLaw_completeEntry (k : FeederId) (f : FeedState) (value readBack : Option SetId) (law : s.attemptsLaw) :
    (s.completeEntry k f value readBack).attemptsLaw := by
  by_cases passes : readBack = value
  · subst passes
    obtain ⟨t, completed, resolves⟩ := s.completeEntry_passed k f readBack
    rw [completed]
    show t.attemptsLaw
    exact law.resolved resolves rfl fun _ => rfl
  · obtain ⟨t, completed, resolves⟩ := s.completeEntry_failed k f passes
    rw [completed]
    show t.attemptsLaw
    exact law.resolved resolves rfl fun _ => rfl

/-- R69: after a reset no feeder has used an attempt. -/
theorem attemptsLaw_resetWith (x : ResetInputs) (cause : ResetCause) (time : TimeBase) (records : RecordStore)
    (unit : JournalUnit) (energy : Energy) (s : State) : (s.resetWith x cause time records unit energy).attemptsLaw := by
  obtain ⟨after, frame⟩ := resetWith_frame x cause time records unit energy s
  intro k
  have unused : ((s.resetWith x cause time records unit energy).plant.feeder k).attempts = 0 := by
    rw [frame]
    exact congrArg Sequencer.attempts (Six.get_all ..)
  omega

end State

/-- R69: the law of the attempts used, with that of the bindings. -/
theorem settled_attemptsLaw : Settled (fun s => s.bindingLaw ∧ s.attemptsLaw) where
  spares spared := And.imp (settled_bindingLaw.spares spared) spared.attemptsLaw
  executes {s} _ _ _ r free serves laws := by
    refine ⟨settled_bindingLaw.executes free serves laws.1, ?_⟩
    have law : r.1.attemptsLaw := State.attemptsLaw_serves serves laws.1 laws.2
    unfold State.attemptsLaw
    rwa [State.finish_store, State.finish_plant]
  completesSet write laws :=
    ⟨settled_bindingLaw.completesSet write laws.1, State.attemptsLaw_completeSet _ _ _ laws.1 laws.2⟩
  completesStation {s} fields readBack _ write laws := by
    refine ⟨settled_bindingLaw.completesStation write laws.1, ?_⟩
    obtain ⟨t, payload, state, completed, -, spared⟩ := s.completeStation_spares fields readBack
    rw [completed]
    show t.attemptsLaw
    exact spared.attemptsLaw laws.2
  completesEntry write laws :=
    ⟨settled_bindingLaw.completesEntry write laws.1, State.attemptsLaw_completeEntry _ _ _ _ laws.2⟩
  visits found laws := ⟨settled_bindingLaw.visits found laws.1, State.attemptsLaw_visit found laws.1 laws.2⟩
  resets x cause time records unit energy :=
    ⟨settled_bindingLaw.resets x cause time records unit energy, State.attemptsLaw_resetWith x cause time records unit energy _⟩

/-- Settles O19: the law by the principle of the settings, and what a resolution and a completion leave of one feeder. -/
theorem attemptsLawIsKept : Obligations.AttemptsLawIsKept := by
  refine ⟨fun s t bound law stepped => (settled_attemptsLaw.step ⟨bound, law⟩ stepped).2, fun k s changes => ?_,
    fun n k s names => ?_⟩
  · rw [State.resolve_feeder changes, if_pos rfl]
    exact ⟨rfl, rfl⟩
  · rw [State.cutNaming_feeder, if_pos names]
    exact ⟨rfl, rfl⟩

end Sys2Proof.Machine
end

section
/-! PROOFS. The law of the link's requests (O56). -/

namespace Sys2Proof.Machine

/-- R47, R52: no record is PROGRAMMING and no write is in progress. -/
def Store.Idle (st : Store) : Prop :=
  st.write = none ∧ (∀ (n : SetId) b, (st.sets[n]).state ≠ .programming b) ∧ ∀ b, st.station.state ≠ .programming b

namespace State

variable {s t : State} {n : SetId}

/-- R197, R198: with no request under execution the law says that nothing is written and no third frame waits. -/
theorem linkLaw_iff_idle (free : s.link.executing = none) :
    s.linkLaw ↔ s.link.queue.length ≤ 2 ∧ s.store.Idle := by
  constructor
  · rintro ⟨executes, -, queue, sets, station⟩
    have write : s.store.write = none := by
      simpa [free, Option.isSome_iff_ne_none] using executes
    refine ⟨queue, write, fun n b programming => ?_, fun b programming => ?_⟩
    · obtain ⟨f, due, writes⟩ := (sets n).1 ⟨b, programming⟩
      exact nomatch write.symm.trans writes
    · obtain ⟨f, due, writes⟩ := station.1 ⟨b, programming⟩
      exact nomatch write.symm.trans writes
  · rintro ⟨queue, write, sets, station⟩
    simpa [linkLaw, free, write, queue, station] using sets

/-- R198, R199: an answered request leaves the slot filled and nothing under execution. -/
theorem reply_executing (payload : List Byte) (s : State) : (s.reply payload).link.executing = none := by
  unfold reply Link.reply
  split <;> simp_all

theorem reply_queue (payload : List Byte) (s : State) : (s.reply payload).link.queue = s.link.queue := by
  unfold reply Link.reply
  split <;> rfl

theorem linkLaw_reply (payload : List Byte) (queue : s.link.queue.length ≤ 2) (idle : s.store.Idle) :
    (s.reply payload).linkLaw := by
  rw [linkLaw_iff_idle (s.reply_executing payload), reply_queue, reply_store]
  exact ⟨queue, idle⟩

/-- The law follows a change of the link and the store in which the same request is under execution, the same write in
progress and the same records PROGRAMMING. -/
theorem linkLaw.follows (law : s.linkLaw) (executing : t.link.executing = s.link.executing)
    (slot : t.link.slot = s.link.slot ∨ t.link.slot = none) (queue : t.link.queue.length ≤ max 2 s.link.queue.length)
    (write : t.store.write = s.store.write)
    (sets : ∀ (n : SetId) b, (t.store.sets[n]).state = .programming b ↔ (s.store.sets[n]).state = .programming b)
    (station : ∀ b, t.store.station.state = .programming b ↔ s.store.station.state = .programming b) : t.linkLaw := by
  obtain ⟨executes, empty, short, targets, stationTarget⟩ := law
  simp only [linkLaw, executing, write, sets, station]
  refine ⟨executes, fun busy => ?_, by omega, targets, stationTarget⟩
  exact slot.elim (·.trans (empty busy)) id

theorem Spares.linkLaw (h : s.Spares t) (law : s.linkLaw) : t.linkLaw :=
  law.follows h.executing h.slot h.queue (by rw [h.store]) (fun _ _ => by rw [h.store]) fun _ => by rw [h.store]

theorem Resolves.link {ks : List FeederId} (h : Resolves ks s t) : t.link = s.link := by
  obtain ⟨f, u, frame⟩ := h.frame
  rw [frame]

end State

namespace Store

variable {st : Store} {n : SetId} {ks : List FeederId}

theorem Idle.rebindEach (idle : st.Idle) : (st.rebindEach ks).Idle := by
  unfold Idle
  simp only [rebindEach_write, rebindEach_sets, rebindEach_station]
  exact idle

/-- R47: a record that ends up in another state than PROGRAMMING was the only one that may have been PROGRAMMING. -/
theorem idle_setRecord {r : StoredRecord SetFields} (written : ∀ b, r.state ≠ .programming b)
    (others : ∀ m : SetId, m ≠ n → ∀ b, (st.sets[m]).state ≠ .programming b)
    (station : ∀ b, st.station.state ≠ .programming b) : Store.Idle { st.setRecord n r with write := none } := by
  refine ⟨rfl, fun m => ?_, station⟩
  by_cases same : m = n
  · subst same
    rw [show (st.setRecord m r).sets[m] = r from st.setRecord_sets_self ..]
    exact written
  · rw [show (st.setRecord n r).sets[m] = st.sets[m] from st.setRecord_sets_other r same]
    exact others m same

end Store

namespace State

variable {s t : State} {n : SetId}

/-- R198: an executed request of a part at rest is answered, or begins the one write. -/
theorem linkLaw_serves {r : Served} (h : s.Serves r) (executing : s.link.executing.isSome = true)
    (slot : s.link.slot = none) (queue : s.link.queue.length ≤ 2) (idle : s.store.Idle) : (finish r).linkLaw := by
  obtain ⟨write, sets, station⟩ := id idle
  cases h with
  | answers spares =>
    exact linkLaw_reply _ (spares.queue.trans (max_le le_rfl queue)) (spares.store ▸ idle)
  | erasesSet n payload _ =>
    have erased := resolves_eraseSet n s
    have emptied : Store.Idle { s.store.setRecord n ⟨.empty, none⟩ with write := none } :=
      Store.idle_setRecord nofun (fun m _ => sets m) station
    refine linkLaw_reply _ (erased.link ▸ queue) (erased.store ▸ Store.Idle.rebindEach ?_)
    rwa [← write] at emptied
  | appliesFeedState k f payload =>
    by_cases same : s.store.feed.get k = f
    · rw [applyFeedState_same same]
      exact linkLaw_reply _ queue idle
    · have applied := resolves_applyFeedState same
      exact linkLaw_reply _ (applied.link ▸ queue) (applied.store ▸ Store.Idle.rebindEach idle)
  | takesSetWrite n fields =>
    refine ⟨iff_of_true executing rfl, fun _ => slot, queue, fun m => ?_, iff_of_false ?_ nofun⟩
    · show (∃ b, ((s.store.setRecord n (s.store.sets[n]).program).sets[m]).state = .programming b) ↔
        ∃ f due, some (WriteInProgress.mk (.set n fields) _) = some ⟨.set m f, due⟩
      rw [Store.setRecord_sets]
      split
      · rename_i same
        subst same
        exact iff_of_true ⟨_, rfl⟩ ⟨fields, _, rfl⟩
      · rename_i other
        refine iff_of_false (fun ⟨b, programming⟩ => sets m b programming) ?_
        rintro ⟨f, due, same⟩
        cases same
        exact other rfl
    · exact fun ⟨b, programming⟩ => station b programming
  | takesStationWrite fields =>
    refine ⟨iff_of_true executing rfl, fun _ => slot, queue, fun m => iff_of_false ?_ nofun, ?_⟩
    · exact fun ⟨b, programming⟩ => sets m b programming
    · exact iff_of_true ⟨_, rfl⟩ ⟨fields, _, rfl⟩
  | takesMapWrite k f value =>
    refine ⟨iff_of_true executing rfl, fun _ => slot, queue, fun m => iff_of_false ?_ nofun, iff_of_false ?_ nofun⟩
    · exact fun ⟨b, programming⟩ => sets m b programming
    · exact fun ⟨b, programming⟩ => station b programming

theorem linkLaw_visit (found : Option FoundRecord) (law : s.linkLaw) : (s.visit found).linkLaw := by
  rcases s.scan_cases with ⟨n, set⟩ | station
  · rw [visit_set set]
    rcases s.visitSet_cases n found with ⟨same, -⟩ | ⟨stored, valid, -, invalid⟩
    · rwa [same]
    · refine law.follows (by rw [invalid.link]; rfl) (.inl (by rw [invalid.link]; rfl))
        (by rw [invalid.link]; exact Nat.le_max_right ..) (by rw [invalid.store]; exact Store.rebindEach_write ..)
        (fun m b => ?_) fun b => by rw [invalid.store, Store.rebindEach_station]; rfl
      rw [invalid.store, Store.rebindEach_sets]
      show ((s.store.setRecord n _).sets[m]).state = _ ↔ _
      rw [Store.setRecord_sets]
      split
      · rename_i same
        simp [same, valid]
      · rfl
  · rw [visit_station station]
    rcases s.visitStation_cases found with ⟨same, -⟩ | ⟨stored, valid, -, invalid⟩
    · rwa [same]
    · exact invalid.linkLaw (law.follows rfl (.inl rfl) (Nat.le_max_right ..) rfl (fun _ _ => .rfl)
        fun b => by simp [valid])

end State

/-- R49: the start-up check leaves no record PROGRAMMING. -/
theorem StoredRecord.startUp_state {α : Type} (words : α → List Word16) (left : α) (r : StoredRecord α) (b : Presented) :
    (r.startUp words left).state ≠ .programming b := by
  unfold startUp
  split
  · nofun
  · nofun
  · dsimp only
    split <;> nofun
  · nofun

/-- R49 step 4: binding the feeders writes nothing. -/
theorem Store.Idle.bindEach {st : Store} (idle : st.Idle) (ks : List FeederId) : (st.bindEach ks).Idle := by
  induction ks generalizing st with
  | nil => exact idle
  | cons k ks ih => exact ih (st := st.replaceBinding k (st.resolved k)) idle

/-- R49: nothing is written after the start-up check. -/
theorem Store.checked_idle (found : List FoundRecord) (st : Store) : (st.checked found).Idle := by
  refine ⟨rfl, fun n b => ?_, fun b => ?_⟩
  · rw [checked_sets]
    exact StoredRecord.startUp_state _ _ _ b
  · rw [checked_station]
    exact StoredRecord.startUp_state _ _ _ b

namespace State

variable {s : State}

theorem linkLaw_resetWith (x : ResetInputs) (cause : ResetCause) (time : TimeBase) (records : RecordStore)
    (unit : JournalUnit) (energy : Energy) (s : State) : (s.resetWith x cause time records unit energy).linkLaw := by
  rw [linkLaw_iff_idle (by rw [resetWith_link]; rfl), resetWith_link, resetWith_store]
  exact ⟨Nat.zero_le _, (Store.checked_idle ..).bindEach _⟩

/-- R53, R54: the end of a Write Set is the end of the one write. -/
theorem linkLaw_completeSet {n : SetId} {fields : SetFields} (readBack : SetFields) {due : Nat}
    (writes : s.store.write = some ⟨.set n fields, due⟩) (law : s.linkLaw) :
    (s.completeSet n fields readBack).linkLaw := by
  obtain ⟨-, -, queue, sets, station⟩ := law
  have others (m : SetId) (other : m ≠ n) (b : Presented) : (s.store.sets[m]).state ≠ .programming b := fun at_m => by
    obtain ⟨f, due, target⟩ := (sets m).1 ⟨b, at_m⟩
    rw [writes] at target
    cases target
    exact other rfl
  have quiet (b : Presented) : s.store.station.state ≠ .programming b := fun at_station => by
    obtain ⟨f, due, target⟩ := station.1 ⟨b, at_station⟩
    rw [writes] at target
    cases target
  by_cases passes : readBack = fields ∧ checkWordRule readBack.toList = true
  · obtain ⟨rfl, check⟩ := passes
    obtain ⟨t, completed, written, -⟩ := s.completeSet_passed n check
    rw [completed]
    exact linkLaw_reply _ (written.link ▸ queue)
      (written.store ▸ Store.Idle.rebindEach (Store.idle_setRecord nofun others quiet))
  · obtain ⟨t, completed, written⟩ := s.completeSet_failed n passes
    rw [completed]
    exact linkLaw_reply _ (written.link ▸ queue)
      (written.store ▸ Store.Idle.rebindEach (Store.idle_setRecord nofun others quiet))

/-- R59: the end of a Write Station Record. -/
theorem linkLaw_completeStation {fields : StationFields} (readBack : StationFields) {due : Nat}
    (writes : s.store.write = some ⟨.station fields, due⟩) (law : s.linkLaw) :
    (s.completeStation fields readBack).linkLaw := by
  obtain ⟨-, -, queue, sets, -⟩ := law
  obtain ⟨t, payload, state, completed, written, spared⟩ := s.completeStation_spares fields readBack
  rw [completed]
  refine linkLaw_reply _ (spared.queue.trans (max_le le_rfl queue)) (spared.store ▸ ⟨rfl, fun m b at_m => ?_, written⟩)
  obtain ⟨f, due, target⟩ := (sets m).1 ⟨b, at_m⟩
  rw [writes] at target
  cases target

/-- R62: the end of a Write Map Entry. -/
theorem linkLaw_completeEntry {k : FeederId} {f : FeedState} {value : Option SetId} (readBack : Option SetId) {due : Nat}
    (writes : s.store.write = some ⟨.mapEntry k f value, due⟩) (law : s.linkLaw) :
    (s.completeEntry k f value readBack).linkLaw := by
  obtain ⟨-, -, queue, sets, station⟩ := law
  have idle (x : Option SetId) : (s.entryWritten k f x).store.Idle := by
    refine ⟨rfl, fun m b at_m => ?_, fun b at_station => ?_⟩
    · obtain ⟨_, due, target⟩ := (sets m).1 ⟨b, at_m⟩
      rw [writes] at target
      cases target
    · obtain ⟨_, due, target⟩ := station.1 ⟨b, at_station⟩
      rw [writes] at target
      cases target
  by_cases passes : readBack = value
  · subst passes
    obtain ⟨t, completed, written⟩ := s.completeEntry_passed k f readBack
    rw [completed]
    exact linkLaw_reply _ (written.link ▸ queue) (written.store ▸ (idle readBack).rebindEach)
  · obtain ⟨t, completed, written⟩ := s.completeEntry_failed k f passes
    rw [completed]
    exact linkLaw_reply _ (written.link ▸ queue) (written.store ▸ (idle none).rebindEach)

end State

/-- R47, R52, R62, R197, R198: the law of the requests. -/
theorem settled_linkLaw : Settled State.linkLaw where
  spares := State.Spares.linkLaw
  executes {s} pins kind tag _ free serves law := by
    simp only [Link.free, Bool.and_eq_true, Option.isNone_iff_eq_none] at free
    obtain ⟨⟨none, slot⟩, -⟩ := free
    obtain ⟨queue, idle⟩ := (State.linkLaw_iff_idle none).1 law
    exact State.linkLaw_serves serves rfl slot queue idle
  completesSet := State.linkLaw_completeSet _
  completesStation := State.linkLaw_completeStation _
  completesEntry := State.linkLaw_completeEntry _
  visits found law := State.linkLaw_visit found law
  resets x cause time records unit energy := State.linkLaw_resetWith x cause time records unit energy _

/-- Settles O56: by the principle of the settings, since a request is executed with nothing written, and a completion
ends the write and answers the request. -/
theorem linkLawIsKept : Obligations.LinkLawIsKept := fun _ _ law stepped => settled_linkLaw.step law stepped

end Sys2Proof.Machine
end

section
/-! PROOFS. Write Set: its checks and their order (O12). -/

namespace Sys2Proof.Machine

/-- R50 step 3: the field lies in its range. -/
def inRange (r : RangeCheck) : Bool := decide (r.lo ≤ r.value.toNat ∧ r.value.toNat ≤ r.hi)

theorem fails_eq_not_inRange (r : RangeCheck) : r.fails = !inRange r := by
  rw [Bool.eq_iff_iff]
  simp only [RangeCheck.fails, inRange, Bool.or_eq_true, Bool.not_eq_true', decide_eq_true_eq, decide_eq_false_iff_not]
  omega

/-- R50, R59: the position that range checks and then the check word rule name. -/
def namedPosition (checks : List RangeCheck) (words : List Word16) : Option Nat :=
  match checks.find? RangeCheck.fails with
  | some r => some r.position
  | none => if checkWordRule words then none else some (checks.length + 1)

theorem setFields_firstFailing (f : SetFields) : f.firstFailing = namedPosition f.ranges f.toList := rfl

theorem stationFields_firstFailing (f : StationFields) : f.firstFailing = namedPosition f.ranges f.toList := rfl

/-- R50, R51, R59: what each position that can be named says, for fields in the order of their positions. -/
theorem namedPosition_iff {checks : List RangeCheck} {words : List Word16} {oks : List Bool}
    (inOrder : checks.map RangeCheck.position = List.range' 1 checks.length) (results : checks.map inRange = oks) :
    (namedPosition checks words = none ↔ (∀ b ∈ oks, b = true) ∧ (words.map BitVec.toNat).sum % 65536 = 65535) ∧
    (namedPosition checks words = some (checks.length + 1) ↔
      (∀ b ∈ oks, b = true) ∧ (words.map BitVec.toNat).sum % 65536 ≠ 65535) ∧
    ∀ n : Nat, n < checks.length →
      (namedPosition checks words = some (n + 1) ↔ oks[n]? = some false ∧ ∀ m : Nat, m < n → oks[m]? = some true) := by
  have position (i : Nat) (h : i < checks.length) : (checks[i]).position = i + 1 := by
    have at_i : (checks.map RangeCheck.position)[i]? = (List.range' 1 checks.length)[i]? := by rw [inOrder]
    simp only [List.getElem?_map, List.getElem?_eq_getElem h, List.getElem?_range', h] at at_i
    simp at at_i
    omega
  have result (i : Nat) (h : i < checks.length) : oks[i]? = some (inRange checks[i]) := by
    rw [← results, List.getElem?_map, List.getElem?_eq_getElem h]
    rfl
  unfold namedPosition
  cases found : checks.find? RangeCheck.fails with
  | none =>
    have allHold : ∀ b ∈ oks, b = true := by
      rw [← results]
      simpa [fails_eq_not_inRange] using found
    have named (n : Nat) (h : n < checks.length) : oks[n]? ≠ some false := fun at_n =>
      Bool.false_ne_true (allHold _ (List.mem_of_getElem? at_n))
    refine ⟨?_, ?_, fun n h => iff_of_false ?_ fun x => named n h x.1⟩
    · simpa [checkWordRule] using fun _ => allHold
    · simpa [checkWordRule] using fun _ => allHold
    · dsimp only
      split
      · nofun
      · simp only [Option.some.injEq]
        omega
  | some r =>
    obtain ⟨fails, i, h, rfl, before⟩ := List.find?_eq_some_iff_getElem.1 found
    have failing : oks[i]? = some false := by
      rw [fails_eq_not_inRange, Bool.not_eq_true'] at fails
      rw [result i h, fails]
    have earlier (j : Nat) (less : j < i) : oks[j]? = some true := by
      have holds := before j less
      rw [fails_eq_not_inRange, Bool.not_not] at holds
      rw [result j (less.trans h), holds]
    have someFail : ¬ ∀ b ∈ oks, b = true := fun all => Bool.false_ne_true (all _ (List.mem_of_getElem? failing))
    dsimp only
    rw [position i h]
    refine ⟨iff_of_false nofun fun x => someFail x.1, iff_of_false ?_ fun x => someFail x.1, fun n _ => ⟨?_, ?_⟩⟩
    · simp only [Option.some.injEq]
      omega
    · intro same
      obtain rfl : i = n := by simpa using same
      exact ⟨failing, earlier⟩
    · rintro ⟨fails_n, earlier_n⟩
      rcases Nat.lt_trichotomy i n with less | rfl | more
      · exact absurd (failing.symm.trans (earlier_n i less)) nofun
      · rfl
      · exact absurd (fails_n.symm.trans (earlier n more)) nofun

theorem setOfByte_number {b : Byte} {n : SetId} (h : b.toNat = n.val) : setOfByte b = some n := by
  unfold setOfByte
  rw [dif_pos (h ▸ n.isLt)]
  exact congrArg some (Fin.ext h)

theorem setOfByte_outside {b : Byte} (h : 16 ≤ b.toNat) : setOfByte b = none := dif_neg (Nat.not_lt.2 h)

/-- Settles O12: the four outcomes of the checks in their order, and what each named position says. -/
theorem writeSetIsCheckedInOrder : Obligations.WriteSetIsCheckedInOrder := by
  refine ⟨fun head b f s atOnce => ⟨fun noKey => ?_, fun key outside => ?_, fun position key inside failing => ?_,
    fun n key number passes => ?_⟩, fun f => ?_⟩
  · exact congrArg _ (State.request_repliedWith (time := s.time) atOnce (needsKey_inactive noKey))
  · refine congrArg _ (State.request_repliedWith (time := s.time) atOnce ((needsKey_active key).trans ?_))
    rw [setOfByte_outside outside]
    rfl
  · refine congrArg _ (State.request_repliedWith (time := s.time) atOnce ((needsKey_active key).trans ?_))
    rw [setOfByte_number (n := ⟨b.toNat, inside⟩) rfl, failing]
    rfl
  · refine congrArg _ (State.request_unanswered atOnce ((needsKey_active key).trans ?_))
    rw [setOfByte_number number, passes]
    rfl
  · rw [setFields_firstFailing]
    exact namedPosition_iff rfl (by simp [SetFields.ranges, inRange, Nat.succ_le_iff])

end Sys2Proof.Machine
end

section
/-! PROOFS. The completion of a Write Set (O13). -/

namespace Sys2Proof.Machine

/-- R51: the check word rule, as the sum of the words. -/
theorem checkWordRule_iff (words : List Word16) :
    checkWordRule words = true ↔ (words.map BitVec.toNat).sum % 65536 = 65535 := decide_eq_true_iff

theorem checkWordRule_eq_false_iff (words : List Word16) :
    checkWordRule words = false ↔ (words.map BitVec.toNat).sum % 65536 ≠ 65535 := decide_eq_false_iff_not

namespace Store

variable {st : Store} {k : FeederId} {n : SetId}

/-- R64: a map entry that names a VALID set. -/
theorem resolved_of_valid (entry : st.entryOf k = some n) (record : (st.sets[n]).presents = .valid) :
    st.resolved k = ⟨st.feed.get k, some n, .none⟩ := by
  simp only [resolved, bindingFor, entry, record]

/-- R64: a map entry that names an INVALID set. -/
theorem resolved_of_invalid (entry : st.entryOf k = some n) (record : (st.sets[n]).presents = .invalid) :
    st.resolved k = ⟨st.feed.get k, none, .setInvalid⟩ := by
  simp only [resolved, bindingFor, entry, record]

end Store

namespace State

variable {s t : State} {ks : List FeederId} {n : SetId} {r : StoredRecord SetFields} {k : FeederId}

/-- R198, R199: the request under execution is answered. -/
theorem reply_slot {kind tag : Byte} (payload : List Byte) (h : s.link.executing = some ⟨kind, tag⟩) :
    (s.reply payload).link.slot = some ⟨replyKind kind, tag, payload⟩ := by
  rw [reply, Link.reply, h]

/-- Resolutions change the bindings and counts of the store and nothing else of it. -/
theorem Resolves.write (h : Resolves ks s t) : t.store.write = s.store.write := by
  rw [h.store, Store.rebindEach_write]

theorem Resolves.sets (h : Resolves ks s t) : t.store.sets = s.store.sets := by rw [h.store, Store.rebindEach_sets]

theorem Resolves.station (h : Resolves ks s t) : t.store.station = s.store.station := by
  rw [h.store, Store.rebindEach_station]

theorem Resolves.map (h : Resolves ks s t) : t.store.map = s.store.map := by rw [h.store, Store.rebindEach_map]

theorem Resolves.feed (h : Resolves ks s t) : t.store.feed = s.store.feed := by rw [h.store, Store.rebindEach_feed]

/-- Resolutions leave the other blocks alone. -/
theorem Resolves.outside (h : Resolves ks s t) : t.time = s.time ∧ t.front = s.front ∧ t.energy = s.energy := by
  obtain ⟨f, u, frame⟩ := h.frame
  rw [frame]
  exact ⟨rfl, rfl, rfl⟩

/-- R65: the bindings after resolutions. -/
theorem Resolves.binding (h : Resolves ks s t) (j : FeederId) :
    t.store.binding.get j = if j ∈ ks then s.store.resolved j else s.store.binding.get j := by
  rw [h.store, Store.rebindEach_binding]

/-- R53, R54: the sets and the bindings, once a set has been written and the feeders that name it have been resolved. -/
theorem Resolves.setWritten (h : Resolves (s.store.feedersNaming n) (s.setWritten n r) t) :
    t.store.sets[n] = r ∧ (∀ m : SetId, m ≠ n → t.store.sets[m] = s.store.sets[m]) ∧
    (∀ j, s.store.entryOf j ≠ some n → t.store.binding.get j = s.store.binding.get j) ∧
    ∀ j, s.store.entryOf j = some n → t.store.binding.get j = (s.store.setRecord n r).resolved j := by
  refine ⟨?_, fun m other => ?_, fun j entry => ?_, fun j entry => ?_⟩
  · rw [h.store, Store.rebindEach_sets]
    exact s.store.setRecord_sets_self n r
  · rw [h.store, Store.rebindEach_sets]
    exact s.store.setRecord_sets_other r other
  · rw [h.binding, if_neg (mt Store.mem_feedersNaming.1 entry)]
    rfl
  · rw [h.binding, if_pos (Store.mem_feedersNaming.2 entry)]
    rfl

end State

/-- Settles O13: a read-back passes or fails, and each completion resolves the feeders that name the set. -/
theorem setWriteCompletes : Obligations.SetWriteCompletes := by
  intro n f readBack due kind tag s writing expired executing
  have completes : exec (.setWriteCompletion readBack) s = .next (s.completeSet n f readBack) := by
    simp only [exec, execSetWriteCompletion, writing, State.atExpiry_due _ expired]
  by_cases passes : readBack = f ∧ checkWordRule readBack.toList = true
  · obtain ⟨rfl, check⟩ := passes
    obtain ⟨t, completed, resolves, -⟩ := s.completeSet_passed n check
    obtain ⟨time, front, energy⟩ := resolves.outside
    obtain ⟨written, others, free, named⟩ := resolves.setWritten
    refine ⟨_, completes.trans (congrArg _ completed), resolves.write, State.reply_executing _ t, resolves.station,
      resolves.map, resolves.feed, time, front, energy, others, free, fun _ _ => ⟨written, fun k entry => ?_, ?_⟩,
      fun fails => ?_⟩
    · exact (named k entry).trans (Store.resolved_of_valid entry (by rw [Store.setRecord_sets_self]; rfl))
    · exact State.reply_slot _ (resolves.link ▸ executing)
    · exact absurd ((checkWordRule_iff _).1 check) (fails.resolve_left (not_not_intro rfl))
  · obtain ⟨t, completed, resolves⟩ := s.completeSet_failed n passes
    obtain ⟨time, front, energy⟩ := resolves.outside
    obtain ⟨written, others, free, named⟩ := resolves.setWritten
    refine ⟨_, completes.trans (congrArg _ completed), resolves.write, State.reply_executing _ t, resolves.station,
      resolves.map, resolves.feed, time, front, energy, others, free, fun same sum => ?_,
      fun _ => ⟨written, fun k entry => ?_, ?_⟩⟩
    · exact absurd ⟨same, (checkWordRule_iff _).2 (same ▸ sum)⟩ passes
    · exact (named k entry).trans (Store.resolved_of_invalid entry (by rw [Store.setRecord_sets_self]; rfl))
    · exact State.reply_slot _ (resolves.link ▸ executing)

end Sys2Proof.Machine
end

section
/-! PROOFS. The station record: what its change gives the rectifier, and Write Station Record (O14). -/

namespace Sys2Proof.Machine

/-! ### The stop of the rectifier (R122, R124) -/

/-- R76: an open command leaves its item OPENING. -/
theorem Item.openCommand_state (e : Env) (c : Commander) (i : ItemId) (it : Item) :
    (it.openCommand e c i).state = .opening := by
  unfold openCommand
  split
  · rename_i opening _
    exact opening
  · rfl

/-- R122, R124: what the loss of the station record has done to a rectifier that was running. -/
structure Plant.SettingsStop (e : Env) (p q : Plant) : Prop where
  rect : q.rect = p.rect.stopWith .stopped .settings
  flag : q.unit.attention.rectifier = true
  entry : q.unit.journal.getLast? =
    some ⟨q.unit.nextIndex - 1, e.time.stamp, .rectifier, .rectState, [(p.rect.state.code : Int), 0, 4]⟩
  keeps : (p.item .acb).state = .opened → q.items = p.items
  opens : (p.item .acb).state ≠ .opened → (q.item .acb).state = .opening

namespace Plant

variable {e : Env} {p : Plant}

theorem openIncomer_rect : (p.openIncomer e).rect = p.rect := by
  unfold openIncomer
  split
  · rfl
  · exact openCommand_rect ..

theorem openIncomer_opened (opened : (p.item .acb).state = .opened) : p.openIncomer e = p := if_pos opened

theorem openIncomer_opening (notOpened : (p.item .acb).state ≠ .opened) :
    ((p.openIncomer e).item .acb).state = .opening := by
  have commands : (Commander.rectifier).mayCommand .opening .acb = true := rfl
  rw [openIncomer, if_neg notOpened, openCommand, if_pos commands, item_setItem, if_pos rfl]
  exact Item.openCommand_state ..

/-- R124: a running rectifier stops when the station record is lost. -/
theorem rectSettingsLost_running (runs : p.rect.state.running = true) : p.SettingsStop e (p.rectSettingsLost e) := by
  let stopped : Plant := { p with rect := p.rect.stopWith .stopped .settings }
  have stops : p.rectSettingsLost e = ((stopped.openIncomer e).post e .rectifier .rectState
      [(p.rect.state.code : Int), 0, 4]).raise e .rectifier := if_pos runs
  rw [stops]
  refine ⟨openIncomer_rect, ?_, ?_, fun opened => ?_, fun notOpened => ?_⟩
  · exact (JournalUnit.raise_attention _ .rectifier .rectifier).trans (if_pos rfl)
  · simp only [raise_unit, post_unit, JournalUnit.raise_journal, JournalUnit.raise_nextIndex, JournalUnit.post_last,
      JournalUnit.post_nextIndex, add_sub_cancel_right]
  · show (stopped.openIncomer e).items = stopped.items
    rw [openIncomer_opened (p := stopped) opened]
  · exact openIncomer_opening (p := stopped) notOpened

theorem rectSettingsLost_atRest (rests : p.rect.state.running = false) : (p.rectSettingsLost e).rect = p.rect := by
  rw [rectSettingsLost, if_neg (by simp [rests])]

end Plant

namespace State

variable {s : State}

/-- R61, R124: the station record presents nothing any more. -/
theorem presentStation_lost (lost : s.store.stationFields = none) :
    s.presentStation = s.onPlant (fun e p => (p.supplySettings e).rectSettingsLost e) := by
  have env : s.env.store.stationFields = none := lost
  unfold presentStation onPlant
  dsimp only
  rw [env]

/-- R61, R131: the station record presents new contents. -/
theorem presentStation_valid {f : StationFields} (valid : s.store.stationFields = some f) :
    s.presentStation = s.onPlant (fun e p => (p.supplySettings e).rectNewSettings f) := by
  have env : s.env.store.stationFields = some f := valid
  unfold presentStation onPlant
  dsimp only
  rw [env]

/-- R57, R59: a station record found INVALID leaves the rectifier to R124; before it the phase tracker and the journal
and alarm unit alone have heard of it. -/
theorem loseStation (reason : Nat) (before : Bool) (lost : s.store.stationFields = none) : ∃ tracker unit,
    ((s.postRecordInvalid 16 reason 0).settingsCondition before).presentStation =
      s.onPlant (fun e p => { p with tracker := tracker, unit := unit }.rectSettingsLost e) := by
  rw [presentStation_lost (by exact lost)]
  exact ⟨_, _, rfl⟩

/-- R59, R131: a Write Station Record whose read-back matches. -/
theorem completeStation_passed {fields : StationFields} (check : checkWordRule fields.toList = true) :
    ∃ p, s.completeStation fields fields =
        State.reply (okReply []) { s.stationWritten ⟨.valid, some fields⟩ with plant := p } ∧
      p.rect.reference = fields.vref.toNat := by
  unfold completeStation
  simp only [check, decide_true, Bool.true_and, if_true]
  rw [presentStation_valid (f := fields) (by rfl)]
  exact ⟨_, rfl, rfl⟩

/-- R59, R124: a Write Station Record whose read-back fails. -/
theorem completeStation_failed {fields readBack : StationFields}
    (fails : ¬ (readBack = fields ∧ checkWordRule readBack.toList = true)) : ∃ tracker unit,
    s.completeStation fields readBack = State.reply (refusal .storeFail)
      ((s.stationWritten ⟨.invalid, some readBack⟩).onPlant
        (fun e p => { p with tracker := tracker, unit := unit }.rectSettingsLost e)) := by
  have failed : (decide (readBack = fields) && checkWordRule readBack.toList) = false := by
    rw [← Bool.not_eq_true, Bool.and_eq_true, decide_eq_true_eq]
    exact fails
  obtain ⟨tracker, unit, lost⟩ :=
    loseStation (s := s.stationWritten ⟨.invalid, some readBack⟩) 3 s.store.settingsInvalid rfl
  refine ⟨tracker, unit, ?_⟩
  unfold completeStation
  rw [failed, ← lost]
  rfl

end State

/-! ### Write Station Record (R59) -/

/-- Settles O14: the checks in their order, the completion that passes and the one that fails, and what each named
position says. -/
theorem stationRecordIsWritten : Obligations.StationRecordIsWritten := by
  refine ⟨fun head f s atOnce => ⟨fun noKey => ?_, fun position key failing => ?_, fun key passes => ?_⟩,
    fun f readBack due kind tag s writing expired executing => ?_, fun f => ?_⟩
  · exact congrArg _ (State.request_repliedWith (time := s.time) atOnce (needsKey_inactive noKey))
  · refine congrArg _ (State.request_repliedWith (time := s.time) atOnce ((needsKey_active key).trans ?_))
    rw [failing]
    rfl
  · refine congrArg _ (State.request_unanswered atOnce ((needsKey_active key).trans ?_))
    rw [passes]
    rfl
  · have completes : exec (.stationRecordWriteCompletion readBack) s = .next (s.completeStation f readBack) := by
      simp only [exec, execStationRecordWriteCompletion, writing, State.atExpiry_due _ expired]
    by_cases passes : readBack = f ∧ checkWordRule readBack.toList = true
    · obtain ⟨rfl, check⟩ := passes
      obtain ⟨p, completed, reference⟩ := State.completeStation_passed (s := s) check
      refine ⟨_, completes.trans (congrArg _ completed), State.reply_executing _ _, rfl, rfl, rfl,
        fun _ _ => ⟨rfl, reference, State.reply_slot _ executing⟩, fun fails => ?_⟩
      exact absurd ((checkWordRule_iff _).1 check) (fails.resolve_left (not_not_intro rfl))
    · obtain ⟨tracker, unit, completed⟩ := State.completeStation_failed (s := s) passes
      refine ⟨_, completes.trans (congrArg _ completed), State.reply_executing _ _, rfl, rfl, rfl, fun same sum => ?_,
        fun _ => ⟨rfl, fun runs => ?_, State.reply_slot _ executing⟩⟩
      · exact absurd ⟨same, (checkWordRule_iff _).2 (same ▸ sum)⟩ passes
      · have stopped := (Plant.rectSettingsLost_running (e := (s.stationWritten ⟨.invalid, some readBack⟩).env)
          (p := { s.plant with tracker := tracker, unit := unit }) runs).rect
        exact ⟨congrArg Rectifier.state stopped, congrArg Rectifier.stopCause stopped⟩
  · rw [stationFields_firstFailing]
    exact namedPosition_iff rfl (by simp [StationFields.ranges, inRange, Nat.succ_le_iff, and_assoc])

end Sys2Proof.Machine
end

section
/-! PROOFS. The map and the feed states (O15, O17). -/

namespace Sys2Proof.Machine

/-! ### The operands of the map requests (R62, R63) -/

/-- 3.1: a feed state's code names it. -/
theorem ofCode_code (f : FeedState) : FeedState.ofCode f.code = some f := by cases f <;> rfl

/-- R63: no code above 3 names a feed state. -/
theorem ofCode_outside {n : Nat} (h : 3 < n) : FeedState.ofCode n = none := by
  obtain ⟨m, rfl⟩ := Nat.exists_eq_add_of_le' (Nat.succ_le_of_lt h)
  rfl

/-- R63: a code above 3 is taken as UNKNOWN. -/
theorem feedStateOfByte_eq {b : Byte} {f : FeedState} (h : f.code = if 3 < b.toNat then 3 else b.toNat) :
    feedStateOfByte b = f := by
  unfold feedStateOfByte
  split at h
  · rename_i above
    rw [ofCode_outside above]
    cases f with
    | unknown => rfl
    | double | single | extended => cases h
  · rw [← h, ofCode_code]
    rfl

/-- R62 step 4: a byte that carries neither a set nor NONE. -/
theorem mapValueOfByte_outside {c : Byte} (above : 16 ≤ c.toNat) (below : c.toNat < 255) : mapValueOfByte c = none := by
  have value : c ≠ 0xFF := by
    rintro rfl
    exact absurd below (by decide)
  rw [mapValueOfByte, if_neg value, setOfByte_outside above]
  rfl

/-- R62 step 4: a byte that carries a set or NONE. -/
theorem mapValueOfByte_carried {c : Byte} (h : c.toNat < 16 ∨ c.toNat = 255) : ∃ v : Option SetId,
    mapValueOfByte c = some v ∧ v.map Fin.val = if c.toNat = 255 then none else some c.toNat := by
  rcases h with number | absent
  · have value : c ≠ 0xFF := by
      rintro rfl
      exact absurd number (by decide)
    refine ⟨some ⟨c.toNat, number⟩, ?_, ?_⟩
    · rw [mapValueOfByte, if_neg value, setOfByte_number (n := ⟨c.toNat, number⟩) rfl]
      rfl
    · rw [if_neg (by omega)]
      rfl
  · have value : c = 0xFF := BitVec.eq_of_toNat_eq absent
    exact ⟨none, if_pos value, (if_pos absent).symm⟩

/-- R204: every feeder's request is refused with BAD_VALUE, and so is one that names none. -/
theorem withFeeder_refused {serve : FeederId → State → Served} {b : Byte} {s : State}
    (h : ∀ k, serve k s = answered (refusal .badValue) s) : withFeeder b serve s = answered (refusal .badValue) s := by
  unfold withFeeder
  split
  · exact h _
  · rfl

namespace State

variable {s t : State} {k : FeederId}

/-- R198: answering a request that was taken at once has filled the slot of a link that it leaves alone otherwise. -/
theorem link_answered {x : Executing} (atOnce : s.link.takesAtOnce = true)
    (link : t.link = { s.link with executing := some x }) (reply : LinkFrame) :
    { t.link with slot := some reply, executing := none } = { s.link with slot := some reply } := by
  rw [link, ← Link.executing_of_takesAtOnce atOnce]

/-- R65: a feeder that is resolved has the binding that is given now; no other binding changes. -/
theorem Resolves.one (h : Resolves [k] s t) : t.store.binding.get k = t.store.resolved k ∧
    ∀ j, j ≠ k → t.store.binding.get j = s.store.binding.get j := by
  refine ⟨?_, fun j other => ?_⟩
  · rw [h.binding, if_pos (List.mem_singleton.2 rfl), h.store, Store.rebindEach_resolved]
  · rw [h.binding, if_neg (mt List.mem_singleton.1 other)]

/-- R62: one entry of the map has been written. -/
theorem Resolves.entryWritten {f : FeedState} {x : Option SetId} (h : Resolves [k] (s.entryWritten k f x) t)
    (j : FeederId) (g : FeedState) :
    (t.store.map.get j).get g = if j = k ∧ g = f then x else (s.store.map.get j).get g := by
  rw [h.map]
  refine (Store.setEntry_map s.store k j f g x).trans ?_
  simp only [eq_comm]

end State

/-! ### Write Map Entry (R62) -/

/-- Settles O15: the checks in their order, and the completion, whose read-back matches or not. -/
theorem mapEntryIsWritten : Obligations.MapEntryIsWritten := by
  refine ⟨fun head a b c s atOnce => ⟨fun noKey => ?_, fun key wrong => ?_, fun k f key feeder feed value => ?_⟩,
    fun k f value readBack due kind tag s writing expired executing => ?_⟩
  · exact congrArg _ (State.request_repliedWith (time := s.time) atOnce (needsKey_inactive noKey))
  · refine congrArg _ (State.request_repliedWith (time := s.time) atOnce ((needsKey_active key).trans ?_))
    rcases wrong with noFeeder | noFeed | noValue
    · exact withFeeder_outside noFeeder
    · refine withFeeder_refused fun k => ?_
      rw [ofCode_outside noFeed]
    · refine withFeeder_refused fun k => ?_
      rw [mapValueOfByte_outside noValue.1 noValue.2]
      split <;> rfl
  · obtain ⟨v, carried, number⟩ := mapValueOfByte_carried value
    refine ⟨v, number, congrArg _ (State.request_unanswered atOnce ((needsKey_active key).trans ?_))⟩
    rw [withFeeder_number feeder, feed, ofCode_code, carried]
    rfl
  · have completes : exec (.mapEntryWriteCompletion readBack) s = .next (s.completeEntry k f value readBack) := by
      simp only [exec, execMapEntryWriteCompletion, writing, State.atExpiry_due _ expired]
    by_cases passes : readBack = value
    · subst passes
      obtain ⟨t, completed, resolves⟩ := s.completeEntry_passed k f readBack
      obtain ⟨time, front, energy⟩ := resolves.outside
      obtain ⟨bound, others⟩ := resolves.one
      refine ⟨_, completes.trans (congrArg _ completed), resolves.write, State.reply_executing _ t, resolves.sets,
        resolves.station, resolves.feed, time, front, energy, ?_, bound, others, ?_⟩
      · rw [if_pos rfl]
        exact resolves.entryWritten
      · rw [if_pos rfl]
        refine (State.reply_slot _ (resolves.link ▸ executing)).trans ?_
        cases readBack <;> rfl
    · obtain ⟨t, completed, resolves⟩ := s.completeEntry_failed k f passes
      obtain ⟨time, front, energy⟩ := resolves.outside
      obtain ⟨bound, others⟩ := resolves.one
      refine ⟨_, completes.trans (congrArg _ completed), resolves.write, State.reply_executing _ t, resolves.sets,
        resolves.station, resolves.feed, time, front, energy, ?_, bound, others, ?_⟩
      · rw [if_neg passes]
        exact resolves.entryWritten
      · rw [if_neg passes]
        exact State.reply_slot _ (resolves.link ▸ executing)

/-! ### Set Feed State (R63) -/

/-- Settles O17: a feeder outside 1..6, a feed state that is the present one, and one that is a change. -/
theorem setFeedStateResolvesTheFeeder : Obligations.SetFeedStateResolvesTheFeeder := by
  refine fun head a b s atOnce => ⟨fun outside => ?_, fun k f number code => ⟨fun same => ?_, fun changed => ?_⟩⟩
  · exact congrArg _ (State.request_repliedWith (time := s.time) atOnce (withFeeder_outside outside))
  · refine congrArg _ (State.request_repliedWith (time := s.time) atOnce ((withFeeder_number number).trans ?_))
    rw [feedStateOfByte_eq code, State.applyFeedState_same (by exact same), leBytes_number number]
    rfl
  · have applied := State.resolves_applyFeedState (s := s.begin head.pins RequestKind.setFeedState.code head.tag) changed
    obtain ⟨time, front, energy⟩ := applied.outside
    obtain ⟨bound, others⟩ := applied.one
    have answered := State.request_answered (payload := [a, b]) (serve := serveSetFeedState a b) atOnce
      (withFeeder_number number) (by rw [feedStateOfByte_eq code, applied.link]; rfl)
    rw [feedStateOfByte_eq code, leBytes_number number] at answered
    refine ⟨_, congrArg Host.Outcome.next answered, applied.feed, bound, others, applied.sets, applied.station, applied.map,
      applied.write, time, front, energy, State.link_answered atOnce applied.link _⟩

end Sys2Proof.Machine
end

section
/-! PROOFS. Erase Set and the background scan (O16). -/

namespace Sys2Proof.Machine

theorem RectState.running_iff (r : RectState) :
    r.running = true ↔ r = .syncing ∨ r = .blocked ∨ r.firing = true := by
  cases r <;> decide

namespace State

variable {s t : State} {n m : SetId} {found : Option FoundRecord}

/-! ### The visit to a set (R57) -/

theorem Resolves.rect {ks : List FeederId} (h : Resolves ks s t) : t.plant.rect = s.plant.rect := by
  obtain ⟨f, u, frame⟩ := h.frame
  rw [frame]

/-- R57: contents that pass the check stay, and contents that fail it are INVALID as they were found. -/
theorem visitSet_record {f : SetFields} (record : s.store.sets[n] = ⟨.valid, some f⟩) :
    (s.visitSet n found).store.sets[n] =
      if ((foundSet n found f).toList.map BitVec.toNat).sum % 65536 = 65535 then ⟨.valid, some f⟩
      else ⟨.invalid, some (foundSet n found f)⟩ := by
  rcases s.visitSet_cases n found with ⟨same, passes⟩ | ⟨stored, valid, fails, invalid⟩
  · rw [same, if_pos ((checkWordRule_iff _).1 (passes f record)), record]
  · cases record.symm.trans valid
    rw [invalid.sets, if_neg ((checkWordRule_eq_false_iff _).1 fails)]
    exact s.store.setRecord_sets_self n _

theorem visitSet_sets_other (other : m ≠ n) : (s.visitSet n found).store.sets[m] = s.store.sets[m] := by
  rcases s.visitSet_cases n found with ⟨same, -⟩ | ⟨stored, -, -, invalid⟩
  · rw [same]
  · rw [invalid.sets]
    exact s.store.setRecord_sets_other _ other

theorem visitSet_unverified (record : (s.store.sets[n]).state ≠ .valid) : s.visitSet n found = s := by
  rcases s.visitSet_cases n found with ⟨same, -⟩ | ⟨stored, valid, -⟩
  · exact same
  · exact absurd (congrArg StoredRecord.state valid) record

theorem visitSet_elsewhere : (s.visitSet n found).store.station = s.store.station ∧
    (s.visitSet n found).plant.rect = s.plant.rect := by
  rcases s.visitSet_cases n found with ⟨same, -⟩ | ⟨stored, -, -, invalid⟩
  · rw [same]
    exact ⟨rfl, rfl⟩
  · exact ⟨invalid.station, invalid.rect⟩

/-! ### The visit to the station record (R57, R124) -/

theorem visitStation_record {f : StationFields} (record : s.store.station = ⟨.valid, some f⟩) :
    (s.visitStation found).store.station =
      if ((foundStation found f).toList.map BitVec.toNat).sum % 65536 = 65535 then ⟨.valid, some f⟩
      else ⟨.invalid, some (foundStation found f)⟩ := by
  rcases s.visitStation_cases found with ⟨same, passes⟩ | ⟨stored, valid, fails, invalid⟩
  · rw [same, if_pos ((checkWordRule_iff _).1 (passes f record)), record]
  · cases record.symm.trans valid
    rw [invalid.store, if_neg ((checkWordRule_eq_false_iff _).1 fails)]

theorem visitStation_sets : (s.visitStation found).store.sets = s.store.sets := by
  rcases s.visitStation_cases found with ⟨same, -⟩ | ⟨stored, -, -, invalid⟩
  · rw [same]
  · rw [invalid.store]

theorem visitStation_unverified (record : s.store.station.state ≠ .valid) : s.visitStation found = s := by
  rcases s.visitStation_cases found with ⟨same, -⟩ | ⟨stored, valid, -⟩
  · exact same
  · exact absurd (congrArg StoredRecord.state valid) record

theorem visitStation_passes {f : StationFields} (record : s.store.station = ⟨.valid, some f⟩)
    (passes : checkWordRule (foundStation found f).toList = true) : s.visitStation found = s := by
  simp only [visitStation, record, passes, if_true]

theorem visitStation_fails {f : StationFields} (record : s.store.station = ⟨.valid, some f⟩)
    (fails : checkWordRule (foundStation found f).toList = false) : ∃ tracker unit, s.visitStation found =
      { s with store := { s.store with station := ⟨.invalid, some (foundStation found f)⟩ } }.onPlant
        (fun e p => { p with tracker := tracker, unit := unit }.rectSettingsLost e) := by
  obtain ⟨tracker, unit, lost⟩ := loseStation (s := { s with
    store := { s.store with station := ⟨.invalid, some (foundStation found f)⟩ } }) 2 s.store.settingsInvalid rfl
  refine ⟨tracker, unit, ?_⟩
  rw [← lost]
  simp only [visitStation, record, fails, Bool.false_eq_true, if_false]

/-! ### The visit (R57) -/

/-- R57: what a visit leaves alone wherever the scan stands. -/
structure Visited (s t : State) : Prop where
  scan : t.store.scan = s.store.scan
  scanDue : t.store.scanDue = s.store.scanDue
  map : t.store.map = s.store.map
  feed : t.store.feed = s.store.feed
  write : t.store.write = s.store.write
  time : t.time = s.time
  front : t.front = s.front
  energy : t.energy = s.energy
  link : t.link = s.link

theorem Visited.refl (s : State) : s.Visited s := ⟨rfl, rfl, rfl, rfl, rfl, rfl, rfl, rfl, rfl⟩

theorem visited (found : Option FoundRecord) (s : State) : s.Visited (s.visit found) := by
  rcases s.scan_cases with ⟨n, set⟩ | station
  · rw [visit_set set]
    rcases s.visitSet_cases n found with ⟨same, -⟩ | ⟨stored, -, -, invalid⟩
    · rw [same]
      exact .refl s
    · obtain ⟨time, front, energy⟩ := invalid.outside
      have scan := (congrArg Store.scan invalid.store).trans (Store.rebindEach_scan ..)
      have scanDue := (congrArg Store.scanDue invalid.store).trans (Store.rebindEach_scanDue ..)
      exact ⟨scan, scanDue, invalid.map, invalid.feed, invalid.write, time, front, energy, invalid.link⟩
  · rw [visit_station station]
    rcases s.visitStation_cases found with ⟨same, -⟩ | ⟨stored, valid, fails, -⟩
    · rw [same]
      exact .refl s
    · obtain ⟨tracker, unit, lost⟩ := visitStation_fails valid fails
      rw [lost]
      exact ⟨rfl, rfl, rfl, rfl, rfl, rfl, rfl, rfl, rfl⟩

theorem visit_sets_other (other : n.val ≠ s.store.scan.val) : (s.visit found).store.sets[n] = s.store.sets[n] := by
  rcases s.scan_cases with ⟨m, set⟩ | station
  · rw [visit_set set]
    exact visitSet_sets_other fun same => other (same ▸ set.symm)
  · rw [visit_station station, visitStation_sets]

theorem visit_station_unverified (away : s.store.scan.val < 16 ∨ s.store.station.state ≠ .valid) :
    (s.visit found).store.station = s.store.station ∧ (s.visit found).plant.rect = s.plant.rect := by
  rcases s.scan_cases with ⟨m, set⟩ | station
  · rw [visit_set set]
    exact visitSet_elsewhere
  · rw [visit_station station, visitStation_unverified (away.resolve_left (by omega))]
    exact ⟨rfl, rfl⟩

/-- R124: a rectifier at rest, or one whose station record still passes, does not hear of the visit. -/
theorem visitStation_rect {f : StationFields} (record : s.store.station = ⟨.valid, some f⟩)
    (quiet : checkWordRule (foundStation found f).toList = true ∨ s.plant.rect.state.running = false) :
    (s.visitStation found).plant.rect = s.plant.rect := by
  cases check : checkWordRule (foundStation found f).toList with
  | true => rw [visitStation_passes record check]
  | false =>
    obtain ⟨tracker, unit, lost⟩ := visitStation_fails record check
    have rests := quiet.resolve_left (by simp [check])
    rw [lost]
    exact Plant.rectSettingsLost_atRest rests

/-- R122, R124: the visit that loses the station record of a running rectifier. -/
theorem visitStation_stops {f : StationFields} (record : s.store.station = ⟨.valid, some f⟩)
    (fails : checkWordRule (foundStation found f).toList = false) (runs : s.plant.rect.state.running = true) :
    ∃ store tracker unit, Plant.SettingsStop ⟨s.time, s.front, store⟩
      { s.plant with tracker := tracker, unit := unit } (s.visitStation found).plant := by
  obtain ⟨tracker, unit, lost⟩ := visitStation_fails record fails
  rw [lost]
  exact ⟨_, tracker, unit, Plant.rectSettingsLost_running runs⟩

end State

/-- R56: an Erase Set that is taken. -/
theorem eraseSet_answered {head : RequestHead} {b : Byte} {n : SetId} {s : State} (atOnce : s.link.takesAtOnce = true)
    (key : head.pins.engKey = true) (number : b.toNat = n.val) (free : s.store.inUse[n] = 0) :
    ∃ t, exec (.eraseSet head b) s = .next t ∧
      t.store.sets = s.store.sets.set n ⟨.empty, none⟩ ∧ t.store.station = s.store.station ∧
      t.store.map = s.store.map ∧ t.store.feed = s.store.feed ∧ t.store.write = s.store.write ∧
      t.time = s.time ∧ t.front = s.front ∧ t.energy = s.energy ∧
      t.link = { s.link with slot := some ⟨0x92, head.tag, [0, BitVec.ofNat 8 n.val]⟩ } := by
  have erased := State.resolves_eraseSet n (s.begin head.pins RequestKind.eraseSet.code head.tag)
  obtain ⟨time, front, energy⟩ := erased.outside
  have served : serveEraseSet b (s.begin head.pins RequestKind.eraseSet.code head.tag) =
      ((s.begin head.pins RequestKind.eraseSet.code head.tag).eraseSet n, some (okReply (leBytes 1 n.val))) := by
    refine (needsKey_active key).trans ?_
    rw [setOfByte_number number]
    exact if_neg (by simp [free])
  have answered := State.request_answered (payload := [b]) atOnce served (by rw [erased.link]; rfl)
  exact ⟨_, congrArg Host.Outcome.next answered, erased.sets, erased.station, erased.map, erased.feed, erased.write,
    time, front, energy, State.link_answered atOnce erased.link _⟩

/-- Settles O16: the four outcomes of an Erase Set, and the visit to the record at the scan position. -/
theorem setsLeaveTheStore : Obligations.SetsLeaveTheStore := by
  refine ⟨fun head b s atOnce => ⟨fun noKey => ?_, fun key outside => ?_, fun n key number used => ?_,
    fun n => eraseSet_answered atOnce⟩, fun found s due => ?_⟩
  · exact congrArg _ (State.request_repliedWith (time := s.time) atOnce (needsKey_inactive noKey))
  · refine congrArg _ (State.request_repliedWith (time := s.time) atOnce ((needsKey_active key).trans ?_))
    rw [setOfByte_outside outside]
    rfl
  · refine congrArg _ (State.request_repliedWith (time := s.time) atOnce ((needsKey_active key).trans ?_))
    rw [setOfByte_number number]
    exact if_pos used
  · obtain ⟨scan, scanDue, map, feed, write, time, front, energy, link⟩ := s.visited found
    refine ⟨_, congrArg Host.Outcome.next (State.atExpiry_due _ due), congrArg (· + 1) scan, congrArg (· + 80) scanDue,
      map, feed, write, time, front, energy, link, fun n => State.visit_sets_other, fun n f set record => ?_,
      fun n set record => ?_, fun f station record => ?_, State.visit_station_unverified, fun f station record => ?_⟩
    · rw [State.visit_set set.symm]
      exact State.visitSet_record record
    · rw [State.visit_set set.symm, State.visitSet_unverified record]
      rfl
    · rw [State.visit_station station]
      exact State.visitStation_record record
    · rw [State.visit_station station]
      refine ⟨fun quiet => ?_, fun fails runs => ?_⟩
      · refine State.visitStation_rect record (quiet.imp (checkWordRule_iff _).2 fun rests => ?_)
        rwa [← RectState.running_iff, Bool.not_eq_true] at rests
      · obtain ⟨store, tracker, unit, stops⟩ := State.visitStation_stops record
          ((checkWordRule_eq_false_iff _).2 fails) ((RectState.running_iff _).2 runs)
        exact ⟨stops.rect, stops.flag, stops.entry, stops.keeps, stops.opens⟩

end Sys2Proof.Machine
end

section
/-! PROOFS. The principle of the plant: a property of the plant alone that the small changes of its blocks keep is kept
by every command. The laws of the switchgear, the feeders, the records and the journal are such properties. -/

namespace Sys2Proof.Machine

/-! ### The changes of the plant that no event of `Kept` is -/

/-- What the requests and the link do to the journal and alarm unit beside posting, raising and latching (R179, R182,
R186, R188, R189). -/
inductive JournalUnit.Changes (e : Env) (u : JournalUnit) : JournalUnit → Prop
  | clearAttention : Changes e u u.clearAttention
  | setMask (mask : FlagSet) : Changes e u (u.setMask mask)
  | release (n : Nat) : Changes e u (u.release n)
  | acknowledge (live : AlarmFlags) : Changes e u (u.acknowledge live)
  | holdoffExpires : Changes e u (u.holdoffExpires e)
  | beginNotice : Changes e u (JournalUnit.tryNotice e { u with notice := none })

/-- What the record requests and the hold timer do to the fault record store (R169, R170, R171). -/
inductive RecordStore.Changes (e : Env) (r : RecordStore) : RecordStore → Prop
  | readPiece (n : SlotId) (last : Bool) : Changes e r (r.readPiece e n last)
  | freeSlot (n : SlotId) : Changes e r (r.freeSlot n)
  | releaseHold : Changes e r r.releaseHold

/-- A property of the plant that everything the part does to its plant keeps. -/
structure PlantLaw (P : Option FeederId → Plant → Prop) : Prop where
  kept : ∀ e : Env, Kept e P
  unit : ∀ {e : Env} {p : Plant} {u : JournalUnit}, p.unit.Changes e u → P none p → P none { p with unit := u }
  records : ∀ {e : Env} {p : Plant} {r : RecordStore}, p.records.Changes e r → P none p →
    P none { p with records := r }
  powerOn : ∀ (e : Env) (reference : Nat),
    P none ((Plant.atReset reference RecordStore.reset JournalUnit.reset).startSupply e)
  warmReset : ∀ (e : Env) (reference : Nat) {p : Plant}, P none p →
    P none ((Plant.atReset reference p.records.afterReset p.unit.afterReset).startSupply e)

/-! ### The pulses of the rectifier (R130, R139) -/

theorem Rectifier.firePulse_only (gate : GateId) (r : Rectifier) : ∃ schedule bursts,
    r.firePulse gate = { r with schedule := schedule, bursts := bursts } := by
  unfold firePulse
  split
  · exact ⟨_, _, rfl⟩
  · split <;> exact ⟨_, _, rfl⟩

theorem Rectifier.endBurst_lawful {e : Env} {pending : List FeederId} (gate : GateId) {r : Rectifier}
    (law : r.lawful e pending) : (r.endBurst gate).lawful e pending := by
  obtain ⟨running, retard, rest⟩ := law
  refine ⟨running, retard, fun quiet => ?_⟩
  obtain ⟨schedule, bursts⟩ := rest quiet
  refine ⟨schedule, fun g => ?_⟩
  simp only [endBurst, Fin.getElem_fin, Vector.getElem_set]
  split
  · rfl
  · exact bursts g

section
variable {e : Env} {P : Option FeederId → Plant → Prop} {x : Option FeederId} {p : Plant}

theorem Kept.firePulse (K : Kept e P) (gate : GateId) (firing : p.rect.state.firing = true) (h : P x p) :
    P x { p with rect := p.rect.firePulse gate } := by
  obtain ⟨schedule, bursts, fired⟩ := p.rect.firePulse_only gate
  rw [fired]
  exact K.rect _ h id (Rectifier.lawful_firing firing firing Iff.rfl)

theorem Kept.endBurst (K : Kept e P) (gate : GateId) (h : P x p) : P x { p with rect := p.rect.endBurst gate } :=
  K.rect _ h id (Rectifier.endBurst_lawful gate)

theorem Kept.postBinding (K : Kept e P) (k : FeederId) (b : Binding) (h : P x p) : P x (p.postBinding e k b) :=
  K.post _ _ _ h

end

namespace PlantLaw

variable {P : Option FeederId → Plant → Prop} (K : PlantLaw P) {s : State}
include K

/-- An event of the plant's blocks. -/
theorem event {f : Env → Plant → Plant} (h : ∀ {e}, Kept e P → ∀ {p}, P none p → P none (f e p))
    (q : P none s.plant) : P none (s.onPlant f).plant := h (K.kept s.env) q

/-! ### The settings store -/

theorem post (source : Source) (kind : Kind) (details : List Int) (q : P none s.plant) :
    P none (s.onPlant (fun e p => p.post e source kind details)).plant := K.event (fun K => K.post _ _ _) q

theorem settingsCondition (before : Bool) (q : P none s.plant) : P none (s.settingsCondition before).plant :=
  K.event (fun K => K.latchIfNew _ _ _) q

theorem resolve (k : FeederId) (q : P none s.plant) : P none (s.resolve k).plant := by
  unfold State.resolve
  dsimp only
  split
  · exact q
  · exact K.event (fun K _ h => K.cutAttempts _ (K.latchIfNew _ _ _ (K.postBinding _ _ h))) q

theorem resolveNaming (n : SetId) (q : P none s.plant) : P none (s.resolveNaming n).plant :=
  List.foldlRecOn (motive := fun s : State => P none s.plant) _ _ q fun _ q k _ => K.resolve k q

theorem cutNaming (n : SetId) (q : P none s.plant) : P none (s.cutNaming n).plant := by
  refine K.event (fun K _ h => List.foldlRecOn FeederId.all _ h fun p h k _ => ?_) q
  split
  · exact K.cutAttempts k h
  · exact h

theorem presentStation (q : P none s.plant) : P none s.presentStation.plant := by
  refine K.event (fun K _ h => ?_) q
  dsimp only
  split
  · exact K.rectNewSettings _ (K.supplySettings h)
  · exact K.rectSettingsLost (K.supplySettings h)

theorem completeSet (n : SetId) (fields readBack : SetFields) (q : P none s.plant) :
    P none (s.completeSet n fields readBack).plant := by
  unfold State.completeSet
  dsimp only
  split
  · exact K.settingsCondition _ (K.cutNaming _ (K.resolveNaming _ (K.post _ _ _ q)))
  · exact K.settingsCondition _ (K.resolveNaming _ (K.post _ _ _ q))

theorem completeStation (fields readBack : StationFields) (q : P none s.plant) :
    P none (s.completeStation fields readBack).plant := by
  unfold State.completeStation
  dsimp only
  split
  · rw [State.reply_plant]
    exact K.presentStation (K.settingsCondition _ (K.post _ _ _ q))
  · rw [State.reply_plant]
    exact K.presentStation (K.settingsCondition _ (K.post _ _ _ q))

theorem completeEntry (k : FeederId) (f : FeedState) (value readBack : Option SetId) (q : P none s.plant) :
    P none (s.completeEntry k f value readBack).plant := by
  unfold State.completeEntry
  dsimp only
  split <;> exact K.resolve _ (K.post _ _ _ q)

theorem visit (found : Option FoundRecord) (q : P none s.plant) : P none (s.visit found).plant := by
  rcases s.scan_cases with ⟨n, set⟩ | station
  · rw [State.visit_set set, State.visitSet]
    split
    · dsimp only
      split
      · exact q
      · exact K.resolveNaming _ (K.settingsCondition _ (K.post _ _ _ q))
    · exact q
  · rw [State.visit_station station, State.visitStation]
    split
    · dsimp only
      split
      · exact q
      · exact K.presentStation (K.settingsCondition _ (K.post _ _ _ q))
    · exact q

theorem eraseSet (n : SetId) (q : P none s.plant) : P none (s.eraseSet n).plant :=
  K.resolveNaming _ (K.settingsCondition _ (K.post _ _ _ q))

theorem applyFeedState (k : FeederId) (f : FeedState) (q : P none s.plant) : P none (s.applyFeedState k f).plant := by
  unfold State.applyFeedState
  dsimp only
  split
  · exact q
  · exact K.resolve _ (K.post _ _ _ q)

/-! ### The resets -/

theorem postStartUp (q : P none s.plant) : P none s.postStartUp.plant := K.event (fun K _ h => K.post _ _ _ h) q

theorem startConditions (q : P none s.plant) : P none s.startConditions.plant :=
  K.event (fun K _ h => K.latchIfNew _ _ _ (K.latchIfNew _ _ _ (K.latchIfNew _ _ _ h))) q

theorem postStartFallback (q : P none s.plant) : P none s.postStartFallback.plant := by
  unfold State.postStartFallback
  split
  · exact K.post _ _ _ q
  · exact q

theorem postInvalidSets (q : P none s.plant) : P none s.postInvalidSets.plant :=
  List.foldlRecOn (motive := fun s : State => P none s.plant) _ _ q fun _ q _ _ => K.post _ _ _ q

theorem postInvalidRest (cut : Option (FeederId × FeedState)) (q : P none s.plant) :
    P none (s.postInvalidRest cut).plant := by
  have station : P none (if s.store.station.isInvalid then s.postRecordInvalid 16 1 0 else s).plant := by
    split
    · exact K.post _ _ _ q
    · exact q
  unfold State.postInvalidRest
  dsimp only
  split
  · exact K.post _ _ _ station
  · exact station

theorem bindAtStart (k : FeederId) (q : P none s.plant) : P none (s.bindAtStart k).plant :=
  K.event (fun K _ h => K.latchIfNew _ _ _ (K.postBinding _ _ h)) q

theorem startUp (cut : Option (FeederId × FeedState)) (q : P none s.plant) : P none (s.startUp cut).plant := by
  have posted := K.postStartFallback (K.startConditions (K.postStartUp q))
  have condition := K.settingsCondition false (K.postInvalidRest cut (K.postInvalidSets posted))
  exact List.foldlRecOn (motive := fun s : State => P none s.plant) _ _ condition fun _ q k _ => K.bindAtStart k q

theorem powerOnReset (x : ResetInputs) (s : State) : P none (s.powerOn x).plant := by
  rw [State.powerOn, State.resetWith_eq_startUp]
  exact K.startUp _ (K.powerOn _ _)

theorem pinReset (x : ResetInputs) (cause : ResetCause) (q : P none s.plant) : P none (s.warmReset x cause).plant := by
  rw [State.warmReset, State.resetWith_eq_startUp]
  exact K.startUp _ (K.warmReset _ _ q)

end PlantLaw

end Sys2Proof.Machine
end

section
/-! PROOFS. The principle of the plant: what serving each request keeps, and the walk through the commands. -/

namespace Sys2Proof.Machine

section
variable {Q : Plant → Prop} {s : State}

theorem needsRemote_keeps {serve : State → Served} (h : Q (serve s).1.plant) (q : Q s.plant) :
    Q (needsRemote serve s).1.plant := by
  unfold needsRemote
  split
  · exact h
  · exact q

theorem needsKey_keeps {serve : State → Served} (h : Q (serve s).1.plant) (q : Q s.plant) :
    Q (needsKey serve s).1.plant := by
  unfold needsKey
  split
  · exact h
  · exact q

theorem withFeeder_keeps {serve : FeederId → State → Served} {b : Byte} (h : ∀ k, Q (serve k s).1.plant)
    (q : Q s.plant) : Q (withFeeder b serve s).1.plant := by
  unfold withFeeder
  split
  · exact h _
  · exact q

/-- R197, R198: a frame that is offered waits, or is served. -/
theorem State.offer_keeps {pins : Pins} {f : LinkFrame} {serve : State → Served}
    (h : ∀ {s : State}, Q s.plant → Q (serve s).1.plant) (q : Q s.plant) : Q (s.offer pins f serve).plant := by
  unfold offer
  split
  · rw [execute, finish_plant]
    exact h q
  · exact q

theorem State.atExpiry_keeps {expiry : Option Nat} {act : State → State}
    (h : ∀ {s : State}, Q s.plant → Q (act s).plant) (q : Q s.plant) : Q (s.atExpiry expiry act).plant := by
  rcases s.atExpiry_cases expiry act with same | now | next
  · rwa [same]
  · rw [now]; exact h q
  · rw [next]; exact h q

/-! ### Requests that leave the plant alone -/

theorem serveWriteSet_keeps (number : Byte) (fields : SetFields) (q : Q s.plant) :
    Q (serveWriteSet number fields s).1.plant := by
  refine needsKey_keeps ?_ q
  split
  · exact q
  · split <;> exact q

theorem serveReadSet_keeps (number : Byte) (q : Q s.plant) : Q (serveReadSet number s).1.plant := by
  unfold serveReadSet
  split <;> exact q

theorem serveWriteMapEntry_keeps (feeder feedState value : Byte) (q : Q s.plant) :
    Q (serveWriteMapEntry feeder feedState value s).1.plant := by
  refine needsKey_keeps (withFeeder_keeps (fun k => ?_) q) q
  split
  · exact q
  · split <;> exact q

theorem serveWriteStationRecord_keeps (fields : StationFields) (q : Q s.plant) :
    Q (serveWriteStationRecord fields s).1.plant := by
  refine needsKey_keeps ?_ q
  split <;> exact q

theorem serveReadFeeder_keeps (feeder : Byte) (q : Q s.plant) : Q (serveReadFeeder feeder s).1.plant :=
  withFeeder_keeps (fun _ => q) q

theorem serveRestart_keeps (q : Q s.plant) : Q (serveRestart s).1.plant := needsRemote_keeps q q

end

namespace PlantLaw

variable {P : Option FeederId → Plant → Prop} (K : PlantLaw P) {s : State}
include K

/-! ### The settings requests -/

theorem serveEraseSet (number : Byte) (q : P none s.plant) : P none (serveEraseSet number s).1.plant := by
  refine needsKey_keeps ?_ q
  split
  · exact q
  · split
    · exact q
    · exact K.eraseSet _ q

theorem serveSetFeedState (feeder feedState : Byte) (q : P none s.plant) :
    P none (serveSetFeedState feeder feedState s).1.plant := withFeeder_keeps (fun k => K.applyFeedState k _ q) q

/-! ### The station requests -/

theorem serveSetTime (count : Millis) (q : P none s.plant) : P none (serveSetTime count s).1.plant := K.post _ _ _ q

theorem serveClearEnergy (q : P none s.plant) : P none (serveClearEnergy s).1.plant := needsKey_keeps (K.post _ _ _ q) q

theorem serveReadAttention (q : P none s.plant) : P none (serveReadAttention s).1.plant :=
  K.unit (e := s.env) .clearAttention q

theorem serveNoticeMask (mask : Word16) (q : P none s.plant) : P none (serveNoticeMask mask s).1.plant :=
  K.unit (e := s.env) (.setMask _) q

/-! ### The requests of the plant's blocks -/

theorem serveFeederClose (feeder : Byte) (q : P none s.plant) : P none (serveFeederClose feeder s).1.plant := by
  refine needsRemote_keeps (withFeeder_keeps (fun k => ?_) q) q
  split
  · rename_i may
    exact (K.kept s.env).manualClose k may q
  · exact q

theorem serveFeederOpen (feeder : Byte) (q : P none s.plant) : P none (serveFeederOpen feeder s).1.plant := by
  refine needsRemote_keeps (withFeeder_keeps (fun k => ?_) q) q
  split
  · exact K.event (fun K _ => K.manualOpen k) q
  · exact q

theorem serveResetLockout (feeder : Byte) (q : P none s.plant) : P none (serveResetLockout feeder s).1.plant := by
  refine needsRemote_keeps (withFeeder_keeps (fun k => ?_) q) q
  split
  · rename_i may
    simp only [Plant.mayReset, Bool.and_eq_true, decide_eq_true_eq] at may
    obtain ⟨⟨lockedOut, -⟩, -⟩ := may
    exact (K.kept s.env).resetLockout k lockedOut q
  · exact q

theorem serveClearFeederCounters (feeder : Byte) (q : P none s.plant) :
    P none (serveClearFeederCounters feeder s).1.plant :=
  needsKey_keeps (withFeeder_keeps (fun k => K.event (fun K _ => K.clearCounters k) q) q) q

theorem serveRectifierStart (q : P none s.plant) : P none (serveRectifierStart s).1.plant := by
  refine needsRemote_keeps ?_ q
  split
  · exact q
  · rename_i taken
    obtain ⟨record, atRest⟩ := State.startRefusal_none taken
    exact (K.kept s.env).rectStart record atRest q

theorem serveRectifierStop (q : P none s.plant) : P none (serveRectifierStop s).1.plant :=
  needsRemote_keeps (K.event (fun K _ => K.requestStop) q) q

theorem serveSetVoltageReference (voltage : Word16) (q : P none s.plant) :
    P none (serveSetVoltageReference voltage s).1.plant := (K.kept s.env).rect _ q id id

theorem serveReleaseEarthing (q : P none s.plant) : P none (serveReleaseEarthing s).1.plant := by
  refine needsRemote_keeps ?_ q
  split
  · exact K.event (fun K _ => K.releaseEarthing) q
  · exact q

theorem serveClearFrameFault (q : P none s.plant) : P none (serveClearFrameFault s).1.plant := by
  refine needsRemote_keeps (needsKey_keeps ?_ q) q
  split
  · exact K.event (fun K _ => K.clearFrameFault) q
  · exact q

/-! ### The journal and record requests -/

theorem serveReleaseJournal (index : Word16) (q : P none s.plant) : P none (serveReleaseJournal index s).1.plant := by
  unfold Machine.serveReleaseJournal
  split
  · exact q
  · exact K.unit (e := s.env) (.release _) q

theorem serveAcknowledgeAlarms (q : P none s.plant) : P none (serveAcknowledgeAlarms s).1.plant :=
  (K.kept s.env).post _ _ _ (K.unit (e := s.env) (.acknowledge _) q)

theorem serveReadRecordPiece (slot piece : Byte) (q : P none s.plant) :
    P none (serveReadRecordPiece slot piece s).1.plant := by
  unfold Machine.serveReadRecordPiece
  split
  · exact q
  · split
    · exact q
    · split
      · exact q
      · exact q
      all_goals exact K.records (.readPiece _ _) q

theorem serveFreeRecord (slot : Byte) (q : P none s.plant) : P none (serveFreeRecord slot s).1.plant := by
  unfold Machine.serveFreeRecord
  split
  · exact q
  · split
    · exact q
    · exact q
    all_goals exact K.records (e := s.env) (.freeSlot _) q

theorem serveKind (r : RequestKind) (payload : List Byte) (q : P none s.plant) :
    P none (serveKind r payload s).1.plant := by
  cases r with
  | identify | echo | readStatus | readMeasurements | readEnergy | readMap | readStationRecord | readItems
  | readRectifier | readRail | fetchJournal | readAlarms | listRecords => exact q
  | readFeeder => exact serveReadFeeder_keeps _ q
  | readAttention => exact K.serveReadAttention q
  | noticeMask => exact K.serveNoticeMask _ q
  | setTime => exact K.serveSetTime _ q
  | restart => exact serveRestart_keeps q
  | clearEnergy => exact K.serveClearEnergy q
  | writeSet => exact serveWriteSet_keeps _ _ q
  | readSet => exact serveReadSet_keeps _ q
  | eraseSet => exact K.serveEraseSet _ q
  | writeMapEntry => exact serveWriteMapEntry_keeps _ _ _ q
  | writeStationRecord => exact serveWriteStationRecord_keeps _ q
  | setFeedState => exact K.serveSetFeedState _ _ q
  | feederClose => exact K.serveFeederClose _ q
  | feederOpen => exact K.serveFeederOpen _ q
  | resetLockout => exact K.serveResetLockout _ q
  | clearFeederCounters => exact K.serveClearFeederCounters _ q
  | rectifierStart => exact K.serveRectifierStart q
  | rectifierStop => exact K.serveRectifierStop q
  | setVoltageReference => exact K.serveSetVoltageReference _ q
  | releaseEarthing => exact K.serveReleaseEarthing q
  | clearFrameFault => exact K.serveClearFrameFault q
  | releaseJournal => exact K.serveReleaseJournal _ q
  | acknowledgeAlarms => exact K.serveAcknowledgeAlarms q
  | readRecordPiece => exact K.serveReadRecordPiece _ _ q
  | freeRecord => exact K.serveFreeRecord _ q

theorem serveFrame (f : LinkFrame) (q : P none s.plant) : P none (serveFrame f s).1.plant := by
  unfold Machine.serveFrame
  cases RequestKind.ofByte f.kind with
  | none => exact q
  | some r =>
    show P none ((if r.accepts f.payload.length then Machine.serveKind r f.payload else answered _) s).1.plant
    split
    · exact K.serveKind _ _ q
    · exact q

/-! ### Frames and transmissions -/

theorem startExecution (pins : Pins) (q : P none s.plant) : P none (s.startExecution pins).plant := by
  rcases s.startExecution_cases pins with same | ⟨f, rest, -, -, served⟩
  · rwa [same]
  · rw [served, State.execute, State.finish_plant]
    exact K.serveFrame f q

theorem transmitStart (q : P none s.plant) : P none s.transmitStart.plant := by
  rcases s.transmitStart_cases with same | ⟨f, -, -, -, begun⟩ | ⟨n, -, -, -, -, begun⟩
  · rwa [same]
  · rw [begun]
    exact K.startExecution _ q
  · rw [begun]
    exact K.unit .beginNotice q

theorem frameTransmitEnd (q : P none s.plant) :
    ∃ t, Machine.exec .frameTransmitEnd s = .next t ∧ P none t.plant := by
  by_cases idle : s.link.transmitter = .idle
  · exact ⟨s, by simp [Machine.exec, execFrameTransmitEnd, idle], q⟩
  · exact ⟨_, exec_frameTransmitEnd_sending idle, K.transmitStart q⟩

theorem receiveByte (pins : Pins) (b : Byte) (q : P none s.plant) : P none (s.receiveByte pins b).plant := by
  unfold State.receiveByte
  split
  · split <;> exact q
  · split <;> exact q
  · split <;> exact q
  · exact q
  · unfold State.checkFrame
    dsimp only
    split
    · exact State.offer_keeps (K.serveFrame _) q
    · exact q
  · exact q

theorem linkBreak (q : P none s.plant) : P none s.linkBreak.plant := by
  unfold State.linkBreak
  split
  · exact q
  · exact K.post _ _ _ q

/-! ### Expiries and completions -/

/-- The expiry of a timer of the plant. -/
theorem expiresEvent {expiry : Option Nat} {f : Env → Plant → Plant}
    (h : ∀ {e}, Kept e P → ∀ {p}, P none p → P none (f e p)) (q : P none s.plant) :
    P none (s.atExpiry expiry (fun s => s.onPlant f)).plant := State.atExpiry_keeps (K.event h) q

theorem setWriteCompletion (readBack : SetFields) (q : P none s.plant) :
    ∃ t, Machine.exec (.setWriteCompletion readBack) s = .next t ∧ P none t.plant := by
  refine ⟨_, rfl, ?_⟩
  split
  · exact State.atExpiry_keeps (K.completeSet _ _ _) q
  all_goals exact q

theorem stationRecordWriteCompletion (readBack : StationFields) (q : P none s.plant) :
    ∃ t, Machine.exec (.stationRecordWriteCompletion readBack) s = .next t ∧ P none t.plant := by
  refine ⟨_, rfl, ?_⟩
  split
  · exact State.atExpiry_keeps (K.completeStation _ _) q
  all_goals exact q

theorem mapEntryWriteCompletion (readBack : Option SetId) (q : P none s.plant) :
    ∃ t, Machine.exec (.mapEntryWriteCompletion readBack) s = .next t ∧ P none t.plant := by
  refine ⟨_, rfl, ?_⟩
  split
  · exact State.atExpiry_keeps (K.completeEntry _ _ _ _) q
  all_goals exact q

/-! ### Events of the other blocks -/

theorem sampleInstant (x : SampleInputs) (q : P none s.plant) : P none (s.sampleInstant x).plant := by
  have sampled : P none (s.sampled x).plant := K.event (fun K _ => K.sampleEvents x) q
  rw [State.sampleInstant_eq]
  split
  · exact K.event (s := { s.sampled x with front := (s.sampled x).front.closeMillisecond })
      (fun K _ => K.millisecondEvents x) sampled
  · exact sampled

theorem crystalFailure (q : P none s.plant) : ∃ t, Machine.exec .crystalFailure s = .next t ∧ P none t.plant := by
  cases source : s.time.source with
  | crystal => exact ⟨_, exec_crystalFailure source, K.event (fun K _ h => K.post _ _ _ (K.latch _ h)) q⟩
  | fallback => exact ⟨s, by simp [Machine.exec, execCrystalFailure, source], q⟩

theorem crystalReturn (q : P none s.plant) : ∃ t, Machine.exec .crystalReturn s = .next t ∧ P none t.plant := by
  refine ⟨_, rfl, ?_⟩
  split
  · exact q
  · split
    · exact K.post _ _ _ q
    · exact q

theorem pulseInstant (gate : GateId) (q : P none s.plant) :
    ∃ t, Machine.exec (.pulseInstant gate) s = .next t ∧ P none t.plant := by
  refine ⟨_, rfl, ?_⟩
  split
  · exact q
  · split
    · rename_i fires
      rw [Bool.and_eq_true] at fires
      exact (K.kept s.env).firePulse gate fires.1 q
    · exact q

theorem burstEnd (gate : GateId) (q : P none s.plant) :
    ∃ t, Machine.exec (.burstEnd gate) s = .next t ∧ P none t.plant := by
  refine ⟨_, rfl, ?_⟩
  split
  · exact q
  · split
    · exact (K.kept s.env).endBurst gate q
    · exact q

theorem restartReset (x : ResetInputs) (q : P none s.plant) :
    ∃ t, Machine.exec (.restartReset x) s = .next t ∧ P none t.plant := by
  refine ⟨_, rfl, ?_⟩
  split
  · exact K.pinReset _ _ q
  · exact q

/-- Every command keeps the law. -/
theorem exec (c : Instr) (q : P none s.plant) : ∃ t, Machine.exec c s = .next t ∧ P none t.plant := by
  cases c with
  | powerOnReset x => exact ⟨_, rfl, K.powerOnReset x s⟩
  | pinReset x => exact ⟨_, rfl, K.pinReset x _ q⟩
  | restartReset => exact K.restartReset _ q
  | crystalFailure => exact K.crystalFailure q
  | crystalReturn => exact K.crystalReturn q
  | sampleInstant => exact ⟨_, rfl, K.sampleInstant _ q⟩
  | noCrossingExpiry => exact ⟨_, rfl, K.expiresEvent (fun K _ => K.noCrossing) q⟩
  | coilPulseEnd => exact ⟨_, rfl, K.expiresEvent (fun K _ => K.pulseEnds _) q⟩
  | limitTimerExpiry => exact ⟨_, rfl, K.expiresEvent (fun K _ => K.limitEnds _) q⟩
  | deadTimeExpiry => exact ⟨_, rfl, K.expiresEvent (fun K _ => K.deadTimeExpires _) q⟩
  | settleExpiry => exact ⟨_, rfl, K.expiresEvent (fun K _ => K.settleExpires_stopped _) q⟩
  | serviceTimerExpiry => exact ⟨_, rfl, K.expiresEvent (fun K _ => K.serviceExpires _) q⟩
  | pulseInstant => exact K.pulseInstant _ q
  | burstEnd => exact K.burstEnd _ q
  | railHoldExpiry => exact ⟨_, rfl, K.expiresEvent (fun K _ h => K.holdExpires (K.onRail h id id)) q⟩
  | energyPulseOnExpiry | energyPulseGapExpiry => exact ⟨_, rfl, State.atExpiry_keeps id q⟩
  | recordHoldExpiry => exact ⟨_, rfl, State.atExpiry_keeps (fun {s} => K.records (e := s.env) .releaseHold) q⟩
  | noticeHoldoffExpiry => exact ⟨_, rfl, State.atExpiry_keeps (K.unit .holdoffExpires) q⟩
  | scanVisit => exact ⟨_, rfl, State.atExpiry_keeps (K.visit _) q⟩
  | setWriteCompletion => exact K.setWriteCompletion _ q
  | stationRecordWriteCompletion => exact K.stationRecordWriteCompletion _ q
  | mapEntryWriteCompletion => exact K.mapEntryWriteCompletion _ q
  | receivedCharacter char pins =>
    cases char with
    | byte b => exact ⟨_, rfl, K.receiveByte pins b q⟩
    | framingError => exact ⟨_, rfl, q⟩
  | gapTimerExpiry | linkBreakEnd => exact ⟨_, rfl, q⟩
  | linkBreak => exact ⟨_, rfl, K.linkBreak q⟩
  | requestExecutionStart pins => exact ⟨_, rfl, K.startExecution pins q⟩
  | unknownKind => exact ⟨_, rfl, State.offer_keeps (K.serveFrame _) q⟩
  | frameTransmitStart => exact ⟨_, rfl, K.transmitStart q⟩
  | frameTransmitEnd => exact K.frameTransmitEnd q
  | identify | echo | readStatus | readMeasurements | readEnergy | readMap | readStationRecord | readItems
  | readRectifier | readRail | fetchJournal | readAlarms | listRecords => exact ⟨_, rfl, State.offer_keeps id q⟩
  | readFeeder => exact ⟨_, rfl, State.offer_keeps (serveReadFeeder_keeps _) q⟩
  | readAttention => exact ⟨_, rfl, State.offer_keeps K.serveReadAttention q⟩
  | noticeMask => exact ⟨_, rfl, State.offer_keeps (K.serveNoticeMask _) q⟩
  | setTime => exact ⟨_, rfl, State.offer_keeps (K.serveSetTime _) q⟩
  | restart => exact ⟨_, rfl, State.offer_keeps serveRestart_keeps q⟩
  | clearEnergy => exact ⟨_, rfl, State.offer_keeps K.serveClearEnergy q⟩
  | writeSet => exact ⟨_, rfl, State.offer_keeps (serveWriteSet_keeps _ _) q⟩
  | readSet => exact ⟨_, rfl, State.offer_keeps (serveReadSet_keeps _) q⟩
  | eraseSet => exact ⟨_, rfl, State.offer_keeps (K.serveEraseSet _) q⟩
  | writeMapEntry => exact ⟨_, rfl, State.offer_keeps (serveWriteMapEntry_keeps _ _ _) q⟩
  | writeStationRecord => exact ⟨_, rfl, State.offer_keeps (serveWriteStationRecord_keeps _) q⟩
  | setFeedState => exact ⟨_, rfl, State.offer_keeps (K.serveSetFeedState _ _) q⟩
  | feederClose => exact ⟨_, rfl, State.offer_keeps (K.serveFeederClose _) q⟩
  | feederOpen => exact ⟨_, rfl, State.offer_keeps (K.serveFeederOpen _) q⟩
  | resetLockout => exact ⟨_, rfl, State.offer_keeps (K.serveResetLockout _) q⟩
  | clearFeederCounters => exact ⟨_, rfl, State.offer_keeps (K.serveClearFeederCounters _) q⟩
  | rectifierStart => exact ⟨_, rfl, State.offer_keeps K.serveRectifierStart q⟩
  | rectifierStop => exact ⟨_, rfl, State.offer_keeps K.serveRectifierStop q⟩
  | setVoltageReference => exact ⟨_, rfl, State.offer_keeps (K.serveSetVoltageReference _) q⟩
  | releaseEarthing => exact ⟨_, rfl, State.offer_keeps K.serveReleaseEarthing q⟩
  | clearFrameFault => exact ⟨_, rfl, State.offer_keeps K.serveClearFrameFault q⟩
  | releaseJournal => exact ⟨_, rfl, State.offer_keeps (K.serveReleaseJournal _) q⟩
  | acknowledgeAlarms => exact ⟨_, rfl, State.offer_keeps K.serveAcknowledgeAlarms q⟩
  | readRecordPiece => exact ⟨_, rfl, State.offer_keeps (K.serveReadRecordPiece _ _) q⟩
  | freeRecord => exact ⟨_, rfl, State.offer_keeps (K.serveFreeRecord _) q⟩

/-- Every step keeps the law. -/
theorem step {t : State} (q : P none s.plant) (h : Machine.step s = .next t) : P none t.plant := by
  unfold Machine.step at h
  split at h
  · cases h
    exact q
  · rename_i c rest _
    obtain ⟨u, executed, kept⟩ := K.exec (s := { s with pending := rest }) c q
    rw [executed] at h
    cases h
    exact kept

end PlantLaw

end Sys2Proof.Machine
end

section
/-! PROOFS. The law of the switchgear (O23). -/

namespace Sys2Proof.Machine

/-- R79: an item whose operation has failed has no operation and no coil on. -/
theorem Item.lawful_failOperation (i : ItemId) (op : Operation) (it : Item) :
    (it.failOperation op).lawful i := by
  obtain ⟨d, start, limit, waiting, probed⟩ := op
  cases d <;> simp [Item.lawful, Item.failOperation]

/-- The law of the switchgear, of the plant. -/
def Plant.ItemLaw (p : Plant) : Prop := ∀ i, (p.item i).lawful i

namespace Plant

variable {e : Env} {p : Plant}

theorem ItemLaw.setItem (law : p.ItemLaw) {i : ItemId} {it : Item} (h : (p.item i).lawful i → it.lawful i) :
    (p.setItem i it).ItemLaw := fun j => by
  rw [item_setItem]
  split
  · rename_i same
    exact same ▸ h (law i)
  · exact law j

theorem ItemLaw.same {q : Plant} (law : p.ItemLaw) (items : q.items = p.items) : q.ItemLaw := fun i => by
  unfold item
  rw [items]
  exact law i

theorem joinPending_items (k : FeederId) (p : Plant) : (p.joinPending e k).items = p.items := by
  unfold joinPending retardEntry
  dsimp only
  (repeat' split) <;> rfl

theorem leavePending_items (k : FeederId) (p : Plant) : (p.leavePending e k).items = p.items := by
  unfold leavePending retardExit
  dsimp only
  (repeat' split) <;> rfl

end Plant

/-- R71, R76 to R79: of the small changes, three touch an item, and each keeps it lawful. -/
theorem kept_itemLaw (e : Env) : Kept e (fun _ p => p.ItemLaw) where
  weaken _ h := h
  post _ _ _ h := h
  raise _ h := h
  latch _ h := h
  claim _ _ h := h
  disc _ _ h _ := h
  heat _ _ h := h
  seq _ _ h _ := h
  lock _ _ h _ := h
  join k _ _ h := Plant.ItemLaw.same h (Plant.joinPending_items k _)
  leave k h _ := Plant.ItemLaw.same h (Plant.leavePending_items k _)
  item _ _ h quiet := h.setItem quiet.1
  itemFails i op h := Plant.ItemLaw.setItem h fun _ => Item.lawful_failOperation i op _
  itemUnsensed _ _ h lawful _ := Plant.ItemLaw.setItem h lawful
  rect _ h _ _ := h
  rectTrips _ h _ := h
  rail _ h _ _ := h
  railPermanent _ h _ := h
  frameFault _ h _ := h
  tracker _ h := h
  trackerQuiet _ h _ := h
  capture h := h

theorem Plant.itemLaw_atReset (e : Env) (reference : Nat) (records : RecordStore) (unit : JournalUnit) :
    ((Plant.atReset reference records unit).startSupply e).ItemLaw := fun i => by
  have reset : ((Plant.atReset reference records unit).startSupply e).item i = Item.reset := PerItem.get_all ..
  exact reset ▸ Item.lawful_reset i

/-- The law of the switchgear is a law of the plant. -/
theorem plantLaw_itemLaw : PlantLaw (fun _ p => p.ItemLaw) where
  kept := kept_itemLaw
  unit _ h := h
  records _ h := h
  powerOn e reference := Plant.itemLaw_atReset e reference _ _
  warmReset e reference _ _ := Plant.itemLaw_atReset e reference _ _

/-- Settles O23: by the principle of the plant, since every change of an item keeps it lawful. -/
theorem switchgearLawIsKept : Obligations.SwitchgearLawIsKept :=
  fun _ _ law stepped => plantLaw_itemLaw.step law stepped

end Sys2Proof.Machine
end

section
/-! PROOFS. The open and the close command by item state (O20). -/

namespace Sys2Proof.Machine

variable {e : Env} {c : Commander} {i : ItemId} {it : Item} {p : Plant}

/-! ### The open command (R76) -/

theorem Operation.join_eq (c : Commander) (op : Operation) :
    op.join c = { op with waiting := if c ∈ op.waiting then op.waiting else op.waiting ++ [c] } := by
  unfold join
  simp only [List.contains_iff_mem]
  split <;> rfl

theorem Item.openCommand_joins {op : Operation} (opening : it.state = .opening) (running : it.operation = some op) :
    it.openCommand e c i = { it with operation := some (op.join c) } := by
  simp only [openCommand, opening, running]

theorem Item.openCommand_starts (other : it.state ≠ .opening) : it.openCommand e c i = it.startOpening e i [c] := by
  unfold openCommand
  split
  · contradiction
  · rfl

theorem Plant.openCommand_taken (may : c.mayCommand .opening i = true) :
    p.openCommand e c i = p.setItem i ((p.item i).openCommand e c i) := if_pos may

theorem Plant.openCommand_refused (mayNot : c.mayCommand .opening i = false) : p.openCommand e c i = p :=
  if_neg (by simp [mayNot])

/-! ### The close command (R77) -/

theorem Item.mayStartClosing_iff :
    it.mayStartClosing = true ↔ it.state = .opened ∨ it.state = .failedClose ∧ it.sensed = .opened := by
  simp [mayStartClosing]

theorem Plant.closeCommand_starts (may : c.mayCommand .closing i = true) (starts : (p.item i).mayStartClosing = true) :
    p.closeCommand e c i = (p.setItem i ((p.item i).startClosing e i [c]), none) := by
  rw [closeCommand, if_pos may, if_pos starts]

theorem Plant.closeCommand_closed (may : c.mayCommand .closing i = true) (closed : (p.item i).state = .closed) :
    p.closeCommand e c i = (p, some .completed) := by
  have starts : ¬ (p.item i).mayStartClosing = true := by simp [Item.mayStartClosing_iff, closed]
  rw [closeCommand, if_pos may, if_neg starts, if_pos closed]

theorem Plant.closeCommand_wrongState (starts : ¬ (p.item i).mayStartClosing = true)
    (notClosed : (p.item i).state ≠ .closed) : p.closeCommand e c i = (p, some .wrongState) := by
  unfold closeCommand
  rw [if_neg starts, if_neg notClosed, ite_self]

theorem Plant.closeCommand_refused (mayNot : c.mayCommand .closing i = false) :
    p.closeCommand e c i = (p, some .wrongState) := if_neg (by simp [mayNot])

/-- Settles O20: each command by the item state that it finds, an operation begun being the same record for the pulsed
coils and for the maintained one. -/
theorem commandsActByItemState : Obligations.CommandsActByItemState := by
  intro e c i p it joined started
  have opens : it.startOpening e i [c] = started .opening e.openLimit := by
    cases maintained : ItemId.maintained i <;> simp [started, Item.startOpening, maintained, TimeBase.after]
  have closes : it.startClosing e i [c] = started .closing e.closeLimit := by
    cases maintained : ItemId.maintained i <;> simp [started, Item.startClosing, maintained, TimeBase.after]
  refine ⟨fun may => ⟨fun op opening running => ?_, fun other => ?_⟩, Plant.openCommand_refused,
    fun may => ⟨fun starts => ?_, Plant.closeCommand_closed may, fun notOpened notClosed blocked => ?_⟩,
    Plant.closeCommand_refused⟩
  · rw [Plant.openCommand_taken may, Item.openCommand_joins opening running, Operation.join_eq]
  · rw [Plant.openCommand_taken may, Item.openCommand_starts other, opens]
  · rw [Plant.closeCommand_starts may (Item.mayStartClosing_iff.2 starts), closes]
  · refine Plant.closeCommand_wrongState (fun starts => ?_) notClosed
    rcases Item.mayStartClosing_iff.1 starts with opened | ⟨failed, opened⟩
    · exact notOpened opened
    · exact blocked failed opened

end Sys2Proof.Machine
end

section
/-! PROOFS. What the blocks that hear the outcome of an operation leave of the items (R77, R96, R98, R106, R107, R127,
R147): no block acts again on the item whose operation has ended, but the rectifier controller at a failed close of the
ACB. -/

namespace Sys2Proof.Machine

namespace Plant

variable {e : Env} {c : Commander} {i j : ItemId} {k : FeederId} {p : Plant}

/-! ### Commands -/

theorem item_openCommand_of_ne (other : j ≠ i) : (p.openCommand e c i).item j = p.item j := by
  unfold openCommand
  split
  · rw [item_setItem, if_neg other]
  · rfl

theorem item_closeCommand_of_ne (other : j ≠ i) : (p.closeCommand e c i).1.item j = p.item j := by
  unfold closeCommand
  split
  · split
    · rw [item_setItem, if_neg other]
    · split <;> rfl
  · rfl

theorem item_openIncomer_of_ne (other : j ≠ .acb) : (p.openIncomer e).item j = p.item j := by
  unfold openIncomer
  split
  · rfl
  · exact item_openCommand_of_ne other

/-! ### Entries of the sequencer, and trips -/

@[simp] theorem defer_items (k : FeederId) (p : Plant) : (p.defer e k).items = p.items := by
  unfold defer
  dsimp only
  split <;> rfl

@[simp] theorem reactReclosable_items (k : FeederId) (p : Plant) : (p.reactReclosable e k).items = p.items := by
  unfold reactReclosable
  split <;> rfl

theorem item_beginTrip_of_ne (snap : Snapshot) (reclose : Bool) (exit : Option ExitTarget) (other : j ≠ .fb k) :
    (p.beginTrip e k snap reclose exit).item j = p.item j := by
  unfold beginTrip item
  dsimp only
  rw [joinPending_items]
  exact item_openCommand_of_ne other

theorem item_ownTrip_of_ne (cause : TripCause) (other : j ≠ .fb k) : (p.ownTrip e k cause).item j = p.item j := by
  unfold ownTrip
  split
  · exact item_beginTrip_of_ne _ _ _ other
  all_goals rfl

theorem item_foldl_ownTrip (cause : TripCause) (l : List FeederId) (others : ∀ k ∈ l, j ≠ .fb k) :
    (l.foldl (fun p k => p.ownTrip e k cause) p).item j = p.item j :=
  List.foldlRecOn (motive := fun q : Plant => q.item j = p.item j) l _ rfl fun _ kept k mem =>
    (item_ownTrip_of_ne cause (others k mem)).trans kept

theorem item_rectTrip_of_ne (cause : StopCause) (value : Int) (other : j ≠ .acb) :
    (p.rectTrip e cause value).item j = p.item j := by
  unfold rectTrip
  split
  · rfl
  · exact item_openIncomer_of_ne other

/-! ### Outcomes at the sequencer (R96, R98, R106, R107) -/

@[simp] theorem trippingCompleted_items (k : FeederId) (p : Plant) : (p.trippingCompleted e k).items = p.items := by
  unfold trippingCompleted
  dsimp only
  rw [leavePending_items]
  split
  · rfl
  · rfl
  all_goals exact reactReclosable_items k p

/-- R98: the backup opens the ACB and the other feeders' breakers. -/
theorem item_breakerFailure : (p.breakerFailure e k).item (.fb k) = p.item (.fb k) := by
  unfold breakerFailure
  dsimp only
  rw [item_foldl_ownTrip]
  · refine (congrArg (PerItem.get · (.fb k)) (leavePending_items k _)).trans ?_
    refine (item_rectTrip_of_ne (j := .fb k) .breakerFailure _ nofun).trans ?_
    exact item_openCommand_of_ne (i := .acb) nofun
  · intro j mem
    simp only [othersInService, List.mem_filter, Bool.and_eq_true, decide_eq_true_eq] at mem
    obtain ⟨-, other, -⟩ := mem
    exact fun same => other (ItemId.fb.inj same).symm

@[simp] theorem fbCloseOutcome_items (k : FeederId) (o : CommandOutcome) (p : Plant) :
    (p.fbCloseOutcome e k o).items = p.items := by
  unfold fbCloseOutcome
  split <;> rfl

@[simp] theorem tcCloseOutcome_items (k : FeederId) (o : CommandOutcome) (p : Plant) :
    (p.tcCloseOutcome e k o).items = p.items := by
  unfold tcCloseOutcome
  split <;> rfl

theorem item_fbOpenOutcome (o : CommandOutcome) : (p.fbOpenOutcome e k o).item (.fb k) = p.item (.fb k) := by
  unfold fbOpenOutcome
  dsimp only
  split
  case h_1 => exact congrArg (PerItem.get · (.fb k)) (trippingCompleted_items k p)
  case h_2 => exact item_breakerFailure
  all_goals rfl

/-- R107: a closing commands the feeder breaker alone. -/
theorem item_enterClosing_of_ne (other : j ≠ .fb k) : (p.enterClosing e k).item j = p.item j := by
  unfold enterClosing
  dsimp only
  split
  · split
    · exact item_closeCommand_of_ne other
    · refine (congrArg (PerItem.get · j) (fbCloseOutcome_items ..)).trans ?_
      exact item_closeCommand_of_ne other
  · rfl

theorem item_takeTarget_of_ne (t : ExitTarget) (other : j ≠ .fb k) : (p.takeTarget e k t).item j = p.item j := by
  unfold takeTarget
  split
  · exact item_enterClosing_of_ne other
  · rfl
  · exact congrArg (PerItem.get · j) (defer_items k p)
  all_goals rfl

theorem item_tcOpenOutcome (o : CommandOutcome) : (p.tcOpenOutcome e k o).item (.tc k) = p.item (.tc k) := by
  unfold tcOpenOutcome
  split
  · exact item_takeTarget_of_ne _ nofun
  all_goals rfl

/-- A sequencer does not act on the item whose outcome it hears. -/
theorem item_seqOutcome (d : Direction) (o : CommandOutcome) (own : i = .fb k ∨ i = .tc k) :
    (p.seqOutcome e k i d o).item i = p.item i := by
  rcases own with rfl | rfl
  · cases d with
    | opening => exact item_fbOpenOutcome o
    | closing => exact congrArg (PerItem.get · (.fb k)) (fbCloseOutcome_items k o p)
  · cases d with
    | opening => exact item_tcOpenOutcome o
    | closing => exact congrArg (PerItem.get · (.tc k)) (tcCloseOutcome_items k o p)

/-! ### Outcomes at the rail monitor (R147, R150) -/

@[simp] theorem countedClosure_items (p : Plant) : (p.countedClosure e).items = p.items := by
  unfold countedClosure
  dsimp only
  split <;> rfl

/-- R147: a failed close of RE opens feeder breakers. -/
theorem item_railCloseFailed : (p.railCloseFailed e).item .re = p.item .re := by
  show (if p.rail.rl2Holds then p.substituteOrder e else p).item .re = p.item .re
  split
  · exact item_foldl_ownTrip _ _ fun _ _ => nofun
  · rfl

theorem item_railOutcome (d : Direction) (o : CommandOutcome) : (p.railOutcome e d o).item .re = p.item .re := by
  unfold railOutcome
  split
  · exact congrArg PerItem.re (countedClosure_items p)
  · exact item_railCloseFailed
  · exact item_railCloseFailed
  all_goals rfl

/-! ### Delivery (R77) -/

/-- The block that hears of an item's outcome does not act on that item, the ACB apart. -/
theorem item_deliver (d : Direction) (o : CommandOutcome) (may : c.mayCommand d i = true) (notAcb : i ≠ .acb) :
    (p.deliver e i d o c).item i = p.item i := by
  cases i with
  | fb k =>
    cases of_decide_eq_true may
    exact item_seqOutcome d o (.inl rfl)
  | tc k =>
    cases of_decide_eq_true may
    exact item_seqOutcome d o (.inr rfl)
  | re =>
    cases of_decide_eq_true may
    exact item_railOutcome d o
  | acb => contradiction

/-- R127: where the close of the ACB has not failed for a rectifier in SYNCING, nobody acts on its outcome. -/
theorem deliver_acb_calm {d : Direction} {o : CommandOutcome} (may : c.mayCommand d .acb = true)
    (calm : o = .completed ∨ d = .opening ∨ c ≠ .rectifier ∨ p.rect.state ≠ .syncing) :
    p.deliver e .acb d o c = p := by
  cases c with
  | sequencer k => cases d <;> cases may
  | railMonitor => cases d <;> cases may
  | breakerFailure => rfl
  | rectifier =>
    cases d with
    | opening => rfl
    | closing =>
      rcases calm with rfl | opening | other | notSyncing
      · rfl
      · cases opening
      · contradiction
      · show p.rectOutcome e .closing o = p
        cases o with
        | completed | superseded => rfl
        | failed | wrongState => exact if_neg notSyncing

theorem item_deliverAll {op : Operation} {o : CommandOutcome}
    (may : ∀ c ∈ op.waiting, c.mayCommand op.direction i = true)
    (calm : i = .acb → o = .completed ∨ op.direction = .opening ∨ .rectifier ∉ op.waiting ∨ p.rect.state ≠ .syncing) :
    (p.deliverAll e i op o).item i = p.item i := by
  by_cases acb : i = .acb
  · subst acb
    have untouched : p.deliverAll e .acb op o = p := by
      refine List.foldlRecOn (motive := (· = p)) op.waiting _ rfl fun q same c mem => ?_
      subst same
      refine deliver_acb_calm (may c mem) ((calm rfl).imp_right (.imp_right (.imp_left fun absent same => ?_)))
      exact absent (same ▸ mem)
    rw [untouched]
  · exact List.foldlRecOn (motive := fun q : Plant => q.item i = p.item i) op.waiting _ rfl fun _ kept c mem =>
      (item_deliver op.direction o (may c mem) acb).trans kept

/-! ### Reports (R86) -/

/-- The reports of an operation's own end concern nobody: its outcome goes to the commanders. -/
theorem report_ended {old new : ItemState} {reason : ReportReason} (ended : reason = .completed ∨ reason = .failed) :
    p.report e i old new reason = p := by
  cases i with
  | fb k =>
    show p.fbReport e k new reason = p
    unfold fbReport
    split
    case h_12 => rfl
    all_goals simp at ended
  | tc k =>
    have commanded (left : ItemState) : leavesUncommanded left old new reason = false := by
      rcases ended with rfl | rfl <;> simp [leavesUncommanded]
    show p.tcReport e k old new reason = p
    unfold tcReport
    simp only [commanded]
    split <;> rfl
  | re =>
    show p.railReport e new reason = p
    unfold railReport
    split
    case h_14 => rfl
    all_goals simp at ended
  | acb => exact if_neg fun opened => by rcases ended with rfl | rfl <;> cases opened.2.1

end Plant

end Sys2Proof.Machine
end

section
/-! PROOFS. Probes, their acceptance and the supervision of the test contactors (O21). -/

namespace Sys2Proof.Machine

variable {e : Env} {i : ItemId} {it : Item} {p : Plant} {st : ItemState} {firm : Option Position} {r : Position}

/-! ### The probe (R72, R73) -/

/-- R72: the three results. -/
theorem probeResult_some {l : LineLevels} (determinate : ¬ (l.pullDown = true ∧ l.pullUp = false)) :
    probeResult l = some (if l.pullDown then .closed else if l.pullUp then .unsensed else .opened) := by
  obtain ⟨released, down, up⟩ := l
  cases down <;> cases up <;> simp_all [probeResult]

/-- R72: INDETERMINATE. -/
theorem probeResult_none {l : LineLevels} (down : l.pullDown = true) (up : l.pullUp = false) :
    probeResult l = none := by
  simp only [probeResult, down, up]

/-- R73: the third equal result in a row, where it is a change. -/
theorem Item.newPosition_iff : it.newPosition = some r ↔ it.result = some r ∧ it.run = 3 ∧ r ≠ it.sensed := by
  unfold newPosition
  cases it.result with
  | none => simp
  | some r' =>
    simp only [Option.ite_none_right_eq_some, Option.some.injEq]
    constructor
    · rintro ⟨⟨run, change⟩, rfl⟩
      exact ⟨rfl, run, change⟩
    · rintro ⟨rfl, run, change⟩
      exact ⟨⟨run, change⟩, rfl⟩

/-! ### The table of R80 -/

theorem acceptanceOf_unsensed : acceptanceOf st firm .unsensed =
    if st = .unknown ∨ st = .opened ∨ st = .closed then .unsensed else .noChange := by
  cases st <;> rfl

/-- R78: the sensed position is the target of the operation under way. -/
theorem acceptanceOf_completes_iff : acceptanceOf st firm r = .completes ↔
    r = .opened ∧ st = .opening ∨ r = .closed ∧ st = .closing := by
  cases r <;> cases st <;> simp [acceptanceOf] <;> (repeat' split) <;> simp

/-- R80, R82: the states that an accepted OPEN or CLOSED moves. -/
theorem acceptanceOf_firm_noChange_iff (position : r = .opened ∨ r = .closed) :
    acceptanceOf st firm r = .noChange ↔ acceptanceOf st firm r ≠ .completes ∧
      ¬ (st = .unknown ∨ st = .unsensed ∨ (r = .opened ∧ (st = .closed ∨ st = .failedOpen)) ∨
        (r = .closed ∧ (st = .opened ∨ st = .failedClose))) := by
  rcases position with rfl | rfl <;> cases st <;> simp [acceptanceOf] <;> (repeat' split) <;> simp

theorem acceptanceOf_unknown (position : r = .opened ∨ r = .closed) : acceptanceOf .unknown firm r = .initial := by
  rcases position with rfl | rfl <;> rfl

theorem acceptanceOf_late (late : r = .opened ∧ st = .failedOpen ∨ r = .closed ∧ st = .failedClose) :
    acceptanceOf st firm r = .late := by
  rcases late with ⟨rfl, rfl⟩ | ⟨rfl, rfl⟩ <;> rfl

theorem acceptanceOf_discrepancy (opposite : r = .opened ∧ st = .closed ∨ r = .closed ∧ st = .opened) :
    acceptanceOf st firm r = .discrepancy := by
  rcases opposite with ⟨rfl, rfl⟩ | ⟨rfl, rfl⟩ <;> rfl

theorem acceptanceOf_resensed (position : r = .opened ∨ r = .closed) (same : firm = none ∨ firm = some r) :
    acceptanceOf .unsensed firm r = .resensed := by
  rcases position with rfl | rfl <;> rcases same with rfl | rfl <;> rfl

theorem acceptanceOf_moved (position : r = .opened ∨ r = .closed) (known : firm ≠ none) (other : firm ≠ some r) :
    acceptanceOf .unsensed firm r = .moved := by
  obtain ⟨f, rfl⟩ := Option.ne_none_iff_exists'.1 known
  have differs : f ≠ r := fun same => other (congrArg some same)
  rcases position with rfl | rfl <;> simp [acceptanceOf, differs]

theorem acceptanceOf_stays (stays : r = .opened ∧ (st = .opened ∨ st = .opening ∨ st = .closing ∨ st = .failedClose) ∨
      r = .closed ∧ (st = .closed ∨ st = .opening ∨ st = .closing ∨ st = .failedOpen)) :
    acceptanceOf st firm r = .noChange ∨ acceptanceOf st firm r = .completes := by
  rcases stays with ⟨rfl, rfl | rfl | rfl | rfl⟩ | ⟨rfl, rfl | rfl | rfl | rfl⟩ <;> simp [acceptanceOf]

/-! ### The item after an acceptance (R73, R80) -/

theorem Item.accept_completes : it.accept .completes r =
    { it with
      state := stateOfPosition r, sensed := r, firm := if r = .opened ∨ r = .closed then some r else it.firm
      operation := none, openCoil := none, closeCoil := none } := rfl

/-- An acceptance that completes nothing touches the positions and, where it is a change, the item state. -/
theorem Item.accept_of_ne {a : Acceptance} (other : a ≠ .completes) : it.accept a r =
    { it with
      state := if a = .noChange then it.state else stateOfPosition r, sensed := r
      firm := if r = .opened ∨ r = .closed then some r else it.firm } := by
  cases a with
  | completes => contradiction
  | _ => rfl

theorem Item.accept_firm (a : Acceptance) : (it.accept a r).firm =
    if r = .opened ∨ r = .closed then some r else it.firm := by
  cases a <;> rfl

theorem Item.accept_held (a : Acceptance) : (it.accept a r).held = it.held := by
  cases a <;> rfl

theorem firm_of_known (known : r ≠ .unknown) (sensed : r ≠ .unsensed) : r = .opened ∨ r = .closed := by
  cases r <;> simp_all

theorem stateOfPosition_firm (position : r = .opened ∨ r = .closed) :
    stateOfPosition r = if r = .opened then .opened else .closed := by
  rcases position with rfl | rfl <;> rfl

/-- R75, R80: the item state after an accepted UNSENSED. -/
theorem Item.accept_state_unsensed : (it.accept (acceptanceOf it.state it.firm .unsensed) .unsensed).state =
    if it.state = .unknown ∨ it.state = .opened ∨ it.state = .closed then .unsensed else it.state := by
  rw [acceptanceOf_unsensed]
  split <;> rfl

/-- R80, R82: the item state after an accepted OPEN or CLOSED that ends no operation. -/
theorem Item.accept_state_firm (position : r = .opened ∨ r = .closed)
    (other : acceptanceOf it.state it.firm r ≠ .completes) :
    (it.accept (acceptanceOf it.state it.firm r) r).state =
      if it.state = .unknown ∨ it.state = .unsensed ∨ (r = .opened ∧ (it.state = .closed ∨ it.state = .failedOpen)) ∨
          (r = .closed ∧ (it.state = .opened ∨ it.state = .failedClose)) then
        (if r = .opened then .opened else .closed)
      else it.state := by
  rw [Item.accept_of_ne other]
  simp only [acceptanceOf_firm_noChange_iff position, other, ne_eq, not_false_eq_true, true_and,
    stateOfPosition_firm position, ite_not]

/-! ### The entries and alarms of an acceptance (R75, R82, R87) -/

namespace Plant

variable {q : Plant} {source : Source} {kind : Kind} {details : List Int}

theorem newest_of_post (posted : q = p.post e source kind details) :
    q.unit.journal.getLast? = some ⟨p.unit.nextIndex, e.time.stamp, source, kind, details⟩ := by
  rw [posted]
  exact JournalUnit.post_last ..

/-- An alarm latched, its entry appended and an attention flag raised. -/
theorem newest_of_alarm {a : Alarm} {f : AttentionFlag}
    (posted : q = ((p.latch e a).post e source kind details).raise e f) :
    q.unit.journal.getLast? = some ⟨p.unit.nextIndex, e.time.stamp, source, kind, details⟩ ∧
      q.unit.latched.get a = true ∧ q.unit.attention.get f = true := by
  subst posted
  refine ⟨?_, ?_, ?_⟩
  · simp only [raise_unit, post_unit, latch_unit, JournalUnit.raise_journal, JournalUnit.post_last,
      JournalUnit.latch_nextIndex]
  · simp only [raise_unit, post_unit, latch_unit, JournalUnit.raise_latched, JournalUnit.post_latched,
      JournalUnit.latch_latched, if_true, ite_self]
  · exact (JournalUnit.raise_attention _ f f).trans (if_pos rfl)

variable {a : Acceptance} {sensed : Position}

theorem postAcceptance_only (a : Acceptance) (sensed : Position) (firm : Option Position) (r : Position) (p : Plant) :
    ∃ unit, p.postAcceptance e i a sensed firm r = { p with unit := unit } := by
  unfold postAcceptance
  split
  · exact ⟨_, rfl⟩
  · split <;> exact ⟨_, rfl⟩

theorem postAcceptance_unsensed : p.postAcceptance e i a sensed firm .unsensed =
    ((p.latch e (.unsensed i)).post e (.item i) .itemUnsensed [(sensed.code : Int)]).raise e .switchgear := rfl

theorem postAcceptance_initial (position : r ≠ .unsensed) (initial : a = .initial) :
    p.postAcceptance e i a sensed firm r = p.post e (.item i) .itemPosition [(r.code : Int), 0] := by
  subst initial
  exact if_neg position

theorem postAcceptance_late (position : r ≠ .unsensed) (late : a = .late) :
    p.postAcceptance e i a sensed firm r = p.post e (.item i) .itemPosition [(r.code : Int), 2] := by
  subst late
  exact if_neg position

theorem postAcceptance_resensed (position : r ≠ .unsensed) (resensed : a = .resensed) :
    p.postAcceptance e i a sensed firm r = p.post e (.item i) .itemPosition [(r.code : Int), 3] := by
  subst resensed
  exact if_neg position

theorem postAcceptance_discrepant (position : r ≠ .unsensed) (found : a = .discrepancy ∨ a = .moved) :
    p.postAcceptance e i a sensed firm r = ((p.latch e (.discrepant i)).post e (.item i) .itemDiscrepant
      [((firm.getD sensed).code : Int), (r.code : Int)]).raise e .switchgear := by
  rcases found with rfl | rfl <;> exact if_neg position

theorem postAcceptance_quiet (position : r ≠ .unsensed) (quiet : a = .noChange ∨ a = .completes) :
    p.postAcceptance e i a sensed firm r = p := by
  rcases quiet with rfl | rfl <;> exact if_neg position

/-! ### An acceptance within its event (R74, R83) -/

theorem presentPosition_only (i : ItemId) (before now : Position) (p : Plant) :
    ∃ discs, p.presentPosition e i before now = { p with discs := discs } := by
  cases i with
  | fb k =>
    show ∃ discs, p.presentBreaker e k before now = { p with discs := discs }
    unfold presentBreaker
    split
    · exact ⟨_, rfl⟩
    · split <;> exact ⟨_, rfl⟩
  | tc k | re | acb => exact ⟨_, rfl⟩

/-- R74 steps 1 to 3: the item accepts the position, its entry is posted and the discriminator hears of it. -/
def accepted (e : Env) (i : ItemId) (r : Position) (p : Plant) : Plant :=
  let old := p.item i
  let a := acceptanceOf old.state old.firm r
  ((p.setItem i (old.accept a r)).postAcceptance e i a old.sensed old.firm r).presentPosition e i old.sensed r

theorem accepted_only (i : ItemId) (r : Position) (p : Plant) : ∃ unit discs, p.accepted e i r =
    { p.setItem i ((p.item i).accept (acceptanceOf (p.item i).state (p.item i).firm r) r) with
      unit := unit, discs := discs } := by
  obtain ⟨unit, posted⟩ := postAcceptance_only (e := e) (i := i) (acceptanceOf (p.item i).state (p.item i).firm r)
    (p.item i).sensed (p.item i).firm r
    (p.setItem i ((p.item i).accept (acceptanceOf (p.item i).state (p.item i).firm r) r))
  unfold accepted
  dsimp only
  rw [posted]
  obtain ⟨discs, presented⟩ := presentPosition_only (e := e) i (p.item i).sensed r
    { p.setItem i ((p.item i).accept (acceptanceOf (p.item i).state (p.item i).firm r) r) with unit := unit }
  exact ⟨unit, discs, presented⟩

theorem accepted_item (i : ItemId) (r : Position) (p : Plant) : (p.accepted e i r).item i =
    (p.item i).accept (acceptanceOf (p.item i).state (p.item i).firm r) r := by
  obtain ⟨unit, discs, same⟩ := p.accepted_only (e := e) i r
  rw [same]
  exact (item_setItem ..).trans (if_pos rfl)

theorem accepted_feeders (i : ItemId) (r : Position) (p : Plant) : (p.accepted e i r).feeders = p.feeders := by
  obtain ⟨unit, discs, same⟩ := p.accepted_only (e := e) i r
  rw [same]
  rfl

/-- R78: an acceptance at the target of the operation under way. -/
theorem accept_completes {op : Operation} (running : (p.item i).operation = some op)
    (completes : acceptanceOf (p.item i).state (p.item i).firm r = .completes) :
    p.accept e i r = (p.accepted e i r).deliverAll e i op .completed := by
  unfold accept
  dsimp only
  rw [completes, running]
  dsimp only [Acceptance.reason]
  rw [report_ended (.inl rfl), accepted, completes]

/-- R83: an acceptance that moves the item state is reported, and a test contactor is supervised. -/
theorem accept_moves {reason : ReportReason}
    (moves : (acceptanceOf (p.item i).state (p.item i).firm r).reason = some reason)
    (found : reason ≠ .completed ∧ reason ≠ .unsensed) :
    p.accept e i r =
      ((p.accepted e i r).report e i (p.item i).state (stateOfPosition r) reason).superviseTc e i := by
  unfold accept accepted
  dsimp only
  generalize acceptanceOf (p.item i).state (p.item i).firm r = a at *
  cases a <;> cases moves <;> simp_all [Acceptance.reason]

/-- R103, R107: a feeder outside LINE_TEST and CLOSING passes over the reports of its test contactor. -/
theorem tcReport_idle {k : FeederId} {old new : ItemState} {reason : ReportReason}
    (noTest : ∀ x, (p.feeder k).state ≠ .lineTest x) (notClosing : (p.feeder k).state ≠ .closing) :
    p.report e (.tc k) old new reason = p := by
  show p.tcReport e k old new reason = p
  unfold tcReport
  split
  · exact absurd ‹_› (noTest _)
  · exact absurd ‹_› (noTest _)
  · contradiction
  · rfl

/-- R83: the supervision opens a test contactor that is CLOSED with its coil off and no operation under way. -/
theorem superviseTc_opens {k : FeederId} (closed : (p.item (.tc k)).state = .closed)
    (released : (p.item (.tc k)).held = false) (noOperation : (p.item (.tc k)).operation = none) :
    p.superviseTc e (.tc k) =
      (p.setItem (.tc k) ((p.item (.tc k)).startOpening e (.tc k) [])).report e (.tc k) .closed .opening .supervision :=
  if_pos ⟨rfl, closed, released, noOperation⟩

/-- R80, R83: a test contactor found CLOSED whose feeder does not use it is opened. -/
theorem accept_tc_supervised {k : FeederId} (noTest : ∀ x, (p.feeder k).state ≠ .lineTest x)
    (notClosing : (p.feeder k).state ≠ .closing)
    (found : (p.item (.tc k)).state = .unknown ∨ (p.item (.tc k)).state = .opened ∨ (p.item (.tc k)).state = .unsensed ∨
      (p.item (.tc k)).state = .failedClose)
    (released : (p.item (.tc k)).held = false) (noOperation : (p.item (.tc k)).operation = none) :
    p.accept e (.tc k) .closed = (p.accepted e (.tc k) .closed).setItem (.tc k) (Item.startOpening e (.tc k) []
      { p.item (.tc k) with state := .closed, sensed := .closed, firm := some .closed }) := by
  obtain ⟨reason, moves, reported⟩ : ∃ reason,
      (acceptanceOf (p.item (.tc k)).state (p.item (.tc k)).firm .closed).reason = some reason ∧
        reason ≠ .completed ∧ reason ≠ .unsensed := by
    rcases found with state | state | state | state <;> rw [state]
    · exact ⟨.initial, rfl, by decide⟩
    · exact ⟨.discrepancy, rfl, by decide⟩
    · by_cases same : (p.item (.tc k)).firm = none ∨ (p.item (.tc k)).firm = some .closed
      · exact ⟨.resensed, by rw [acceptanceOf_resensed (.inr rfl) same]; rfl, by decide⟩
      · obtain ⟨known, other⟩ := not_or.1 same
        exact ⟨.discrepancy, by rw [acceptanceOf_moved (.inr rfl) known other]; rfl, by decide⟩
    · exact ⟨.late, rfl, by decide⟩
  have item : (p.accepted e (.tc k) .closed).item (.tc k) =
      { p.item (.tc k) with state := .closed, sensed := .closed, firm := some .closed } := by
    rw [accepted_item]
    generalize acceptanceOf (p.item (.tc k)).state (p.item (.tc k)).firm .closed = a at moves
    cases a <;> cases moves <;> simp_all [Item.accept, stateOfPosition]
  have feeder : (p.accepted e (.tc k) .closed).feeder k = p.feeder k := congrArg (Six.get · k) (accepted_feeders ..)
  have idle : (p.accepted e (.tc k) .closed).report e (.tc k) (p.item (.tc k)).state .closed reason =
      p.accepted e (.tc k) .closed := tcReport_idle (by rwa [feeder]) (by rwa [feeder])
  rw [accept_moves moves reported]
  simp only [stateOfPosition]
  rw [idle, superviseTc_opens (by rw [item]) (by rw [item]; exact released) (by rw [item]; exact noOperation), item]
  exact tcReport_idle (by rwa [feeder_setItem, feeder]) (by rwa [feeder_setItem, feeder])

end Plant

/-- Settles O21: the probe, the item and the entries by the table of R80, and the two events that go on from an
acceptance, the completion of an operation and the supervision of a test contactor. -/
theorem probesAreAcceptedInThrees : Obligations.ProbesAreAcceptedInThrees := by
  refine ⟨fun l it => ?_, fun it r known => ?_, fun e i st sensed r firm p known => ?_, fun e p => ⟨fun i op => ?_,
    fun k => ?_⟩⟩
  · refine ⟨rfl, rfl, rfl, rfl, rfl, rfl, rfl, fun down up => ?_, fun determinate => ?_, fun r => Item.newPosition_iff⟩
    · simp only [Item.probeStep, probeResult_none down up, and_self]
    · simp only [Item.probeStep, probeResult_some determinate, and_self]
  · intro q firmly completes
    have completing : acceptanceOf it.state it.firm r = .completes ↔ completes := acceptanceOf_completes_iff
    refine ⟨Item.accept_sensed .., ?_, Item.accept_held _, fun target => ?_, fun other => ?_, ?_, fun moves other => ?_⟩
    · refine (Item.accept_firm _).trans ?_
      cases r <;> simp_all
    · have moves : r ≠ .unsensed := by rcases target with ⟨h, -⟩ | ⟨h, -⟩ <;> simp [h]
      have accepted : q = it.accept .completes r := by rw [← completing.2 target]
      exact ⟨(congrArg Item.state accepted).trans (stateOfPosition_firm (firm_of_known known moves)),
        congrArg Item.operation accepted, congrArg Item.openCoil accepted, congrArg Item.closeCoil accepted⟩
    · have accepted := Item.accept_of_ne (it := it) (r := r) (mt completing.1 other)
      exact ⟨(congrArg Item.operation accepted).trans rfl, (congrArg Item.openCoil accepted).trans rfl,
        (congrArg Item.closeCoil accepted).trans rfl⟩
    · rintro rfl
      exact Item.accept_state_unsensed
    · exact Item.accept_state_firm (firm_of_known known moves) (mt completing.1 other)
  · intro q entry stays moved
    obtain ⟨unit, posted⟩ := Plant.postAcceptance_only (e := e) (i := i) (acceptanceOf st firm r) sensed firm r p
    refine ⟨(congrArg Plant.items posted).trans rfl, (congrArg Plant.feeders posted).trans rfl, ?_,
      fun position unknown => ?_, fun late => ?_, fun position unsensed same => ?_, fun found => ?_, fun quiet => ?_⟩
    · rintro rfl
      exact Plant.newest_of_alarm Plant.postAcceptance_unsensed
    · refine Plant.newest_of_post (Plant.postAcceptance_initial position ?_)
      rw [unknown, acceptanceOf_unknown (firm_of_known known position)]
    · have position : r ≠ .unsensed := by rcases late with ⟨h, -⟩ | ⟨h, -⟩ <;> simp [h]
      exact Plant.newest_of_post (Plant.postAcceptance_late position (acceptanceOf_late late))
    · refine Plant.newest_of_post (Plant.postAcceptance_resensed position ?_)
      rw [unsensed, acceptanceOf_resensed (firm_of_known known position) same]
    · obtain ⟨position, differs⟩ : r ≠ .unsensed ∧
          (acceptanceOf st firm r = .discrepancy ∨ acceptanceOf st firm r = .moved) := by
        rcases found with opposite | opposite | ⟨position, rfl, some, other⟩
        · exact ⟨by simp [opposite.1], .inl (acceptanceOf_discrepancy (.inl opposite))⟩
        · exact ⟨by simp [opposite.1], .inl (acceptanceOf_discrepancy (.inr opposite))⟩
        · exact ⟨position, .inr (acceptanceOf_moved (firm_of_known known position) some other)⟩
      exact Plant.newest_of_alarm (Plant.postAcceptance_discrepant position differs)
    · have position : r ≠ .unsensed := by rcases quiet with ⟨h, -⟩ | ⟨h, -⟩ <;> simp [h]
      exact Plant.postAcceptance_quiet position (acceptanceOf_stays quiet)
  · intro it running state may
    have completes : acceptanceOf it.state it.firm op.direction.target = .completes := by
      rw [state]
      cases op.direction <;> rfl
    rw [Plant.accept_completes running completes, Plant.item_deliverAll may fun _ => .inl rfl, Plant.accepted_item,
      completes, Item.accept_completes]
    cases op.direction <;> rfl
  · intro it q noTest notClosing found released noOperation
    have supervised : q = _ := Plant.accept_tc_supervised noTest notClosing found released noOperation
    rw [supervised]
    refine ⟨?_, Plant.accepted_feeders ..⟩
    rw [Plant.item_setItem, if_pos rfl]
    simp only [Item.startOpening, ItemId.maintained, TimeBase.after, if_true, it, released]

end Sys2Proof.Machine
end

section
/-! PROOFS. The ends of a coil pulse and of an operation (O22). -/

namespace Sys2Proof.Machine

variable {e : Env} {i : ItemId} {p : Plant} {op : Operation}

/-! ### The expiries (R71, R78) -/

theorem Item.pulseEnd_eq {it : Item} {x : Nat}
    (running : it.openCoil = some x ∨ it.openCoil = none ∧ it.closeCoil = some x) : it.pulseEnd = some x := by
  unfold pulseEnd
  rcases running with opening | ⟨notOpening, closing⟩
  · rw [opening]
  · rw [notOpening, closing]

theorem exec_coilPulseEnd {s : State} {x : Nat} (running : (s.plant.item i).pulseEnd = some x) (due : x ≤ s.time.tick) :
    exec (.coilPulseEnd i) s = .next (s.onPlant (fun e p => p.pulseEnds e i)) := by
  show Host.Outcome.next _ = _
  rw [running, State.atExpiry_due _ due]

theorem exec_limitTimerExpiry {s : State} (running : (s.plant.item i).operation = some op)
    (due : op.limit ≤ s.time.tick) :
    exec (.limitTimerExpiry i) s = .next (s.onPlant (fun e p => p.limitEnds e i)) := by
  show Host.Outcome.next _ = _
  rw [Item.limitEnd, running, Option.map_some, State.atExpiry_due _ due]

/-- R180: no event of the plant's blocks clears an alarm. -/
theorem Kept.latched (e : Env) (a : Alarm) : Kept e (fun _ p => p.unit.latched.get a = true) :=
  Kept.ofUnit (fun u => u.latched.get a = true)
    (fun _ _ _ _ h => by rw [JournalUnit.post_latched, h, ite_self])
    (fun _ _ h => by rwa [JournalUnit.raise_latched])
    (fun _ _ h => by rw [JournalUnit.latch_latched, h, ite_self])

/-- R77: the rectifier controller alone closes the ACB. -/
theorem Commander.eq_rectifier {c : Commander} (may : c.mayCommand .closing .acb = true) : c = .rectifier := by
  simpa [Commander.mayCommand] using may

namespace Plant

/-! ### The end of an operation at its target (R78) -/

/-- R71, R78: the plant with the coils of an item off. -/
def cutPulse (i : ItemId) (p : Plant) : Plant := p.setItem i { p.item i with openCoil := none, closeCoil := none }

theorem cutPulse_item (i : ItemId) (p : Plant) :
    (p.cutPulse i).item i = { p.item i with openCoil := none, closeCoil := none } :=
  (item_setItem ..).trans (if_pos rfl)

theorem pulseEnds_short (short : ∀ op, (p.item i).operation = some op → (p.item i).sensed ≠ op.direction.target) :
    p.pulseEnds e i = p.cutPulse i := by
  show (p.cutPulse i).completeIfAtTarget e i = _
  unfold completeIfAtTarget
  rw [cutPulse_item]
  split
  · exact if_neg (short _ ‹_›)
  · rfl

theorem pulseEnds_atTarget (running : (p.item i).operation = some op)
    (target : (p.item i).sensed = op.direction.target) :
    p.pulseEnds e i = (p.cutPulse i).completeOperation e i op := by
  show (p.cutPulse i).completeIfAtTarget e i = _
  unfold completeIfAtTarget
  rw [cutPulse_item]
  simp only [running, target, if_true]

theorem completeOperation_item (may : ∀ c ∈ op.waiting, c.mayCommand op.direction i = true) :
    (p.completeOperation e i op).item i =
      { p.item i with
        state := if op.direction = .opening then .opened else .closed
        operation := none, openCoil := none, closeCoil := none } := by
  unfold completeOperation
  dsimp only
  rw [item_deliverAll may fun _ => .inl rfl, report_ended (.inl rfl), item_setItem, if_pos rfl]
  cases op.direction <;> rfl

theorem limitEnds_atTarget (running : (p.item i).operation = some op)
    (target : (p.item i).sensed = op.direction.target) : p.limitEnds e i = p.completeOperation e i op := by
  unfold limitEnds
  simp only [running, target, if_true]

theorem limitEnds_short (running : (p.item i).operation = some op)
    (short : (p.item i).sensed ≠ op.direction.target) : p.limitEnds e i = p.failOperation e i op := by
  unfold limitEnds
  simp only [running, if_neg short]

/-! ### The failure of an operation (R79, R87) -/

/-- R79, R87: the plant with the failure of an operation recorded, before the commanders hear of it. -/
def failed (e : Env) (i : ItemId) (op : Operation) (p : Plant) : Plant :=
  (((p.setItem i ((p.item i).failOperation op)).latchIfNew e (.itemFail i) (p.item i).failLive true).post e (.item i)
    .itemFail [(op.direction.code : Int), (((op.limit - op.start) / 8 : Nat) : Int)]).raise e .switchgear

theorem failOperation_eq : p.failOperation e i op = (p.failed e i op).deliverAll e i op .failed := by
  unfold failOperation
  dsimp only
  rw [report_ended (.inr rfl)]
  rfl

theorem failed_item : (p.failed e i op).item i = (p.item i).failOperation op :=
  (item_setItem ..).trans (if_pos rfl)

theorem failed_nextIndex : (p.failed e i op).unit.nextIndex = p.unit.nextIndex + 1 := by
  simp only [failed, raise_unit, post_unit, latchIfNew_unit, setItem_unit, JournalUnit.raise_nextIndex,
    JournalUnit.post_nextIndex, JournalUnit.latchIfNew_nextIndex]

/-- R180: the condition of a lawful item with an operation under way was not live, so its failure latches. -/
theorem failed_latched (running : (p.item i).operation = some op) (law : (p.item i).lawful i) :
    (p.failed e i op).unit.latched.get (.itemFail i) = true := by
  obtain ⟨opening, closing, -⟩ := law
  have live : (p.item i).failLive = false := by
    cases direction : op.direction with
    | opening => simp [Item.failLive, opening.2 ⟨op, running, direction⟩]
    | closing => simp [Item.failLive, closing.2 ⟨op, running, direction⟩]
  simp only [failed, live, raise_unit, post_unit, latchIfNew_unit, JournalUnit.raise_latched]
  exact JournalUnit.post_latchIfNew_latched ..

theorem failOperation_latched (running : (p.item i).operation = some op) (law : (p.item i).lawful i) :
    (p.failOperation e i op).unit.latched.get (.itemFail i) = true := by
  rw [failOperation_eq]
  exact (Kept.latched e (.itemFail i)).deliverAll i op .failed (failed_latched running law)

/-- R79: the item after its failure, where no commander acts on it again. -/
theorem failOperation_item (may : ∀ c ∈ op.waiting, c.mayCommand op.direction i = true)
    (calm : ¬ (i = .acb ∧ op.direction = .closing ∧ .rectifier ∈ op.waiting ∧ p.rect.state = .syncing)) :
    (p.failOperation e i op).item i = (p.item i).failOperation op := by
  rw [failOperation_eq, item_deliverAll may, failed_item]
  intro acb
  cases direction : op.direction with
  | opening => exact .inr (.inl rfl)
  | closing =>
    by_cases waits : .rectifier ∈ op.waiting
    · exact .inr (.inr (.inr fun syncing => calm ⟨acb, direction, waits, syncing⟩))
    · exact .inr (.inr (.inl waits))

/-! ### The failed close of the ACB in SYNCING (R122, R127) -/

/-- R122: the plant of a rectifier that has stopped on a failed ACB, before its other stopping actions. -/
def haltedByAcb (p : Plant) : Plant := { p with rect := p.rect.stopWith .stopped .acbFail }

theorem rectStop_acbFail :
    p.rectStop e .acbFail =
      ((p.haltedByAcb.openIncomer e).post e .rectifier .rectState [(p.rect.state.code : Int), 0, 3]).raise e
        .rectifier := by
  unfold rectStop
  rw [if_pos (.inl rfl)]
  rfl

theorem rectStop_acbFail_rect : (p.rectStop e .acbFail).rect = p.rect.stopWith .stopped .acbFail := by
  rw [rectStop_acbFail]
  exact openIncomer_rect

/-- R122 step 2: the ACB that failed is commanded open at once. -/
theorem rectStop_acbFail_item (failed : (p.item .acb).state = .failedClose) :
    (p.rectStop e .acbFail).item .acb = (p.item .acb).startOpening e .acb [.rectifier] := by
  have item : p.haltedByAcb.item .acb = p.item .acb := rfl
  have notOpened : (p.haltedByAcb.item .acb).state ≠ .opened := by simp [item, failed]
  have notOpening : (p.haltedByAcb.item .acb).state ≠ .opening := by simp [item, failed]
  rw [rectStop_acbFail]
  show (p.haltedByAcb.openIncomer e).item .acb = _
  rw [openIncomer, if_neg notOpened, openCommand_taken rfl, item_setItem, if_pos rfl,
    Item.openCommand_starts notOpening, item]

theorem rectStop_acbFail_flag : (p.rectStop e .acbFail).unit.attention.rectifier = true := by
  rw [rectStop_acbFail]
  exact (JournalUnit.raise_attention _ .rectifier .rectifier).trans (if_pos rfl)

theorem rectStop_acbFail_entry : (p.rectStop e .acbFail).unit.journal.getLast? =
    some ⟨p.unit.nextIndex, e.time.stamp, .rectifier, .rectState, [(p.rect.state.code : Int), 0, 3]⟩ := by
  have unit : (p.haltedByAcb.openIncomer e).unit = p.unit := by
    unfold openIncomer
    split
    · rfl
    · exact openCommand_unit ..
  rw [rectStop_acbFail]
  simp only [raise_unit, post_unit, JournalUnit.raise_journal, JournalUnit.post_last, unit]

/-- R127: the first of the waiting commands stops the rectifier, and a stopped one passes over the others. -/
theorem deliverAll_stops (may : ∀ c ∈ op.waiting, c.mayCommand op.direction .acb = true)
    (closing : op.direction = .closing) (waits : .rectifier ∈ op.waiting) (syncing : p.rect.state = .syncing) :
    p.deliverAll e .acb op .failed = p.rectStop e .acbFail := by
  have stopped : (p.rectStop e .acbFail).rect.state = .stopped := by
    rw [rectStop_acbFail_rect]
    rfl
  unfold deliverAll
  cases list : op.waiting with
  | nil => simp [list] at waits
  | cons c rest =>
    rw [closing, list] at may
    have first : p.deliver e .acb .closing .failed c = p.rectStop e .acbFail := by
      rw [Commander.eq_rectifier (may c List.mem_cons_self)]
      exact if_pos syncing
    rw [List.foldl_cons, closing, first]
    refine List.foldlRecOn (motive := (· = p.rectStop e .acbFail)) rest _ rfl fun q same c mem => ?_
    subst same
    exact deliver_acb_calm (may c (List.mem_cons_of_mem _ mem)) (.inr (.inr (.inr (by simp [stopped]))))

/-- R127: a failed close of the ACB in SYNCING is the stop of the rectifier. -/
theorem failOperation_stops (may : ∀ c ∈ op.waiting, c.mayCommand op.direction .acb = true)
    (closing : op.direction = .closing) (waits : .rectifier ∈ op.waiting) (syncing : p.rect.state = .syncing) :
    p.failOperation e .acb op = (p.failed e .acb op).rectStop e .acbFail := by
  rw [failOperation_eq]
  exact deliverAll_stops (p := p.failed e .acb op) may closing waits syncing

end Plant

/-! ### O22 -/

/-- Settles O22: each expiry either finds its item at the target and completes the operation there, or cuts the
pulse, or records the failure, which only a rectifier in SYNCING answers on the item itself. -/
theorem operationsEnd : Obligations.OperationsEnd := by
  refine ⟨fun i x s running due => ⟨fun short => ?_, fun op operates target may => ?_⟩,
    fun i op s operates due may => ⟨_, exec_limitTimerExpiry operates due, rfl, rfl, rfl, rfl, rfl,
      fun short => ⟨fun law => ?_, fun calm => ?_, fun ⟨acb, closing, waits, syncing⟩ => ?_⟩, fun target => ?_⟩⟩
  · rw [exec_coilPulseEnd (Item.pulseEnd_eq running) due]
    show Host.Outcome.next { s with plant := s.plant.pulseEnds s.env i } = _
    rw [Plant.pulseEnds_short short]
    rfl
  · refine ⟨_, exec_coilPulseEnd (Item.pulseEnd_eq running) due, ?_, rfl, rfl, rfl, rfl⟩
    show (s.plant.pulseEnds s.env i).item i = _
    rw [Plant.pulseEnds_atTarget operates target, Plant.completeOperation_item may, Plant.cutPulse_item]
  · show (s.plant.limitEnds s.env i).unit.latched.get (.itemFail i) = true
    rw [Plant.limitEnds_short operates short]
    exact Plant.failOperation_latched operates law
  · show (s.plant.limitEnds s.env i).item i = _
    rw [Plant.limitEnds_short operates short, Plant.failOperation_item may calm, Item.failOperation]
    cases op.direction <;> rfl
  · subst acb
    have stops : s.plant.limitEnds s.env .acb = (s.plant.failed s.env .acb op).rectStop s.env .acbFail :=
      (Plant.limitEnds_short operates short).trans (Plant.failOperation_stops may closing waits syncing)
    have item : (s.plant.failed s.env .acb op).item .acb = (s.plant.item .acb).failOperation op := Plant.failed_item
    have code : (s.plant.failed s.env .acb op).rect.state.code = 1 := congrArg RectState.code syncing
    refine ⟨?_, ?_, ?_, ?_⟩
    · show (s.plant.limitEnds s.env .acb).item .acb = _
      rw [stops, Plant.rectStop_acbFail_item (by rw [item, Item.failOperation, closing]), item]
      rfl
    · show (s.plant.limitEnds s.env .acb).rect = _
      rw [stops, Plant.rectStop_acbFail_rect]
      rfl
    · show (s.plant.limitEnds s.env .acb).unit.attention.rectifier = true
      rw [stops, Plant.rectStop_acbFail_flag]
    · show (s.plant.limitEnds s.env .acb).unit.journal.getLast? = _
      rw [stops, Plant.rectStop_acbFail_entry, code, Plant.failed_nextIndex]
      rfl
  · show (s.plant.limitEnds s.env i).item i = _
    rw [Plant.limitEnds_atTarget operates target, Plant.completeOperation_item may]

end Sys2Proof.Machine
end

section
/-! PROOFS. The law of the feeders: the timers by state, and the open-pending set as the TRIPPING feeders (O30). -/

namespace Sys2Proof.Machine

/-- The law of the sequencers as a property of the plant; the membership of the feeder `x` in the open-pending set is
not settled yet (R92). -/
def Plant.FeederLaw (x : Option FeederId) (p : Plant) : Prop :=
  (∀ k, (p.feeder k).lawful) ∧ ∀ k, x ≠ some k → (k ∈ p.pendingOpen ↔ (p.feeder k).state = .tripping)

theorem mem_pendingWith {j k : FeederId} {l : List FeederId} : j ∈ pendingWith k l ↔ j = k ∨ j ∈ l := by
  simp [pendingWith, FeederId.mem_everyFeeder]

theorem Sequencer.lawful_enterTripping (reclose : Bool) (exit : Option ExitTarget) (f : Sequencer) :
    (f.enterTripping reclose exit).lawful := by
  simp [lawful, enterTripping, stopTimers]

theorem Sequencer.lawful_enterLockedOut (cause : LockoutCause) (f : Sequencer) : (f.enterLockedOut cause).lawful := by
  simp [lawful, enterLockedOut, stopTimers]

namespace Plant

variable {e : Env} {x : Option FeederId} {p : Plant} {k j : FeederId}

@[simp] theorem joinPending_feeders (k : FeederId) (p : Plant) : (p.joinPending e k).feeders = p.feeders := by
  unfold joinPending retardEntry
  dsimp only
  (repeat' split) <;> rfl

@[simp] theorem leavePending_feeders (k : FeederId) (p : Plant) : (p.leavePending e k).feeders = p.feeders := by
  unfold leavePending retardExit
  dsimp only
  (repeat' split) <;> rfl

@[simp] theorem feeder_joinPending (k j : FeederId) (p : Plant) : (p.joinPending e k).feeder j = p.feeder j :=
  congrArg (Six.get · j) (joinPending_feeders k p)

@[simp] theorem feeder_leavePending (k j : FeederId) (p : Plant) : (p.leavePending e k).feeder j = p.feeder j :=
  congrArg (Six.get · j) (leavePending_feeders k p)

@[simp] theorem joinPending_pendingOpen (k : FeederId) (p : Plant) :
    (p.joinPending e k).pendingOpen = pendingWith k p.pendingOpen := by
  unfold joinPending retardEntry
  dsimp only
  (repeat' split) <;> rfl

@[simp] theorem leavePending_pendingOpen (k : FeederId) (p : Plant) :
    (p.leavePending e k).pendingOpen = p.pendingOpen.filter (· ≠ k) := by
  unfold leavePending retardExit
  dsimp only
  (repeat' split) <;> rfl

/-- The law speaks of the sequencers and the open-pending set alone. -/
theorem FeederLaw.same {q : Plant} (law : p.FeederLaw x) (feeders : q.feeders = p.feeders)
    (pending : q.pendingOpen = p.pendingOpen) : q.FeederLaw x := by
  unfold FeederLaw feeder
  rw [feeders, pending]
  exact law

/-- A feeder may be changed freely while its membership is open, and else must keep whether it is TRIPPING. -/
theorem FeederLaw.setFeeder {f : Sequencer} (law : p.FeederLaw x) (lawful : (p.feeder k).lawful → f.lawful)
    (membership : x = some k ∨ (f.state = .tripping ↔ (p.feeder k).state = .tripping)) :
    (p.setFeeder k f).FeederLaw x := by
  obtain ⟨each, members⟩ := law
  refine ⟨fun j => ?_, fun j settled => ?_⟩
  · rw [feeder_setFeeder]
    split
    · exact lawful (each k)
    · exact each j
  · rw [feeder_setFeeder, setFeeder_pendingOpen, members j settled]
    split
    · rename_i same
      subst same
      exact (membership.resolve_left settled).symm
    · rfl

/-- R92: a feeder that enters TRIPPING joins the set. -/
theorem FeederLaw.join (law : p.FeederLaw none) (reclose : Bool) (exit : Option ExitTarget) :
    ((p.onFeeder k (Sequencer.enterTripping reclose exit)).joinPending e k).FeederLaw none := by
  obtain ⟨each, members⟩ := law
  refine ⟨fun j => ?_, fun j settled => ?_⟩
  · rw [feeder_joinPending, feeder_onFeeder]
    split
    · exact Sequencer.lawful_enterTripping ..
    · exact each j
  · rw [feeder_joinPending, feeder_onFeeder, joinPending_pendingOpen, onFeeder_pendingOpen, mem_pendingWith,
      members j settled]
    split
    · rename_i same
      exact iff_of_true (.inl same) rfl
    · rename_i other
      exact or_iff_right other

/-- R92: a feeder that is no longer TRIPPING leaves the set. -/
theorem FeederLaw.leave (law : p.FeederLaw (some k)) (left : (p.feeder k).state ≠ .tripping) :
    (p.leavePending e k).FeederLaw none := by
  obtain ⟨each, members⟩ := law
  refine ⟨fun j => by rw [feeder_leavePending]; exact each j, fun j _ => ?_⟩
  rw [feeder_leavePending, leavePending_pendingOpen, List.mem_filter, decide_eq_true_eq]
  by_cases same : j = k
  · subst same
    exact iff_of_false (fun h => h.2 rfl) left
  · rw [members j fun settled => same (Option.some.inj settled).symm]
    exact and_iff_left same

end Plant

/-- R92, R97, R99, R115: of the small changes, four concern a sequencer or the open-pending set. -/
theorem kept_feederLaw (e : Env) : Kept e Plant.FeederLaw where
  weaken _ h := ⟨h.1, fun j _ => h.2 j nofun⟩
  post _ _ _ h := h
  raise _ h := h
  latch _ h := h
  claim _ _ h := h
  disc _ _ h _ := h
  heat _ _ h := h
  seq _ _ h quiet := h.setFeeder quiet.1 quiet.2.1
  lock _ _ h clear := Plant.FeederLaw.setFeeder h (fun _ => Sequencer.lawful_enterLockedOut ..)
    (clear.imp_right fun notTripping => iff_of_false nofun notTripping)
  join _ reclose exit h := h.join reclose exit
  leave _ h left := h.leave left
  item _ _ h _ := h
  itemFails _ _ h := h
  itemUnsensed _ _ h _ _ := h
  rect _ h _ _ := h
  rectTrips _ h _ := h
  rail _ h _ _ := h
  railPermanent _ h _ := h
  frameFault _ h _ := h
  tracker _ h := h
  trackerQuiet _ h _ := h
  capture h := h

theorem Plant.feederLaw_atReset (e : Env) (reference : Nat) (records : RecordStore) (unit : JournalUnit) :
    ((Plant.atReset reference records unit).startSupply e).FeederLaw none := by
  have reset (k : FeederId) : ((Plant.atReset reference records unit).startSupply e).feeder k = Sequencer.reset :=
    Six.get_all ..
  refine ⟨fun k => ?_, fun k _ => ?_⟩
  · rw [reset]
    simp [Sequencer.lawful, Sequencer.reset]
  · rw [reset]
    exact iff_of_false List.not_mem_nil nofun

/-- The law of the feeders is a law of the plant. -/
theorem plantLaw_feederLaw : PlantLaw Plant.FeederLaw where
  kept := kept_feederLaw
  unit _ h := h
  records _ h := h
  powerOn e reference := Plant.feederLaw_atReset e reference _ _
  warmReset e reference _ _ := Plant.feederLaw_atReset e reference _ _

theorem State.feederLaw_iff (s : State) : s.feederLaw ↔ s.plant.FeederLaw none :=
  and_congr_right fun _ => forall_congr' fun _ => ⟨fun law _ => law, fun law => law nofun⟩

end Sys2Proof.Machine
end

section
/-! PROOFS. The law of the rectifier: it is read off the station record, the open-pending set and the rectifier alone, so
each command either leaves these three alone, or is made of the blocks' small changes, or changes the station record
(O30). -/

namespace Sys2Proof.Machine

/-! ### The small changes (R135, R136) -/

/-- R124, R135, R136, R140, of the plant. -/
def Plant.RectifierLaw (e : Env) (p : Plant) : Prop := p.rect.lawful e p.pendingOpen

namespace Plant

variable {e : Env} {p : Plant} {k : FeederId}

theorem retardEntry_firing {f : StationFields} (record : e.store.stationFields = some f)
    (drives : p.rect.state = .softStart ∨ p.rect.state = .regulating ∨ p.rect.state = .currentLimit) :
    (p.retardEntry e).rect.state = .retard := by
  unfold retardEntry
  rcases drives with state | state | state <;> simp only [record, state, post_rect]

theorem retardEntry_other (other : e.store.stationFields = none ∨ ¬ (p.rect.state = .softStart ∨
    p.rect.state = .regulating ∨ p.rect.state = .currentLimit)) : p.retardEntry e = p := by
  unfold retardEntry
  split
  case h_4 => rfl
  all_goals simp_all

/-- R135: the rectifier at an entry into RETARD. -/
theorem retardEntry_lawful {pending : List FeederId} (some : pending ≠ [])
    (law : p.rect.lawful e []) : (p.retardEntry e).rect.lawful e pending := by
  obtain ⟨running, retard, rest⟩ := law
  by_cases drives : p.rect.state = .softStart ∨ p.rect.state = .regulating ∨ p.rect.state = .currentLimit
  · have record := running (by rcases drives with state | state | state <;> rw [state] <;> rfl)
    obtain ⟨f, fields⟩ := Option.isSome_iff_exists.1 record
    have state := retardEntry_firing fields drives
    exact ⟨fun _ => record, fun _ => iff_of_true state some, by rw [state]; nofun⟩
  · rw [retardEntry_other (.inr drives)]
    refine ⟨running, fun fires => ?_, rest⟩
    have calm : p.rect.state ≠ .retard := fun state => (retard fires).1 state rfl
    revert drives fires calm
    cases p.rect.state <;> simp [RectState.firing]

theorem RectifierLaw.join (law : p.RectifierLaw e) : (p.joinPending e k).RectifierLaw e := by
  have joined : pendingWith k p.pendingOpen ≠ [] := List.ne_nil_of_mem (mem_pendingWith.2 (.inl rfl))
  unfold RectifierLaw
  rw [joinPending_pendingOpen]
  unfold joinPending
  dsimp only
  split
  · rename_i empty
    rw [RectifierLaw, List.isEmpty_iff.1 empty] at law
    exact retardEntry_lawful (p := { p with pendingOpen := pendingWith k p.pendingOpen }) joined law
  · rename_i notEmpty
    obtain ⟨running, retard, rest⟩ := law
    refine ⟨running, fun fires => (retard fires).trans (iff_of_true ?_ joined), rest⟩
    exact fun empty => notEmpty (List.isEmpty_iff.2 empty)

/-- R136: the rectifier at the end of RETARD. -/
theorem retardExit_lawful {pending : List FeederId} (some : pending ≠ []) (law : p.rect.lawful e pending) :
    (p.retardExit e).rect.lawful e [] := by
  obtain ⟨running, retard, rest⟩ := law
  unfold retardExit
  split
  · rename_i state
    exact ⟨fun _ => running (by rw [state]; rfl), fun _ => iff_of_false nofun (· rfl), nofun⟩
  · rename_i other
    exact ⟨running, fun fires => absurd ((retard fires).2 some) other, rest⟩

theorem RectifierLaw.leave (law : p.RectifierLaw e) : (p.leavePending e k).RectifierLaw e := by
  unfold RectifierLaw
  rw [leavePending_pendingOpen]
  unfold leavePending
  dsimp only
  split
  · rename_i emptied
    simp only [Bool.and_eq_true, Bool.not_eq_true', List.isEmpty_eq_false_iff, List.isEmpty_iff] at emptied
    obtain ⟨before, after⟩ := emptied
    rw [after]
    exact retardExit_lawful (p := { p with pendingOpen := [] }) before law
  · rename_i stays
    obtain ⟨running, retard, rest⟩ := law
    refine ⟨running, fun fires => (retard fires).trans ?_, rest⟩
    simp only [Bool.and_eq_true, Bool.not_eq_true', List.isEmpty_eq_false_iff, List.isEmpty_iff, not_and] at stays
    refine not_congr ⟨fun before => by rw [before]; rfl, fun after => ?_⟩
    exact Classical.byContradiction fun before => stays before after

end Plant

/-- R124, R135, R136, R140: of the small changes, four concern the rectifier or the open-pending set. -/
theorem kept_rectifierLaw (e : Env) : Kept e (fun _ p => p.RectifierLaw e) where
  weaken _ h := h
  post _ _ _ h := h
  raise _ h := h
  latch _ h := h
  claim _ _ h := h
  disc _ _ h _ := h
  heat _ _ h := h
  seq _ _ h _ := h
  lock _ _ h _ := h
  join _ reclose exit h := Plant.RectifierLaw.join (p := Plant.onFeeder _ (Sequencer.enterTripping reclose exit) _) h
  leave _ h _ := h.leave
  item _ _ h _ := h
  itemFails _ _ h := h
  itemUnsensed _ _ h _ _ := h
  rect _ h _ lawful := lawful h
  rectTrips _ h lawful := lawful h
  rail _ h _ _ := h
  railPermanent _ h _ := h
  frameFault _ h _ := h
  tracker _ h := h
  trackerQuiet _ h _ := h
  capture h := h

namespace State

variable {s t : State} {n : SetId}

/-! ### What the law follows -/

/-- A change that leaves alone what the law of the rectifier reads. -/
structure SparesRectifier (s t : State) : Prop where
  station : t.store.stationFields = s.store.stationFields
  rect : t.plant.rect = s.plant.rect
  pending : t.plant.pendingOpen = s.plant.pendingOpen

theorem rectifierLaw.spared (law : s.rectifierLaw) (h : s.SparesRectifier t) : t.rectifierLaw := by
  unfold rectifierLaw
  rw [h.station, h.rect, h.pending]
  exact law

/-- An event of the plant's blocks. -/
theorem rectifierLaw.event {f : Env → Plant → Plant} (law : s.rectifierLaw)
    (h : ∀ {P : Option FeederId → Plant → Prop}, Kept s.env P → P none s.plant → P none (f s.env s.plant)) :
    (s.onPlant f).rectifierLaw := h (kept_rectifierLaw s.env) law

theorem Resolves.sparesRectifier {ks : List FeederId} (h : Resolves ks s t) : s.SparesRectifier t := by
  obtain ⟨feeders, unit, frame⟩ := h.frame
  refine ⟨?_, by rw [frame], by rw [frame]⟩
  rw [h.store, Store.stationFields, Store.rebindEach_station]
  rfl

/-- R122, R124: a rectifier without a station record that is at rest. -/
theorem rectifierLaw_atRest (rests : s.plant.rect.state.running = false) (schedule : s.plant.rect.schedule = none)
    (bursts : ∀ gate : GateId, s.plant.rect.bursts[gate] = none) : s.rectifierLaw := by
  have notFiring : s.plant.rect.state.firing = false := by
    revert rests
    cases s.plant.rect.state <;> simp [RectState.running, RectState.firing]
  exact ⟨fun runs => absurd runs (by simp [rests]), fun fires => absurd fires (by simp [notFiring]),
    fun _ => ⟨schedule, bursts⟩⟩

/-! ### The station record (R124) -/

/-- R131: new contents of the station record. -/
theorem rectifierLaw.presented {t : State} {reference : Nat} (law : s.rectifierLaw)
    (record : t.store.stationFields.isSome) (rect : t.plant.rect = { s.plant.rect with reference := reference })
    (pending : t.plant.pendingOpen = s.plant.pendingOpen) : t.rectifierLaw := by
  obtain ⟨-, retard, rest⟩ := law
  unfold rectifierLaw
  rw [rect, pending]
  exact ⟨fun _ => record, retard, rest⟩

/-- R124: the station record is lost, and the rectifier stops if it runs. -/
theorem rectifierLaw.lost {store : Store} {tracker : Tracker} {unit : JournalUnit} (law : s.rectifierLaw) :
    ({ s with store := store }.onPlant
      (fun e p => { p with tracker := tracker, unit := unit }.rectSettingsLost e)).rectifierLaw := by
  let e : Env := ⟨s.time, s.front, store⟩
  let p : Plant := { s.plant with tracker := tracker, unit := unit }
  show (State.mk s.pending s.panel s.time s.front store (p.rectSettingsLost e) s.energy s.link).rectifierLaw
  by_cases runs : s.plant.rect.state.running = true
  · have rect : (p.rectSettingsLost e).rect = s.plant.rect.stopWith .stopped .settings :=
      (Plant.rectSettingsLost_running (p := p) runs).rect
    have atRest := Rectifier.lawful_stopWith (e := e) (pend := []) s.plant.rect .stopped .settings (.inl rfl)
    obtain ⟨schedule, bursts⟩ := atRest.2.2 rfl
    refine rectifierLaw_atRest ?_ ?_ ?_ <;> simp only [rect]
    · rfl
    · exact schedule
    · exact bursts
  · have rests := Bool.eq_false_of_not_eq_true runs
    have rect : (p.rectSettingsLost e).rect = s.plant.rect := Plant.rectSettingsLost_atRest (p := p) rests
    have notFiring : s.plant.rect.state.firing = false := by
      revert rests
      cases s.plant.rect.state <;> simp [RectState.running, RectState.firing]
    obtain ⟨schedule, bursts⟩ := law.2.2 notFiring
    refine rectifierLaw_atRest ?_ ?_ ?_ <;> simp only [rect]
    · exact rests
    · exact schedule
    · exact bursts

theorem rectifierLaw.completeStation {fields readBack : StationFields} (law : s.rectifierLaw) :
    (s.completeStation fields readBack).rectifierLaw := by
  by_cases passes : readBack = fields ∧ checkWordRule readBack.toList = true
  · obtain ⟨rfl, check⟩ := passes
    unfold State.completeStation
    simp only [check, decide_true, Bool.true_and, if_true]
    rw [presentStation_valid (f := readBack) (by rfl)]
    exact law.presented rfl rfl rfl
  · obtain ⟨tracker, unit, completed⟩ := completeStation_failed (s := s) passes
    rw [completed]
    exact law.lost

theorem rectifierLaw.visit {found : Option FoundRecord} (law : s.rectifierLaw) : (s.visit found).rectifierLaw := by
  rcases s.scan_cases with ⟨n, set⟩ | station
  · rw [visit_set set]
    rcases s.visitSet_cases n found with ⟨same, -⟩ | ⟨stored, -, -, invalid⟩
    · rwa [same]
    · exact law.spared ⟨invalid.sparesRectifier.station, invalid.sparesRectifier.rect, invalid.sparesRectifier.pending⟩
  · rw [visit_station station]
    rcases s.visitStation_cases found with ⟨same, -⟩ | ⟨stored, record, fails, -⟩
    · rwa [same]
    · obtain ⟨tracker, unit, lost⟩ := visitStation_fails record fails
      rw [lost]
      exact law.lost

/-! ### The other completions and the resets -/

theorem rectifierLaw.completeSet {fields readBack : SetFields} (law : s.rectifierLaw) :
    (s.completeSet n fields readBack).rectifierLaw := by
  by_cases passes : readBack = fields ∧ checkWordRule readBack.toList = true
  · obtain ⟨rfl, check⟩ := passes
    obtain ⟨t, completed, written, -⟩ := s.completeSet_passed n check
    rw [completed]
    exact law.spared ⟨written.sparesRectifier.station, written.sparesRectifier.rect, written.sparesRectifier.pending⟩
  · obtain ⟨t, completed, written⟩ := s.completeSet_failed n passes
    rw [completed]
    exact law.spared ⟨written.sparesRectifier.station, written.sparesRectifier.rect, written.sparesRectifier.pending⟩

theorem rectifierLaw.completeEntry {k : FeederId} {f : FeedState} {value readBack : Option SetId}
    (law : s.rectifierLaw) : (s.completeEntry k f value readBack).rectifierLaw := by
  by_cases passes : readBack = value
  · subst passes
    obtain ⟨t, completed, written⟩ := s.completeEntry_passed k f readBack
    rw [completed]
    exact law.spared ⟨written.sparesRectifier.station, written.sparesRectifier.rect, written.sparesRectifier.pending⟩
  · obtain ⟨t, completed, written⟩ := s.completeEntry_failed k f passes
    rw [completed]
    exact law.spared ⟨written.sparesRectifier.station, written.sparesRectifier.rect, written.sparesRectifier.pending⟩

theorem rectifierLaw_resetWith (x : ResetInputs) (cause : ResetCause) (time : TimeBase) (records : RecordStore)
    (unit : JournalUnit) (energy : Energy) (s : State) :
    (s.resetWith x cause time records unit energy).rectifierLaw := by
  obtain ⟨after, frame⟩ := resetWith_frame x cause time records unit energy s
  rw [frame]
  refine rectifierLaw_atRest rfl rfl fun gate => ?_
  fin_cases gate <;> rfl

end State

end Sys2Proof.Machine
end

section
/-! PROOFS. The walk through the commands for the law of the rectifier (O30). -/

namespace Sys2Proof.Machine

section
variable {Q : State → Prop} {s : State}

theorem needsRemote_preserves {serve : State → Served} (served : Q (serve s).1) (q : Q s) :
    Q (needsRemote serve s).1 := by
  unfold needsRemote
  split
  · exact served
  · exact q

theorem needsKey_preserves {serve : State → Served} (served : Q (serve s).1) (q : Q s) : Q (needsKey serve s).1 := by
  unfold needsKey
  split
  · exact served
  · exact q

theorem withFeeder_preserves {serve : FeederId → State → Served} {b : Byte} (served : ∀ k, Q (serve k s).1) (q : Q s) :
    Q (withFeeder b serve s).1 := by
  unfold withFeeder
  split
  · exact served _
  · exact q

theorem State.atExpiry_preserves {expiry : Option Nat} {act : State → State}
    (h : ∀ time : TimeBase, Q (act { s with time := time })) (q : Q s) : Q (s.atExpiry expiry act) := by
  rcases s.atExpiry_cases expiry act with same | now | next
  · rwa [same]
  · rw [now]; exact h s.time
  · rw [next]; exact h s.time.begin

end

namespace State.rectifierLaw

variable {s : State} (law : s.rectifierLaw)
include law

/-! ### Requests that leave the rectifier alone -/

theorem serveWriteSet (number : Byte) (fields : SetFields) : (serveWriteSet number fields s).1.rectifierLaw := by
  refine needsKey_preserves ?_ law
  split
  · exact law
  · split
    · exact law
    · exact law.spared ⟨rfl, rfl, rfl⟩

theorem serveReadSet (number : Byte) : (serveReadSet number s).1.rectifierLaw := by
  unfold Machine.serveReadSet
  split <;> exact law

theorem serveEraseSet (number : Byte) : (serveEraseSet number s).1.rectifierLaw := by
  refine needsKey_preserves ?_ law
  split
  · exact law
  · rename_i n _
    split
    · exact law
    · have erased := (resolves_eraseSet n s).sparesRectifier
      exact law.spared ⟨erased.station, erased.rect, erased.pending⟩

theorem serveWriteMapEntry (feeder feedState value : Byte) :
    (serveWriteMapEntry feeder feedState value s).1.rectifierLaw := by
  refine needsKey_preserves (withFeeder_preserves (fun k => ?_) law) law
  split
  · exact law
  · split
    · exact law
    · exact law.spared ⟨rfl, rfl, rfl⟩

theorem serveWriteStationRecord (fields : StationFields) : (serveWriteStationRecord fields s).1.rectifierLaw := by
  refine needsKey_preserves ?_ law
  split
  · exact law
  · exact law.spared ⟨rfl, rfl, rfl⟩

theorem applyFeedState (k : FeederId) (f : FeedState) : (s.applyFeedState k f).rectifierLaw := by
  by_cases same : s.store.feed.get k = f
  · rwa [applyFeedState_same same]
  · have applied := (resolves_applyFeedState same).sparesRectifier
    exact law.spared ⟨applied.station, applied.rect, applied.pending⟩

theorem serveSetFeedState (feeder feedState : Byte) : (serveSetFeedState feeder feedState s).1.rectifierLaw :=
  withFeeder_preserves (fun k => law.applyFeedState k _) law

theorem serveReadFeeder (feeder : Byte) : (serveReadFeeder feeder s).1.rectifierLaw :=
  withFeeder_preserves (fun _ => law) law

theorem serveRestart : (serveRestart s).1.rectifierLaw := needsRemote_preserves law law

theorem serveClearEnergy : (serveClearEnergy s).1.rectifierLaw := needsKey_preserves (law.spared ⟨rfl, rfl, rfl⟩) law

theorem serveClearFeederCounters (feeder : Byte) : (serveClearFeederCounters feeder s).1.rectifierLaw :=
  needsKey_preserves (withFeeder_preserves (fun _ => law.spared ⟨rfl, rfl, rfl⟩) law) law

theorem serveReleaseJournal (index : Word16) : (serveReleaseJournal index s).1.rectifierLaw := by
  unfold Machine.serveReleaseJournal
  split
  · exact law
  · exact law.spared ⟨rfl, rfl, rfl⟩

theorem serveReadRecordPiece (slot piece : Byte) : (serveReadRecordPiece slot piece s).1.rectifierLaw := by
  unfold Machine.serveReadRecordPiece
  split
  · exact law
  · split
    · exact law
    · split
      · exact law
      · exact law
      all_goals exact law.spared ⟨rfl, rfl, rfl⟩

theorem serveFreeRecord (slot : Byte) : (serveFreeRecord slot s).1.rectifierLaw := by
  unfold Machine.serveFreeRecord
  split
  · exact law
  · split
    · exact law
    · exact law
    all_goals exact law.spared ⟨rfl, rfl, rfl⟩

/-! ### Requests of the plant's blocks -/

theorem serveFeederClose (feeder : Byte) : (serveFeederClose feeder s).1.rectifierLaw := by
  refine needsRemote_preserves (withFeeder_preserves (fun k => ?_) law) law
  split
  · rename_i may
    exact law.event fun K => K.manualClose k may
  · exact law

theorem serveFeederOpen (feeder : Byte) : (serveFeederOpen feeder s).1.rectifierLaw := by
  refine needsRemote_preserves (withFeeder_preserves (fun k => ?_) law) law
  split
  · exact law.event fun K => K.manualOpen k
  · exact law

theorem serveResetLockout (feeder : Byte) : (serveResetLockout feeder s).1.rectifierLaw := by
  refine needsRemote_preserves (withFeeder_preserves (fun k => ?_) law) law
  split
  · rename_i may
    simp only [Plant.mayReset, Bool.and_eq_true, decide_eq_true_eq] at may
    obtain ⟨⟨lockedOut, -⟩, -⟩ := may
    exact law.event fun K => K.resetLockout k lockedOut
  · exact law

theorem serveRectifierStart : (serveRectifierStart s).1.rectifierLaw := by
  refine needsRemote_preserves ?_ law
  split
  · exact law
  · rename_i taken
    obtain ⟨record, atRest⟩ := State.startRefusal_none taken
    exact law.event fun K => K.rectStart record atRest

theorem serveRectifierStop : (serveRectifierStop s).1.rectifierLaw :=
  needsRemote_preserves (law.event fun K => K.requestStop) law

theorem serveSetVoltageReference (voltage : Word16) : (serveSetVoltageReference voltage s).1.rectifierLaw := by
  obtain ⟨running, retard, rest⟩ := law
  exact ⟨running, retard, rest⟩

theorem serveReleaseEarthing : (serveReleaseEarthing s).1.rectifierLaw := by
  refine needsRemote_preserves ?_ law
  split
  · exact law.event fun K => K.releaseEarthing
  · exact law

theorem serveClearFrameFault : (serveClearFrameFault s).1.rectifierLaw := by
  refine needsRemote_preserves (needsKey_preserves ?_ law) law
  split
  · exact law.event fun K => K.clearFrameFault
  · exact law

theorem serveKind (r : RequestKind) (payload : List Byte) : (serveKind r payload s).1.rectifierLaw := by
  cases r with
  | identify | echo | readStatus | readMeasurements | readEnergy | readMap | readStationRecord | readItems
  | readRectifier | readRail | fetchJournal | readAlarms | listRecords => exact law
  | readAttention | noticeMask | setTime | acknowledgeAlarms => exact law.spared ⟨rfl, rfl, rfl⟩
  | readFeeder => exact law.serveReadFeeder _
  | restart => exact law.serveRestart
  | clearEnergy => exact law.serveClearEnergy
  | writeSet => exact law.serveWriteSet ..
  | readSet => exact law.serveReadSet _
  | eraseSet => exact law.serveEraseSet _
  | writeMapEntry => exact law.serveWriteMapEntry ..
  | writeStationRecord => exact law.serveWriteStationRecord _
  | setFeedState => exact law.serveSetFeedState ..
  | feederClose => exact law.serveFeederClose _
  | feederOpen => exact law.serveFeederOpen _
  | resetLockout => exact law.serveResetLockout _
  | clearFeederCounters => exact law.serveClearFeederCounters _
  | rectifierStart => exact law.serveRectifierStart
  | rectifierStop => exact law.serveRectifierStop
  | setVoltageReference => exact law.serveSetVoltageReference _
  | releaseEarthing => exact law.serveReleaseEarthing
  | clearFrameFault => exact law.serveClearFrameFault
  | releaseJournal => exact law.serveReleaseJournal _
  | readRecordPiece => exact law.serveReadRecordPiece ..
  | freeRecord => exact law.serveFreeRecord _

/-! ### Frames and transmissions -/

theorem serveFrame (f : LinkFrame) : (serveFrame f s).1.rectifierLaw := by
  unfold Machine.serveFrame
  cases RequestKind.ofByte f.kind with
  | none => exact law
  | some r =>
    show ((if r.accepts f.payload.length then Machine.serveKind r f.payload else answered _) s).1.rectifierLaw
    split
    · exact law.serveKind ..
    · exact law

theorem offer {pins : Pins} {f : LinkFrame} {serve : State → Served}
    (h : ∀ {s : State}, s.rectifierLaw → (serve s).1.rectifierLaw) : (s.offer pins f serve).rectifierLaw := by
  unfold State.offer
  split
  · have served := h (s := s.begin pins f.kind f.tag) law
    exact served.spared ⟨by rw [execute, finish_store], by rw [execute, finish_plant], by rw [execute, finish_plant]⟩
  · exact law

theorem startExecution (pins : Pins) : (s.startExecution pins).rectifierLaw := by
  rcases s.startExecution_cases pins with same | ⟨f, rest, -, -, served⟩
  · rwa [same]
  · have kept := serveFrame (s := ({ s with link := { s.link with queue := rest } } : State).begin pins f.kind f.tag) law f
    rw [served]
    exact kept.spared ⟨by rw [execute, finish_store], by rw [execute, finish_plant], by rw [execute, finish_plant]⟩

theorem transmitStart : s.transmitStart.rectifierLaw := by
  rcases s.transmitStart_cases with same | ⟨f, -, -, -, begun⟩ | ⟨n, -, -, -, -, begun⟩
  · rwa [same]
  · rw [begun]
    exact startExecution (s := { s with link := s.link.beginReply f }) law _
  · rw [begun]
    exact law.spared ⟨rfl, rfl, rfl⟩

theorem frameTransmitEnd : ∃ t, Machine.exec .frameTransmitEnd s = .next t ∧ t.rectifierLaw := by
  by_cases idle : s.link.transmitter = .idle
  · exact ⟨s, by simp [Machine.exec, execFrameTransmitEnd, idle], law⟩
  · exact ⟨_, exec_frameTransmitEnd_sending idle, transmitStart (s := { s with link := s.link.transmitEnd }) law⟩

theorem receiveByte (pins : Pins) (b : Byte) : (s.receiveByte pins b).rectifierLaw := by
  unfold State.receiveByte
  split
  · split <;> exact law
  · split <;> exact law
  · split <;> exact law
  · exact law
  · unfold State.checkFrame
    dsimp only
    split
    · exact offer (s := { s with link := s.link.setAssembly .hunt }) law (fun law => law.serveFrame _)
    · exact law
  · exact law

theorem linkBreak : s.linkBreak.rectifierLaw := by
  unfold State.linkBreak
  split
  · exact law
  · exact law.spared ⟨rfl, rfl, rfl⟩

/-! ### Expiries and completions -/

/-- The expiry of a timer of the plant. -/
theorem expiresEvent {expiry : Option Nat} {f : Env → Plant → Plant}
    (h : ∀ {e : Env} {P : Option FeederId → Plant → Prop}, Kept e P → P none s.plant → P none (f e s.plant)) :
    (s.atExpiry expiry (fun s => s.onPlant f)).rectifierLaw :=
  atExpiry_preserves (fun time => event (s := { s with time := time }) law h) law

theorem setWriteCompletion (readBack : SetFields) :
    ∃ t, Machine.exec (.setWriteCompletion readBack) s = .next t ∧ t.rectifierLaw := by
  refine ⟨_, rfl, ?_⟩
  split
  · exact atExpiry_preserves (fun time => completeSet (s := { s with time := time }) law) law
  all_goals exact law

theorem stationRecordWriteCompletion (readBack : StationFields) :
    ∃ t, Machine.exec (.stationRecordWriteCompletion readBack) s = .next t ∧ t.rectifierLaw := by
  refine ⟨_, rfl, ?_⟩
  split
  · exact atExpiry_preserves (fun time => completeStation (s := { s with time := time }) law) law
  all_goals exact law

theorem mapEntryWriteCompletion (readBack : Option SetId) :
    ∃ t, Machine.exec (.mapEntryWriteCompletion readBack) s = .next t ∧ t.rectifierLaw := by
  refine ⟨_, rfl, ?_⟩
  split
  · exact atExpiry_preserves (fun time => completeEntry (s := { s with time := time }) law) law
  all_goals exact law

theorem scanVisit (found : Option FoundRecord) :
    ∃ t, Machine.exec (.scanVisit found) s = .next t ∧ t.rectifierLaw := by
  refine ⟨_, rfl, atExpiry_preserves (fun time => ?_) law⟩
  have visited : (State.visit found { s with time := time }).rectifierLaw := visit law
  exact visited.spared ⟨rfl, rfl, rfl⟩

/-! ### Events of the other blocks -/

theorem sampleInstant (x : SampleInputs) : (s.sampleInstant x).rectifierLaw := by
  have sampled : (s.sampled x).rectifierLaw := event law fun K => K.sampleEvents x
  rw [State.sampleInstant_eq]
  split
  · exact event (s := { s.sampled x with front := (s.sampled x).front.closeMillisecond }) sampled
      fun K => K.millisecondEvents x
  · exact sampled

theorem crystalFailure : ∃ t, Machine.exec .crystalFailure s = .next t ∧ t.rectifierLaw := by
  cases source : s.time.source with
  | crystal => exact ⟨_, exec_crystalFailure source, law.spared ⟨rfl, rfl, rfl⟩⟩
  | fallback => exact ⟨s, by simp [Machine.exec, execCrystalFailure, source], law⟩

theorem crystalReturn : ∃ t, Machine.exec .crystalReturn s = .next t ∧ t.rectifierLaw := by
  refine ⟨_, rfl, ?_⟩
  split
  · exact law
  · split
    · exact law.spared ⟨rfl, rfl, rfl⟩
    · exact law

theorem pulseInstant (gate : GateId) : ∃ t, Machine.exec (.pulseInstant gate) s = .next t ∧ t.rectifierLaw := by
  refine ⟨_, rfl, ?_⟩
  split
  · exact law
  · split
    · rename_i fires
      rw [Bool.and_eq_true] at fires
      exact law.event fun K => K.firePulse gate fires.1
    · exact law

theorem burstEnd (gate : GateId) : ∃ t, Machine.exec (.burstEnd gate) s = .next t ∧ t.rectifierLaw := by
  refine ⟨_, rfl, ?_⟩
  split
  · exact law
  · split
    · exact law.event fun K => K.endBurst gate
    · exact law

theorem restartReset (x : ResetInputs) : ∃ t, Machine.exec (.restartReset x) s = .next t ∧ t.rectifierLaw := by
  refine ⟨_, rfl, ?_⟩
  split
  · exact rectifierLaw_resetWith ..
  · exact law

/-- Every command keeps the law. -/
theorem exec (c : Instr) : ∃ t, Machine.exec c s = .next t ∧ t.rectifierLaw := by
  cases c with
  | powerOnReset | pinReset => exact ⟨_, rfl, rectifierLaw_resetWith ..⟩
  | restartReset => exact law.restartReset _
  | crystalFailure => exact law.crystalFailure
  | crystalReturn => exact law.crystalReturn
  | sampleInstant => exact ⟨_, rfl, law.sampleInstant _⟩
  | noCrossingExpiry => exact ⟨_, rfl, law.expiresEvent fun K => K.noCrossing⟩
  | coilPulseEnd => exact ⟨_, rfl, law.expiresEvent fun K => K.pulseEnds _⟩
  | limitTimerExpiry => exact ⟨_, rfl, law.expiresEvent fun K => K.limitEnds _⟩
  | deadTimeExpiry => exact ⟨_, rfl, law.expiresEvent fun K => K.deadTimeExpires _⟩
  | settleExpiry => exact ⟨_, rfl, law.expiresEvent fun K => K.settleExpires_stopped _⟩
  | serviceTimerExpiry => exact ⟨_, rfl, law.expiresEvent fun K => K.serviceExpires _⟩
  | pulseInstant => exact law.pulseInstant _
  | burstEnd => exact law.burstEnd _
  | railHoldExpiry => exact ⟨_, rfl, law.expiresEvent fun K h => K.holdExpires (K.onRail h id id)⟩
  | energyPulseOnExpiry | energyPulseGapExpiry | recordHoldExpiry | noticeHoldoffExpiry =>
    exact ⟨_, rfl, atExpiry_preserves (fun _ => law.spared ⟨rfl, rfl, rfl⟩) law⟩
  | scanVisit => exact law.scanVisit _
  | setWriteCompletion => exact law.setWriteCompletion _
  | stationRecordWriteCompletion => exact law.stationRecordWriteCompletion _
  | mapEntryWriteCompletion => exact law.mapEntryWriteCompletion _
  | receivedCharacter char pins =>
    cases char with
    | byte b => exact ⟨_, rfl, law.receiveByte pins b⟩
    | framingError => exact ⟨_, rfl, law⟩
  | gapTimerExpiry | linkBreakEnd => exact ⟨_, rfl, law⟩
  | linkBreak => exact ⟨_, rfl, law.linkBreak⟩
  | requestExecutionStart pins => exact ⟨_, rfl, startExecution (s := s.setPins pins) law pins⟩
  | unknownKind => exact ⟨_, rfl, law.offer fun law => law.serveFrame _⟩
  | frameTransmitStart => exact ⟨_, rfl, law.transmitStart⟩
  | frameTransmitEnd => exact law.frameTransmitEnd
  | identify | echo | readStatus | readMeasurements | readEnergy | readMap | readStationRecord | readItems
  | readRectifier | readRail | fetchJournal | readAlarms | listRecords => exact ⟨_, rfl, law.offer id⟩
  | readAttention | noticeMask | setTime | acknowledgeAlarms =>
    exact ⟨_, rfl, law.offer fun law => law.spared ⟨rfl, rfl, rfl⟩⟩
  | readFeeder => exact ⟨_, rfl, law.offer fun law => law.serveReadFeeder _⟩
  | restart => exact ⟨_, rfl, law.offer fun law => law.serveRestart⟩
  | clearEnergy => exact ⟨_, rfl, law.offer fun law => law.serveClearEnergy⟩
  | writeSet => exact ⟨_, rfl, law.offer fun law => law.serveWriteSet ..⟩
  | readSet => exact ⟨_, rfl, law.offer fun law => law.serveReadSet _⟩
  | eraseSet => exact ⟨_, rfl, law.offer fun law => law.serveEraseSet _⟩
  | writeMapEntry => exact ⟨_, rfl, law.offer fun law => law.serveWriteMapEntry ..⟩
  | writeStationRecord => exact ⟨_, rfl, law.offer fun law => law.serveWriteStationRecord _⟩
  | setFeedState => exact ⟨_, rfl, law.offer fun law => law.serveSetFeedState ..⟩
  | feederClose => exact ⟨_, rfl, law.offer fun law => law.serveFeederClose _⟩
  | feederOpen => exact ⟨_, rfl, law.offer fun law => law.serveFeederOpen _⟩
  | resetLockout => exact ⟨_, rfl, law.offer fun law => law.serveResetLockout _⟩
  | clearFeederCounters => exact ⟨_, rfl, law.offer fun law => law.serveClearFeederCounters _⟩
  | rectifierStart => exact ⟨_, rfl, law.offer fun law => law.serveRectifierStart⟩
  | rectifierStop => exact ⟨_, rfl, law.offer fun law => law.serveRectifierStop⟩
  | setVoltageReference => exact ⟨_, rfl, law.offer fun law => law.serveSetVoltageReference _⟩
  | releaseEarthing => exact ⟨_, rfl, law.offer fun law => law.serveReleaseEarthing⟩
  | clearFrameFault => exact ⟨_, rfl, law.offer fun law => law.serveClearFrameFault⟩
  | releaseJournal => exact ⟨_, rfl, law.offer fun law => law.serveReleaseJournal _⟩
  | readRecordPiece => exact ⟨_, rfl, law.offer fun law => law.serveReadRecordPiece ..⟩
  | freeRecord => exact ⟨_, rfl, law.offer fun law => law.serveFreeRecord _⟩

/-- Every step keeps the law. -/
theorem step {t : State} (h : Machine.step s = .next t) : t.rectifierLaw := by
  unfold Machine.step at h
  split at h
  · cases h
    exact law
  · rename_i c rest _
    obtain ⟨u, executed, kept⟩ := exec (s := { s with pending := rest }) law c
    rw [executed] at h
    cases h
    exact kept

end State.rectifierLaw

/-- Settles O30: the law of the feeders is a law of the plant, and the law of the rectifier is kept by every command. -/
theorem feederAndRectifierLawIsKept : Obligations.FeederAndRectifierLawIsKept := by
  refine ⟨fun s t law stepped => ?_, fun _ _ law stepped => law.step stepped⟩
  rw [State.feederLaw_iff] at law ⊢
  exact plantLaw_feederLaw.step law stepped

end Sys2Proof.Machine
end

section
/-! PROOFS. One rule for each operation of the feeder sequencer: what it makes of the plant, said through the feeder's
record and the item that it commands. -/

namespace Sys2Proof.Machine

/-! ### The record at the entries of the line test and the closing -/

namespace Sequencer

/-- R101: entry into LINE_TEST. -/
def enterTcClosing (f : Sequencer) : Sequencer := { f.stopTimers with state := .lineTest .tcClosing, exit := none }

/-- R103, R105, R110, R113: phase TC_OPENING with an exit target. -/
def enterTcOpening (t : ExitTarget) (f : Sequencer) : Sequencer :=
  { f.stopTimers with state := .lineTest .tcOpening, exit := some t }

/-- R107: entry into CLOSING. -/
def enterClosing (f : Sequencer) : Sequencer := { f.stopTimers with state := .closing, exit := none, deferral := none }

/-- R108: the exit target of an abandoned closing. -/
def abandon (t : ExitTarget) (f : Sequencer) : Sequencer :=
  { f with exit :=
      match f.exit, t with
      | some (.lockedOut c), .out => some (.lockedOut c)
      | _, t => some t }

/-- R105: a result is recorded, with the attempts used after it. -/
def withResult (e : Env) (result : TestResult) (rline : Nat) (vl vb : Int) (used : Nat) (f : Sequencer) : Sequencer :=
  { f with lastTest := ⟨result, some rline, some vl, some vb, some e.time.stamp, f.manual⟩, attempts := used }

/-- R101, R103: the end of a line test for lack of busbar is recorded. -/
def withNoBusbar (e : Env) (k : FeederId) (f : Sequencer) : Sequencer :=
  { f with lastTest :=
      ⟨.noBusbar, none, some (e.front.mean20 (.lineVoltage k)), some (e.front.mean20 .vbus), some e.time.stamp,
        f.manual⟩ }

end Sequencer

theorem Commander.sequencer_mayCommand_fb (k : FeederId) (d : Direction) :
    (Commander.sequencer k).mayCommand d (.fb k) = true := by simp [mayCommand]

theorem Commander.sequencer_mayCommand_tc (k : FeederId) (d : Direction) :
    (Commander.sequencer k).mayCommand d (.tc k) = true := by simp [mayCommand]

namespace Plant

variable {e : Env} {k j : FeederId} {i : ItemId} {c : Commander} {p : Plant}

theorem feeder_onFeeder_self (g : Sequencer → Sequencer) : (p.onFeeder k g).feeder k = g (p.feeder k) := by
  rw [feeder_onFeeder, if_pos rfl]

theorem feeder_onFeeder_other (g : Sequencer → Sequencer) (other : j ≠ k) :
    (p.onFeeder k g).feeder j = p.feeder j := by
  rw [feeder_onFeeder, if_neg other]

theorem item_setItem_self (it : Item) : (p.setItem i it).item i = it := by rw [item_setItem, if_pos rfl]

theorem item_setItem_other {h : ItemId} (it : Item) (other : h ≠ i) : (p.setItem i it).item h = p.item h := by
  rw [item_setItem, if_neg other]

/-! ### Commands (R76, R77) -/

theorem openCommand_opens (may : c.mayCommand .opening i = true) : ((p.openCommand e c i).item i).state = .opening := by
  rw [openCommand_taken may, item_setItem_self]
  exact Item.openCommand_state ..

theorem openFb_eq : p.openCommand e (.sequencer k) (.fb k) =
    p.setItem (.fb k) ((p.item (.fb k)).openCommand e (.sequencer k) (.fb k)) :=
  openCommand_taken (Commander.sequencer_mayCommand_fb ..)

theorem openTc_eq : p.openTc e k = p.setItem (.tc k) ((p.item (.tc k)).openCommand e (.sequencer k) (.tc k)) :=
  openCommand_taken (Commander.sequencer_mayCommand_tc ..)

theorem openTcUnlessOpen_opened (opened : (p.item (.tc k)).state = .opened) : p.openTcUnlessOpen e k = p :=
  if_pos opened

theorem openTcUnlessOpen_opens (notOpened : (p.item (.tc k)).state ≠ .opened) : p.openTcUnlessOpen e k = p.openTc e k :=
  if_neg notOpened

theorem closeCommand_opened (may : c.mayCommand .closing i = true) (opened : (p.item i).state = .opened) :
    p.closeCommand e c i = (p.setItem i ((p.item i).startClosing e i [c]), none) :=
  closeCommand_starts may (Item.mayStartClosing_iff.2 (.inl opened))

/-! ### Lockout and deferral (R100, R115) -/

@[simp] theorem lockOut_items (c : LockoutCause) : (p.lockOut e k c).items = p.items := rfl
@[simp] theorem lockOut_pendingOpen (c : LockoutCause) : (p.lockOut e k c).pendingOpen = p.pendingOpen := rfl
@[simp] theorem lockOut_rect (c : LockoutCause) : (p.lockOut e k c).rect = p.rect := rfl

theorem lockOut_self (c : LockoutCause) : (p.lockOut e k c).feeder k = (p.feeder k).enterLockedOut c := by
  rw [feeder_lockOut, if_pos rfl]

theorem lockOut_other (c : LockoutCause) (other : j ≠ k) : (p.lockOut e k c).feeder j = p.feeder j := by
  rw [feeder_lockOut, if_neg other]

theorem lockOut_locks (c : LockoutCause) :
    ((p.lockOut e k c).feeder k).state = .lockedOut ∧ ((p.lockOut e k c).feeder k).lockout = some c := by
  rw [lockOut_self]
  exact ⟨rfl, rfl⟩

theorem defer_past {start : Millis} (since : (p.feeder k).deferral.getD e.time.elapsed = start)
    (past : 120000 < (e.time.elapsed - start).toNat) : p.defer e k = p.lockOut e k .deferralLimit := by
  subst since
  exact if_pos past

theorem defer_within {start : Millis} (since : (p.feeder k).deferral.getD e.time.elapsed = start)
    (within : (e.time.elapsed - start).toNat ≤ 120000) :
    p.defer e k = p.onFeeder k (Sequencer.enterDeferred e start) := by
  subst since
  exact if_neg (Nat.not_lt.2 within)

theorem defer_self {start : Millis} (since : (p.feeder k).deferral.getD e.time.elapsed = start) :
    (120000 < (e.time.elapsed - start).toNat →
      ((p.defer e k).feeder k).state = .lockedOut ∧ ((p.defer e k).feeder k).lockout = some .deferralLimit) ∧
    ((e.time.elapsed - start).toNat ≤ 120000 →
      ((p.defer e k).feeder k).state = .deadTime .deferred ∧
        ((p.defer e k).feeder k).deadTimer = some (e.time.tick + 8000) ∧
        ((p.defer e k).feeder k).deferral = some start) := by
  constructor
  · intro past
    rw [defer_past since past]
    exact lockOut_locks _
  · intro within
    rw [defer_within since within, feeder_onFeeder_self]
    exact ⟨rfl, rfl, rfl⟩

/-- Both ends of a deferral keep the last line test and the attempts used. -/
theorem defer_keeps : ((p.defer e k).feeder k).lastTest = (p.feeder k).lastTest ∧
    ((p.defer e k).feeder k).attempts = (p.feeder k).attempts := by
  rcases Nat.lt_or_ge 120000 (e.time.elapsed - (p.feeder k).deferral.getD e.time.elapsed).toNat with past | within
  · rw [defer_past rfl past, lockOut_self]
    exact ⟨rfl, rfl⟩
  · rw [defer_within rfl within, feeder_onFeeder_self]
    exact ⟨rfl, rfl⟩

/-! ### The reaction to a reclosable trip (R96) -/

theorem reactReclosable_waits (left : (p.feeder k).attempts < (e.store.values k).attempts) :
    p.reactReclosable e k = p.onFeeder k (Sequencer.enterWaiting e (e.store.values k).tdead) := if_pos left

theorem reactReclosable_locks (none : (e.store.values k).attempts ≤ (p.feeder k).attempts) :
    p.reactReclosable e k = p.lockOut e k .attemptsExhausted := if_neg (Nat.not_lt.2 none)

/-! ### The closing (R107, R108) -/

theorem enterClosing_starts (fb : (p.item (.fb k)).state = .opened) (tc : (p.item (.tc k)).state = .opened) :
    p.enterClosing e k = (p.onFeeder k Sequencer.enterClosing).setItem (.fb k)
      ((p.item (.fb k)).startClosing e (.fb k) [.sequencer k]) := by
  unfold enterClosing
  dsimp only
  rw [if_pos ⟨fb, tc⟩, closeCommand_opened (p := p.onFeeder k _) (Commander.sequencer_mayCommand_fb ..) fb]
  rfl

theorem enterClosing_locks (notReady : (p.item (.fb k)).state ≠ .opened ∨ (p.item (.tc k)).state ≠ .opened) :
    p.enterClosing e k = (p.onFeeder k Sequencer.enterClosing).lockOut e k .testEquipment := by
  refine if_neg fun ready => ?_
  obtain ⟨fb, tc⟩ := ready
  exact notReady.elim (· fb) (· tc)

theorem abandonClosing_eq (t : ExitTarget) : p.abandonClosing e k t =
    (p.setItem (.fb k) ((p.item (.fb k)).openCommand e (.sequencer k) (.fb k))).onFeeder k
      (Sequencer.abandon t) := by
  unfold abandonClosing
  rw [openFb_eq]
  rfl

/-! ### The line test (R101 to R105) -/

theorem beginTcOpening_eq (t : ExitTarget) : p.beginTcOpening e k t =
    (p.setItem (.tc k) ((p.item (.tc k)).openCommand e (.sequencer k) (.tc k))).onFeeder k
      (Sequencer.enterTcOpening t) := by
  unfold beginTcOpening
  rw [openTc_eq]
  rfl

/-- R105: the plant with a result recorded, before the feeder goes to its exit target. -/
def resulted (e : Env) (k : FeederId) (result : TestResult) (rline : Nat) (vl vb : Int) (used : Nat) (p : Plant) :
    Plant :=
  (p.onFeeder k (Sequencer.withResult e result rline vl vb used)).post e (.feeder k) .lineTestResult [rline, vl, vb]

theorem lineTestResult_eq (result : TestResult) (rline : Nat) (vl vb : Int) :
    p.lineTestResult e k result rline vl vb =
      (let choice := testTarget (p.feeder k).manual result (p.feeder k).attempts (e.store.values k).attempts
      let q := p.resulted e k result rline vl vb choice.2
      if result = .passLive then q.takeTarget e k choice.1 else q.beginTcOpening e k choice.1) := by
  have recorded (used : Nat) :
      (((p.onFeeder k (fun f => { f with
          lastTest := ⟨result, some rline, some vl, some vb, some e.time.stamp, f.manual⟩ })).post e (.feeder k)
        .lineTestResult [(rline : Int), vl, vb]).onFeeder k (fun f => { f with attempts := used })) =
      p.resulted e k result rline vl vb used :=
    congrArg (fun q : Plant => q.post e (.feeder k) .lineTestResult [(rline : Int), vl, vb])
      (onFeeder_onFeeder k
        (fun f => { f with lastTest := ⟨result, some rline, some vl, some vb, some e.time.stamp, f.manual⟩ })
        (fun f => { f with attempts := used }))
  unfold lineTestResult
  dsimp only
  rw [recorded]

/-- R101: the entry into LINE_TEST with the line dead and a busbar. -/
theorem enterLineTest_starts (dead : e.front.mean20 (.lineVoltage k) < ((e.store.values k).vlive : Int))
    (busbar : ((e.store.values k).vtest : Int) ≤ e.front.mean20 .vbus) (tc : (p.item (.tc k)).state = .opened) :
    p.enterLineTest e k = (p.onFeeder k Sequencer.enterTcClosing).setItem (.tc k)
      ((p.item (.tc k)).startClosing e (.tc k) [.sequencer k]) := by
  unfold enterLineTest
  dsimp only
  rw [if_neg (Int.not_le.2 dead), if_neg (Int.not_lt.2 busbar),
    closeCommand_opened (p := p.onFeeder k _) (Commander.sequencer_mayCommand_tc ..) tc]
  rfl

/-- R101: the entry into LINE_TEST with the line dead and no busbar. -/
theorem enterLineTest_noBusbar (dead : e.front.mean20 (.lineVoltage k) < ((e.store.values k).vlive : Int))
    (noBusbar : e.front.mean20 .vbus < ((e.store.values k).vtest : Int)) :
    p.enterLineTest e k =
      (let q := p.onFeeder k (Sequencer.withNoBusbar e k ∘ Sequencer.enterTcClosing)
      if (p.feeder k).manual then q.onFeeder k Sequencer.enterOut else q.defer e k) := by
  refine (if_neg (Int.not_le.2 dead)).trans ((if_pos noBusbar).trans ?_)
  have recorded : (p.onFeeder k Sequencer.enterTcClosing).recordNoBusbar e k =
    p.onFeeder k (Sequencer.withNoBusbar e k ∘ Sequencer.enterTcClosing) := onFeeder_onFeeder ..
  have manual : ((p.onFeeder k (Sequencer.withNoBusbar e k ∘ Sequencer.enterTcClosing)).feeder k).manual =
    (p.feeder k).manual := by
    rw [feeder_onFeeder_self]
    rfl
  dsimp only
  rw [← manual, ← recorded]
  rfl

/-- R101: the entry into LINE_TEST with the line live. -/
theorem enterLineTest_live (live : ((e.store.values k).vlive : Int) ≤ e.front.mean20 (.lineVoltage k)) :
    p.enterLineTest e k = (p.onFeeder k Sequencer.enterTcClosing).lineTestResult e k .passLive 65535
      (e.front.mean20 (.lineVoltage k)) (e.front.mean20 .vbus) := if_pos live

end Plant

end Sys2Proof.Machine
end

section
/-! PROOFS. The remote requests that name a feeder (R109, R110, R112), and what zeroes the attempts used (O27). -/

namespace Sys2Proof.Machine

variable {s : State} {head : RequestHead} {kind : RequestKind} {n : Byte} {k : FeederId}

/-! ### A request for a feeder -/

section
variable {serve : State → Served}

theorem needsRemote_active (h : s.panel.remote = true) : needsRemote serve s = serve s := if_pos h

theorem needsRemote_inactive (h : s.panel.remote = false) :
    needsRemote serve s = answered (refusal .notPermitted) s := if_neg (by simp [h])

end

/-- The form of Feeder Close, Feeder Open and Reset Lockout: REMOTE, a feeder number, a test of the plant, an event and
R210's reply. -/
def feederRequest (ready : FeederId → Plant → Bool) (act : FeederId → Env → Plant → Plant) (n : Byte) :
    State → Served :=
  needsRemote (withFeeder n (fun k s =>
    if ready k s.plant then feederReply k (s.onPlant (act k)) else answered (refusal .wrongState) s))

theorem exec_feederClose : exec (.feederClose head n) s = .next (s.request head .feederClose [n]
    (feederRequest Plant.mayClose (fun k e p => p.manualClose e k) n)) := rfl

theorem exec_feederOpen : exec (.feederOpen head n) s = .next (s.request head .feederOpen [n]
    (feederRequest (fun k p => (p.feeder k).state.mayOpen) (fun k e p => p.manualOpen e k) n)) := rfl

theorem exec_resetLockout : exec (.resetLockout head n) s = .next (s.request head .resetLockout [n]
    (feederRequest Plant.mayReset (fun k e p => p.resetLockout e k) n)) := rfl

section
variable {ready : FeederId → Plant → Bool} {act : FeederId → Env → Plant → Plant}

theorem feederRequest_notPermitted (atOnce : s.link.takesAtOnce = true) (noRemote : head.pins.remote = false) :
    s.request head kind [n] (feederRequest ready act n) = s.repliedWith head kind [4] s.plant :=
  State.request_repliedWith (time := s.time) atOnce (needsRemote_inactive noRemote)

theorem feederRequest_badValue (atOnce : s.link.takesAtOnce = true) (remote : head.pins.remote = true)
    (outside : n.toNat < 1 ∨ 6 < n.toNat) :
    s.request head kind [n] (feederRequest ready act n) = s.repliedWith head kind [3] s.plant :=
  State.request_repliedWith (time := s.time) atOnce ((needsRemote_active remote).trans (withFeeder_outside outside))

theorem feederRequest_wrongState (atOnce : s.link.takesAtOnce = true) (remote : head.pins.remote = true)
    (number : n.toNat = k.number) (notReady : ready k s.plant = false) :
    s.request head kind [n] (feederRequest ready act n) = s.repliedWith head kind [5] s.plant := by
  refine State.request_repliedWith (time := s.time) atOnce ((needsRemote_active remote).trans ?_)
  refine (withFeeder_number number).trans ((if_neg ?_).trans rfl)
  exact Bool.not_eq_true _ ▸ notReady

theorem feederRequest_served (atOnce : s.link.takesAtOnce = true) (remote : head.pins.remote = true)
    (number : n.toNat = k.number) (isReady : ready k s.plant = true) :
    s.request head kind [n] (feederRequest ready act n) = s.repliedWith head kind
      [0, n, BitVec.ofNat 8 ((act k s.env s.plant).feeder k).state.code] (act k s.env s.plant) := by
  refine State.request_repliedWith (time := s.time) atOnce ((needsRemote_active remote).trans ?_)
  refine (withFeeder_number number).trans ((if_pos isReady).trans ?_)
  unfold feederReply
  rw [leBytes_number number]
  rfl

end

/-! ### Reset Lockout (R112) -/

theorem Plant.mayReset_iff {p : Plant} : p.mayReset k = true ↔
    (p.feeder k).state = .lockedOut ∧ p.rail.frameFault = false ∧
      ((p.item (.fb k)).state = .opened ∨ (p.item (.fb k)).state = .closed) := by
  simp [Plant.mayReset, and_assoc]

/-- R112: the record of a feeder that Reset Lockout returns to OUT or IN_SERVICE. -/
def Sequencer.returned (e : Env) (fb : ItemState) (f : Sequencer) : Sequencer :=
  (if fb = .opened then Sequencer.enterOut else Sequencer.enterInService e) { f with attempts := 0, lockout := none }

theorem Plant.resetLockout_eq {e : Env} {p : Plant} : p.resetLockout e k =
    (p.onFeeder k (Sequencer.returned e (p.item (.fb k)).state)).post e (.feeder k) .lockoutReset
      [((p.feeder k).returned e (p.item (.fb k)).state).state.code] := by
  unfold Plant.resetLockout
  dsimp only
  rw [Plant.onFeeder_onFeeder, Plant.feeder_onFeeder_self]
  rfl

theorem Plant.resetLockout_self {e : Env} {p : Plant} :
    (p.resetLockout e k).feeder k = (p.feeder k).returned e (p.item (.fb k)).state := by
  rw [Plant.resetLockout_eq, Plant.feeder_post, Plant.feeder_onFeeder_self]

theorem Plant.resetLockout_other {e : Env} {p : Plant} {j : FeederId} (other : j ≠ k) :
    (p.resetLockout e k).feeder j = p.feeder j := by
  rw [Plant.resetLockout_eq, Plant.feeder_post, Plant.feeder_onFeeder_other _ other]

/-- Settles O27: the expiry is one change of the record, and Reset Lockout is refused or makes `Sequencer.returned`. -/
theorem attemptsAreZeroed : Obligations.AttemptsAreZeroed := by
  refine ⟨fun k x s running due => ?_, fun head n s atOnce => ⟨fun noRemote => ?_, fun remote outside => ?_,
    fun k remote number => ⟨fun mayNot => ?_, fun may => ?_⟩⟩⟩
  · exact congrArg _ ((congrArg (fun timer => s.atExpiry timer _) running).trans (State.atExpiry_due _ due))
  · rw [exec_resetLockout, feederRequest_notPermitted atOnce noRemote]
  · rw [exec_resetLockout, feederRequest_badValue atOnce remote outside]
  · have notReady : s.plant.mayReset k = false := by simpa using mt Plant.mayReset_iff.1 mayNot
    rw [exec_resetLockout, feederRequest_wrongState atOnce remote number notReady]
  · have newest := Plant.newest_of_post (Plant.resetLockout_eq (e := s.env) (k := k) (p := s.plant))
    refine ⟨s.plant.resetLockout s.env k, ?_, ?_⟩
    · rw [exec_resetLockout, feederRequest_served atOnce remote number (Plant.mayReset_iff.2 may),
        Plant.resetLockout_self]
      obtain ⟨-, -, fb | fb⟩ := may <;> rw [fb] <;> rfl
    · rw [Plant.resetLockout_self]
      refine ⟨?_, ?_, ?_, ?_, ?_, newest.trans ?_, fun j other => Plant.resetLockout_other other,
        rfl, rfl, rfl, rfl⟩ <;>
        obtain ⟨-, -, fb | fb⟩ := may <;> rw [fb] <;> rfl

end Sys2Proof.Machine
end

section
/-! PROOFS. The dead-time timer's expiry and the reclose check (O25). -/

namespace Sys2Proof.Machine

variable {e : Env} {k : FeederId} {p : Plant} {s : State}

/-! ### The end of a line test on a live line -/

/-- R101, R105, R107: the record of a feeder that finds its line live and enters CLOSING. -/
def Sequencer.closingLive (e : Env) (k : FeederId) (used : Nat) (f : Sequencer) : Sequencer :=
  (f.enterTcClosing.withResult e .passLive 65535 (e.front.mean20 (.lineVoltage k)) (e.front.mean20 .vbus)
    used).enterClosing

theorem testTarget_automatic_passLive {used allowed : Nat} (left : used < allowed) :
    testTarget false .passLive used allowed = (.closing, used + 1) := by
  simp [testTarget, Nat.not_le.2 left]

namespace Plant

theorem enterLineTest_closes {used : Nat}
    (live : ((e.store.values k).vlive : Int) ≤ e.front.mean20 (.lineVoltage k))
    (fb : (p.item (.fb k)).state = .opened) (tc : (p.item (.tc k)).state = .opened)
    (target : testTarget (p.feeder k).manual .passLive (p.feeder k).attempts (e.store.values k).attempts =
      (.closing, used)) :
    p.enterLineTest e k =
      ((p.onFeeder k (Sequencer.closingLive e k used)).post e (.feeder k) .lineTestResult
        [65535, e.front.mean20 (.lineVoltage k), e.front.mean20 .vbus]).setItem (.fb k)
      ((p.item (.fb k)).startClosing e (.fb k) [.sequencer k]) := by
  have entered : (p.onFeeder k Sequencer.enterTcClosing).feeder k = (p.feeder k).enterTcClosing := by
    rw [feeder_onFeeder_self]
  have chosen : testTarget ((p.onFeeder k Sequencer.enterTcClosing).feeder k).manual .passLive
      ((p.onFeeder k Sequencer.enterTcClosing).feeder k).attempts (e.store.values k).attempts = (.closing, used) := by
    rw [entered]
    exact target
  rw [enterLineTest_live live, lineTestResult_eq]
  dsimp only
  rw [if_pos rfl, chosen]
  show enterClosing e k _ = _
  rw [enterClosing_starts (by exact fb) (by exact tc)]
  have recorded : ((p.onFeeder k Sequencer.enterTcClosing).onFeeder k (Sequencer.withResult e .passLive 65535
      (e.front.mean20 (.lineVoltage k)) (e.front.mean20 .vbus) used)).onFeeder k Sequencer.enterClosing =
      p.onFeeder k (Sequencer.closingLive e k used) := by
    rw [onFeeder_onFeeder, onFeeder_onFeeder]
    rfl
  rw [← recorded]
  rfl

theorem enterLineTest_starts_self (low : e.front.mean20 (.lineVoltage k) < ((e.store.values k).vlive : Int))
    (busbar : ((e.store.values k).vtest : Int) ≤ e.front.mean20 .vbus) (tc : (p.item (.tc k)).state = .opened) :
    (p.enterLineTest e k).feeder k = (p.feeder k).enterTcClosing ∧
      ((p.enterLineTest e k).item (.tc k)).state = .closing := by
  rw [enterLineTest_starts low busbar tc, feeder_setItem, feeder_onFeeder_self, item_setItem_self]
  exact ⟨rfl, rfl⟩

theorem enterLineTest_closes_self {used : Nat}
    (live : ((e.store.values k).vlive : Int) ≤ e.front.mean20 (.lineVoltage k))
    (fb : (p.item (.fb k)).state = .opened) (tc : (p.item (.tc k)).state = .opened)
    (target : testTarget (p.feeder k).manual .passLive (p.feeder k).attempts (e.store.values k).attempts =
      (.closing, used)) :
    (p.enterLineTest e k).feeder k = (p.feeder k).closingLive e k used ∧
      ((p.enterLineTest e k).item (.fb k)).state = .closing ∧
      (∀ i, i ≠ .fb k → (p.enterLineTest e k).item i = p.item i) ∧
      (∀ j, j ≠ k → (p.enterLineTest e k).feeder j = p.feeder j) ∧
      (p.enterLineTest e k).unit.journal.getLast? = some ⟨p.unit.nextIndex, e.time.stamp, .feeder k, .lineTestResult,
        [65535, e.front.mean20 (.lineVoltage k), e.front.mean20 .vbus]⟩ := by
  rw [enterLineTest_closes live fb tc target]
  refine ⟨?_, ?_, fun i other => ?_, fun j other => ?_, JournalUnit.post_last ..⟩
  · rw [feeder_setItem, feeder_post, feeder_onFeeder_self]
  · rw [item_setItem_self]
    rfl
  · rw [item_setItem_other _ other]
    rfl
  · rw [feeder_setItem, feeder_post, feeder_onFeeder_other _ other]

/-- R101: without a busbar the record of the feeder stands before its deferral, or before it is OUT. -/
theorem enterLineTest_noBusbar_automatic (low : e.front.mean20 (.lineVoltage k) < ((e.store.values k).vlive : Int))
    (noBusbar : e.front.mean20 .vbus < ((e.store.values k).vtest : Int)) (automatic : (p.feeder k).manual = false) :
    p.enterLineTest e k = (p.onFeeder k (Sequencer.withNoBusbar e k ∘ Sequencer.enterTcClosing)).defer e k := by
  rw [enterLineTest_noBusbar low noBusbar, automatic]
  rfl

theorem enterLineTest_noBusbar_manual (low : e.front.mean20 (.lineVoltage k) < ((e.store.values k).vlive : Int))
    (noBusbar : e.front.mean20 .vbus < ((e.store.values k).vtest : Int)) (manual : (p.feeder k).manual = true) :
    p.enterLineTest e k =
      p.onFeeder k (Sequencer.enterOut ∘ Sequencer.withNoBusbar e k ∘ Sequencer.enterTcClosing) := by
  rw [enterLineTest_noBusbar low noBusbar, manual]
  exact onFeeder_onFeeder ..

/-! ### The reclose check (R99) -/

theorem recloseCheck_exhausted (none : (e.store.values k).attempts ≤ (p.feeder k).attempts) :
    p.recloseCheck e k = p.lockOut e k .attemptsExhausted := if_pos none

theorem recloseCheck_defers (left : (p.feeder k).attempts < (e.store.values k).attempts)
    (notReady : ((e.store.values k).ireclose : Int) * (e.store.values k).ireclose ≤ (p.disc k).theta ∨
      (p.item (.fb k)).state ≠ .opened ∨ (p.item (.tc k)).state ≠ .opened) :
    p.recloseCheck e k = p.defer e k := by
  refine (if_neg (Nat.not_le.2 left)).trans ?_
  by_cases hot : ((e.store.values k).ireclose : Int) * (e.store.values k).ireclose ≤ (p.disc k).theta
  · exact if_pos hot
  · exact (if_neg hot).trans (if_pos (notReady.resolve_left hot))

theorem recloseCheck_tests (left : (p.feeder k).attempts < (e.store.values k).attempts)
    (cool : ¬ ((e.store.values k).ireclose : Int) * (e.store.values k).ireclose ≤ (p.disc k).theta)
    (ready : ¬ ((p.item (.fb k)).state ≠ .opened ∨ (p.item (.tc k)).state ≠ .opened)) :
    p.recloseCheck e k = p.enterLineTest e k :=
  (if_neg (Nat.not_le.2 left)).trans ((if_neg cool).trans (if_neg ready))

end Plant

theorem ItemState.opened_of_not {a b : ItemState} (ready : ¬ (a ≠ .opened ∨ b ≠ .opened)) :
    a = .opened ∧ b = .opened := by
  simpa using ready

theorem exec_deadTimeExpiry_due {x : Nat} {phase : DeadPhase} (dead : (s.plant.feeder k).state = .deadTime phase)
    (running : (s.plant.feeder k).deadTimer = some x) (due : x ≤ s.time.tick) :
    exec (.deadTimeExpiry k) s = .next (s.onPlant (fun e p => p.recloseCheck e k)) := by
  have kept : ((s.plant.onFeeder k (fun f => { f with deadTimer := none })).feeder k).state = .deadTime phase := by
    rw [Plant.feeder_onFeeder_self]
    exact dead
  have checks : (s.plant.onFeeder k (fun f => { f with deadTimer := none })).deadTimeExpires s.env k =
      s.plant.recloseCheck s.env k := by
    unfold Plant.deadTimeExpires
    rw [kept]
    exact Plant.recloseCheck_stopped k _ rfl
  refine congrArg _ (((congrArg (fun timer => s.atExpiry timer _) running).trans (State.atExpiry_due _ due)).trans ?_)
  exact congrArg (fun q => { s with plant := q }) checks

/-- Settles O25: one rule of the reclose check for each branch, and of the entry into LINE_TEST for each of its ends. -/
theorem deadTimeExpiryMakesTheRecloseCheck : Obligations.DeadTimeExpiryMakesTheRecloseCheck := by
  intro k x phase s f v start dead running due
  obtain ⟨q, made⟩ : ∃ q, s.plant.recloseCheck s.env k = q := ⟨_, rfl⟩
  refine ⟨{ s with plant := q }, ?_, rfl, rfl, rfl, fun none => ?_, fun left notReady past => ?_,
    fun left notReady within => ?_, fun left cool ready low busbar => ?_,
    fun left cool ready automatic => ⟨fun live => ?_, fun low noBusbar => ?_⟩⟩
  · rw [exec_deadTimeExpiry_due dead running due, ← made]
    rfl
  · obtain rfl := (Plant.recloseCheck_exhausted (e := s.env) none).symm.trans made
    exact Plant.lockOut_locks _
  · obtain rfl := (Plant.recloseCheck_defers (e := s.env) left notReady).symm.trans made
    exact (Plant.defer_self rfl).1 past
  · obtain rfl := (Plant.recloseCheck_defers (e := s.env) left notReady).symm.trans made
    exact (Plant.defer_self rfl).2 within
  · obtain rfl := (Plant.recloseCheck_tests (e := s.env) left cool ready).symm.trans made
    obtain ⟨entered, closes⟩ :=
      Plant.enterLineTest_starts_self (e := s.env) low busbar (ItemState.opened_of_not ready).2
    exact ⟨congrArg Sequencer.state entered, closes⟩
  · obtain rfl := (Plant.recloseCheck_tests (e := s.env) left cool ready).symm.trans made
    obtain ⟨fb, tc⟩ := ItemState.opened_of_not ready
    obtain ⟨entered, closes, others, -, newest⟩ := Plant.enterLineTest_closes_self (e := s.env) live fb tc
      (automatic ▸ testTarget_automatic_passLive left)
    refine ⟨?_, congrArg Sequencer.attempts entered, congrArg Sequencer.state entered, closes,
      congrArg Sequencer.deferral entered, others _ nofun, newest⟩
    exact (congrArg Sequencer.lastTest entered).trans (automatic ▸ rfl)
  · obtain rfl := (Plant.recloseCheck_tests (e := s.env) left cool ready).symm.trans made
    have recorded : (s.plant.onFeeder k (Sequencer.withNoBusbar s.env k ∘ Sequencer.enterTcClosing)).feeder k =
        f.enterTcClosing.withNoBusbar s.env k := by rw [Plant.feeder_onFeeder_self]; rfl
    have since : ((s.plant.onFeeder k (Sequencer.withNoBusbar s.env k ∘ Sequencer.enterTcClosing)).feeder
        k).deferral.getD s.env.time.elapsed = start := by rw [recorded]; rfl
    obtain ⟨test, used⟩ := Plant.defer_keeps (e := s.env) (k := k)
      (p := s.plant.onFeeder k (Sequencer.withNoBusbar s.env k ∘ Sequencer.enterTcClosing))
    rw [recorded] at test used
    rw [Plant.enterLineTest_noBusbar_automatic (e := s.env) low noBusbar automatic]
    exact ⟨test.trans (automatic ▸ rfl), used, Plant.defer_items .., Plant.defer_self since⟩

end Sys2Proof.Machine
end

section
/-! PROOFS. The line test from the close of the test contactor to the exit target (O26). -/

namespace Sys2Proof.Machine

variable {e : Env} {k : FeederId} {p : Plant} {s : State}

/-! ### The result (R104, R105) -/

theorem lineResistance_eq (rt : Nat) (vl vb : Int) : lineResistance rt vl vb =
    if vb ≤ vl then 65535 else min 65535 (Int.fdiv (rt * vl) (vb - vl)).toNat := by
  unfold lineResistance floorDiv
  split <;> omega

section
variable {passes : Prop} [Decidable passes] {used allowed : Nat}

theorem testTarget_manual : testTarget true (if passes then .pass else .fail) used allowed =
    (if passes then .closing else .out, used) := by
  by_cases passes <;> simp [testTarget, *]

theorem testTarget_exhausted {result : TestResult} (none : allowed ≤ used) :
    testTarget false result used allowed = (.lockedOut .attemptsExhausted, used) := by
  simp [testTarget, none]

theorem testTarget_automatic (left : used < allowed) :
    testTarget false (if passes then .pass else .fail) used allowed =
      (if passes then .closing else if used + 1 = allowed then .lockedOut .lineTestFail else .deadTime, used + 1) := by
  by_cases passes <;> by_cases last : used + 1 = allowed <;> simp [testTarget, Nat.not_le.2 left, *]

end

/-- R106: the lockout cause of a contactor that fails to open on the way to a target. -/
def ExitTarget.failCause : ExitTarget → LockoutCause
  | .lockedOut c => c
  | .out | .inService | .deadTime | .deadTimeDeferred | .closing => .testEquipment

namespace Plant

/-! ### Opening the test contactor (R103, R105, R107) -/

theorem beginTcOpening_self (t : ExitTarget) :
    (p.beginTcOpening e k t).feeder k = (p.feeder k).enterTcOpening t ∧
      ((p.beginTcOpening e k t).item (.tc k)).state = .opening ∧
      (∀ i, i ≠ .tc k → (p.beginTcOpening e k t).item i = p.item i) ∧
      (∀ j, j ≠ k → (p.beginTcOpening e k t).feeder j = p.feeder j) ∧ (p.beginTcOpening e k t).unit = p.unit := by
  rw [beginTcOpening_eq]
  refine ⟨?_, ?_, fun i other => ?_, fun j other => ?_, rfl⟩
  · rw [feeder_onFeeder_self, feeder_setItem]
  · rw [item_onFeeder, item_setItem_self]
    exact Item.openCommand_state ..
  · rw [item_onFeeder, item_setItem_other _ other]
  · rw [feeder_onFeeder_other _ other, feeder_setItem]

/-- R105: a result other than PASS_LIVE opens the contactor. -/
theorem lineTestResult_self {result : TestResult} {rline used : Nat} {vl vb : Int} {t : ExitTarget}
    (tested : result ≠ .passLive)
    (target : testTarget (p.feeder k).manual result (p.feeder k).attempts (e.store.values k).attempts = (t, used)) :
    (p.lineTestResult e k result rline vl vb).feeder k =
        ((p.feeder k).withResult e result rline vl vb used).enterTcOpening t ∧
      ((p.lineTestResult e k result rline vl vb).item (.tc k)).state = .opening := by
  have recorded : (p.resulted e k result rline vl vb used).feeder k =
      (p.feeder k).withResult e result rline vl vb used := by
    unfold resulted
    rw [feeder_post, feeder_onFeeder_self]
  obtain ⟨opened, opens, -⟩ := beginTcOpening_self (e := e) (k := k) (p := p.resulted e k result rline vl vb used) t
  rw [lineTestResult_eq]
  dsimp only
  rw [if_neg tested, target]
  exact ⟨opened.trans (congrArg _ recorded), opens⟩

/-- R104: the settle ends in a result. -/
def settled (e : Env) (k : FeederId) (p : Plant) : Plant :=
  let v := e.store.values k
  let vl := e.front.mean20 (.lineVoltage k)
  let vb := e.front.mean20 .vbus
  let r := lineResistance v.rt vl vb
  p.lineTestResult e k (if v.rmin ≤ r then .pass else .fail) r vl vb

theorem settled_self {r : Nat}
    (resistance : lineResistance (e.store.values k).rt (e.front.mean20 (.lineVoltage k)) (e.front.mean20 .vbus) = r) :
    let result : TestResult := if (e.store.values k).rmin ≤ r then .pass else .fail
    let choice := testTarget (p.feeder k).manual result (p.feeder k).attempts (e.store.values k).attempts
    (p.settled e k).feeder k = ((p.feeder k).withResult e result r (e.front.mean20 (.lineVoltage k))
        (e.front.mean20 .vbus) choice.2).enterTcOpening choice.1 ∧
      ((p.settled e k).item (.tc k)).state = .opening := by
  subst resistance
  exact lineTestResult_self (by split <;> nofun) rfl

theorem enterClosing_self (fb : (p.item (.fb k)).state = .opened) (tc : (p.item (.tc k)).state = .opened) :
    ((p.enterClosing e k).feeder k).state = .closing ∧ ((p.enterClosing e k).item (.fb k)).state = .closing ∧
      ((p.enterClosing e k).feeder k).deferral = none := by
  rw [enterClosing_starts fb tc, feeder_setItem, feeder_onFeeder_self, item_setItem_self]
  exact ⟨rfl, rfl, rfl⟩

/-! ### The outcomes of the contactor's commands (R102, R106) -/

theorem tcCloseOutcome_completed (testing : (p.feeder k).state = .lineTest .tcClosing) :
    p.tcCloseOutcome e k .completed = p.onFeeder k (fun f =>
      { f with state := .lineTest .settling, settleTimer := some (e.time.after (e.store.values k).ts) }) := by
  unfold tcCloseOutcome
  rw [testing]

theorem tcCloseOutcome_locks {o : CommandOutcome} (testing : (p.feeder k).state = .lineTest .tcClosing)
    (fails : o = .failed ∨ o = .wrongState) : p.tcCloseOutcome e k o = p.lockOut e k .testEquipment := by
  unfold tcCloseOutcome
  rw [testing]
  rcases fails with rfl | rfl <;> rfl

section
variable {target : ExitTarget} (testing : (p.feeder k).state = .lineTest .tcOpening)
  (held : (p.feeder k).exit = some target)
include testing held

theorem tcOpenOutcome_completed : p.tcOpenOutcome e k .completed = p.takeTarget e k target := by
  unfold tcOpenOutcome
  rw [testing, held]

theorem tcOpenOutcome_failed : p.tcOpenOutcome e k .failed = p.lockOut e k target.failCause := by
  unfold tcOpenOutcome
  rw [testing, held]
  cases target <;> rfl

end

/-! ### The busbar watch and the reports of the contactor (R103, R107) -/

theorem settleWatch_aborts (settling : (p.feeder k).state = .lineTest .settling)
    (noBusbar : e.front.mean20 .vbus < ((e.store.values k).vtest : Int)) :
    p.settleWatch e k = (p.onFeeder k (Sequencer.withNoBusbar e k)).beginTcOpening e k
      (if (p.feeder k).manual = true then .out else .deadTimeDeferred) := by
  have manual : ((p.onFeeder k (Sequencer.withNoBusbar e k)).feeder k).manual = (p.feeder k).manual := by
    rw [feeder_onFeeder_self]
    rfl
  unfold settleWatch
  rw [settling, ← manual]
  exact if_pos noBusbar

theorem settleWatch_rests (rests : (p.feeder k).state ≠ .lineTest .settling ∨
    ((e.store.values k).vtest : Int) ≤ e.front.mean20 .vbus) : p.settleWatch e k = p := by
  unfold settleWatch
  split
  next settling => exact if_neg (Int.not_lt.2 (rests.resolve_left (absurd settling)))
  next => rfl

end Plant

theorem leavesUncommanded_iff {left old new : ItemState} {reason : ReportReason} :
    leavesUncommanded left old new reason = true ↔
      old = left ∧ new ≠ left ∧ (reason = .discrepancy ∨ reason = .unsensed ∨ reason = .supervision) := by
  simp [leavesUncommanded, and_assoc, or_assoc]

theorem Plant.tcReport_lost {new : ItemState} {reason : ReportReason}
    (testing : (p.feeder k).state = .lineTest .tcClosing ∨ (p.feeder k).state = .lineTest .settling)
    (lost : leavesUncommanded .closed .closed new reason = true) :
    p.tcReport e k .closed new reason = p.beginTcOpening e k (.lockedOut .testEquipment) := by
  unfold tcReport
  rcases testing with state | state <;> rw [state] <;> exact if_pos lost

theorem exec_settleExpiry_due {x : Nat} (settling : (s.plant.feeder k).state = .lineTest .settling)
    (running : (s.plant.feeder k).settleTimer = some x) (due : x ≤ s.time.tick) :
    exec (.settleExpiry k) s = .next (s.onPlant (fun e p => p.settled e k)) := by
  have kept : ((s.plant.onFeeder k (fun f => { f with settleTimer := none })).feeder k).state =
      .lineTest .settling := by
    rw [Plant.feeder_onFeeder_self]
    exact settling
  have tested : (s.plant.onFeeder k (fun f => { f with settleTimer := none })).settleExpires s.env k =
      s.plant.settled s.env k := by
    unfold Plant.settleExpires
    rw [kept]
    exact Plant.lineTestResult_stopped _ _ _ _ _ (by split <;> nofun)
  refine congrArg _ (((congrArg (fun timer => s.atExpiry timer _) running).trans (State.atExpiry_due _ due)).trans ?_)
  exact congrArg (fun q => { s with plant := q }) tested

/-- Settles O26: each event by its rule above, and each exit target by the entry that it names. -/
theorem settleExpiryGivesTheLineTestResult : Obligations.SettleExpiryGivesTheLineTestResult := by
  refine ⟨⟨?settle, ?closed, ?opened⟩, ?watch⟩
  case settle =>
    intro k x s f v vl vb r settling running due
    obtain ⟨q, made⟩ : ∃ q, s.plant.settled s.env k = q := ⟨_, rfl⟩
    have resistance : lineResistance v.rt vl vb = r := lineResistance_eq ..
    obtain ⟨recorded, opens⟩ := Plant.settled_self (e := s.env) (p := s.plant) resistance
    rw [made] at recorded opens
    have leads {choice : ExitTarget × Nat} (target : testTarget f.manual (if v.rmin ≤ r then .pass else .fail)
        f.attempts v.attempts = choice) : (q.feeder k).attempts = choice.2 ∧ (q.feeder k).exit = some choice.1 := by
      subst target
      exact ⟨congrArg Sequencer.attempts recorded, congrArg Sequencer.exit recorded⟩
    refine ⟨{ s with plant := q }, ?_, rfl, rfl, rfl, congrArg Sequencer.lastTest recorded,
      congrArg Sequencer.state recorded, opens, fun manual => leads (manual ▸ testTarget_manual),
      fun automatic none => leads (automatic ▸ testTarget_exhausted none),
      fun automatic left => leads (automatic ▸ testTarget_automatic left)⟩
    rw [exec_settleExpiry_due settling running due, ← made]
    rfl
  case closed =>
    intro e k p testing
    refine ⟨Plant.tcCloseOutcome_completed testing, fun o fails => ?_⟩
    rw [Plant.tcCloseOutcome_locks testing fails]
    exact ⟨(Plant.lockOut_locks _).1, (Plant.lockOut_locks _).2, rfl⟩
  case opened =>
    intro e k target p testing held
    rw [Plant.tcOpenOutcome_completed testing held, Plant.tcOpenOutcome_failed testing held]
    intro q g start deferred failed
    refine ⟨?_, ?_, ?_, ?_, ?_, ?_, ?_, (Plant.lockOut_locks _).1, (Plant.lockOut_locks _).2.trans ?_⟩
    · rintro rfl
      have out : (p.onFeeder k Sequencer.enterOut).feeder k = (p.feeder k).enterOut := Plant.feeder_onFeeder_self _
      exact ⟨congrArg Sequencer.state out, congrArg Sequencer.manual out, rfl⟩
    · rintro c rfl
      exact Plant.lockOut_locks c
    · rintro rfl
      have waiting : (p.enterDeadTime e k).feeder k = _ := Plant.feeder_onFeeder_self _
      exact ⟨congrArg Sequencer.state waiting, congrArg Sequencer.deadTimer waiting,
        congrArg Sequencer.deferral waiting⟩
    · rintro rfl within
      exact (Plant.defer_self rfl).2 within
    · rintro rfl past
      exact (Plant.defer_self rfl).1 past
    · rintro rfl fb tc
      exact Plant.enterClosing_self fb tc
    · rintro rfl notReady
      have locks : p.takeTarget e k .closing = _ := Plant.enterClosing_locks notReady
      show ((p.takeTarget e k .closing).feeder k).state = _ ∧ ((p.takeTarget e k .closing).feeder k).lockout = _
      rw [locks]
      exact Plant.lockOut_locks _
    · cases target <;> rfl
  case watch =>
    intro e k p f vl vb vtest opens
    refine ⟨fun settling noBusbar => ?_, fun rests => Plant.settleWatch_rests rests,
      fun new reason testing left reported => ?_⟩
    · have recorded : (p.onFeeder k (Sequencer.withNoBusbar e k)).feeder k = f.withNoBusbar e k :=
        Plant.feeder_onFeeder_self _
      rw [Plant.settleWatch_aborts settling noBusbar]
      obtain ⟨opened, opens, items, feeders, unit⟩ := Plant.beginTcOpening_self (e := e) (k := k)
        (p := p.onFeeder k (Sequencer.withNoBusbar e k))
        (if (p.feeder k).manual = true then .out else .deadTimeDeferred)
      rw [recorded] at opened
      exact ⟨opened, opens, items, fun j other => (feeders j other).trans (Plant.feeder_onFeeder_other _ other), unit⟩
    · rw [Plant.tcReport_lost testing (leavesUncommanded_iff.2 ⟨rfl, left, reported⟩)]
      exact Plant.beginTcOpening_self _

end Sys2Proof.Machine
end

section
/-! PROOFS. Feeder Close, and the reports of the line breaker that take a feeder into and out of service (O28). -/

namespace Sys2Proof.Machine

variable {e : Env} {k : FeederId} {p : Plant} {s : State}

namespace Plant

/-! ### The manual close (R109) -/

theorem mayClose_iff : p.mayClose k = true ↔ (p.feeder k).state = .out ∧ (p.item (.fb k)).state = .opened ∧
    (p.item (.tc k)).state = .opened ∧ p.rail.frameFault = false := by
  simp [mayClose, and_assoc]

/-- R109: the feeder is marked before its line test. -/
def markedManual (k : FeederId) (p : Plant) : Plant := p.onFeeder k (fun f => { f with manual := true })

theorem feeder_markedManual : (p.markedManual k).feeder k = { p.feeder k with manual := true } :=
  feeder_onFeeder_self _

theorem markedManual_other {j : FeederId} (other : j ≠ k) : (p.markedManual k).feeder j = p.feeder j :=
  feeder_onFeeder_other _ other

theorem manualClose_starts (low : e.front.mean20 (.lineVoltage k) < ((e.store.values k).vlive : Int))
    (busbar : ((e.store.values k).vtest : Int) ≤ e.front.mean20 .vbus) (tc : (p.item (.tc k)).state = .opened) :
    (p.manualClose e k).feeder k = Sequencer.enterTcClosing { p.feeder k with manual := true } ∧
      ((p.manualClose e k).item (.tc k)).state = .closing ∧
      (∀ i, i ≠ .tc k → (p.manualClose e k).item i = p.item i) ∧
      (∀ j, j ≠ k → (p.manualClose e k).feeder j = p.feeder j) ∧ (p.manualClose e k).unit = p.unit := by
  have started : p.manualClose e k = ((p.markedManual k).onFeeder k Sequencer.enterTcClosing).setItem (.tc k)
    ((p.item (.tc k)).startClosing e (.tc k) [.sequencer k]) := enterLineTest_starts low busbar tc
  rw [started]
  refine ⟨?_, ?_, fun i other => item_setItem_other _ other, fun j other => ?_, rfl⟩
  · rw [feeder_setItem, feeder_onFeeder_self, feeder_markedManual]
  · rw [item_setItem_self]
    rfl
  · rw [feeder_setItem, feeder_onFeeder_other _ other, markedManual_other other]

theorem manualClose_noBusbar (low : e.front.mean20 (.lineVoltage k) < ((e.store.values k).vlive : Int))
    (noBusbar : e.front.mean20 .vbus < ((e.store.values k).vtest : Int)) :
    (p.manualClose e k).feeder k =
        (Sequencer.withNoBusbar e k (Sequencer.enterTcClosing { p.feeder k with manual := true })).enterOut ∧
      (p.manualClose e k).items = p.items ∧ (∀ j, j ≠ k → (p.manualClose e k).feeder j = p.feeder j) ∧
      (p.manualClose e k).unit = p.unit := by
  have ended : p.manualClose e k = (p.markedManual k).onFeeder k
      (Sequencer.enterOut ∘ Sequencer.withNoBusbar e k ∘ Sequencer.enterTcClosing) :=
    enterLineTest_noBusbar_manual low noBusbar (congrArg Sequencer.manual feeder_markedManual)
  rw [ended]
  refine ⟨?_, rfl, fun j other => ?_, rfl⟩
  · rw [feeder_onFeeder_self, feeder_markedManual]
    rfl
  · rw [feeder_onFeeder_other _ other, markedManual_other other]

theorem manualClose_closes (live : ((e.store.values k).vlive : Int) ≤ e.front.mean20 (.lineVoltage k))
    (fb : (p.item (.fb k)).state = .opened) (tc : (p.item (.tc k)).state = .opened) :
    (p.manualClose e k).feeder k =
        Sequencer.closingLive e k (p.feeder k).attempts { p.feeder k with manual := true } ∧
      ((p.manualClose e k).item (.fb k)).state = .closing ∧
      (∀ i, i ≠ .fb k → (p.manualClose e k).item i = p.item i) ∧
      (∀ j, j ≠ k → (p.manualClose e k).feeder j = p.feeder j) ∧
      (p.manualClose e k).unit.journal.getLast? = some ⟨p.unit.nextIndex, e.time.stamp, .feeder k, .lineTestResult,
        [65535, e.front.mean20 (.lineVoltage k), e.front.mean20 .vbus]⟩ := by
  obtain ⟨entered, closes, items, feeders, newest⟩ :=
    enterLineTest_closes_self (p := p.markedManual k) (used := (p.feeder k).attempts) live fb tc
      (by rw [feeder_markedManual]; rfl)
  rw [feeder_markedManual] at entered
  exact ⟨entered, closes, items, fun j other => (feeders j other).trans (markedManual_other other), newest⟩

/-! ### A close at the cabinet (R111) -/

theorem closedLocally_keepsItems (keeps : (∀ x, (p.feeder k).state ≠ .lineTest x) ∨ (p.item (.tc k)).state = .opened) :
    p.closedLocally e k = (p.onFeeder k (Sequencer.enterInService e)).post e (.feeder k) .feederClosedLocal
      [(p.feeder k).state.code] := by
  unfold closedLocally
  dsimp only
  split
  next x testing => rw [openTcUnlessOpen_opened (keeps.resolve_left fun notTesting => notTesting x testing)]
  next => rfl

theorem closedLocally_opensTc {x : TestPhase} (testing : (p.feeder k).state = .lineTest x)
    (notOpened : (p.item (.tc k)).state ≠ .opened) :
    p.closedLocally e k = ((p.openTc e k).onFeeder k (Sequencer.enterInService e)).post e (.feeder k) .feederClosedLocal
      [(p.feeder k).state.code] := by
  unfold closedLocally
  dsimp only
  rw [testing]
  dsimp only
  rw [openTcUnlessOpen_opens notOpened]

theorem closedLocally_served :
    (p.closedLocally e k).feeders = p.feeders.set k ((p.feeder k).enterInService e) ∧
      (p.closedLocally e k).unit.journal.getLast? = some
        ⟨p.unit.nextIndex, e.time.stamp, .feeder k, .feederClosedLocal, [((p.feeder k).state.code : Int)]⟩ := by
  by_cases keeps : (∀ x, (p.feeder k).state ≠ .lineTest x) ∨ (p.item (.tc k)).state = .opened
  · rw [closedLocally_keepsItems keeps]
    exact ⟨rfl, JournalUnit.post_last ..⟩
  · obtain ⟨⟨x, testing⟩, notOpened⟩ : (∃ x, (p.feeder k).state = .lineTest x) ∧ (p.item (.tc k)).state ≠ .opened := by
      simpa using keeps
    rw [closedLocally_opensTc testing notOpened, openTc_eq]
    exact ⟨rfl, JournalUnit.post_last ..⟩

/-! ### Reports of the line breaker (R91, R95, R111) -/

theorem fbReport_closedLocally
    (outOfService : (p.feeder k).state = .out ∨ (p.feeder k).state = .lockedOut ∨
      (∃ x, (p.feeder k).state = .deadTime x) ∨ ∃ x, (p.feeder k).state = .lineTest x) :
    p.fbReport e k .closed .discrepancy = p.closedLocally e k := by
  unfold fbReport
  rcases outOfService with state | state | ⟨x, state⟩ | ⟨x, state⟩ <;> rw [state]

theorem fbReport_opened_rests (reason : ReportReason)
    (state : (p.feeder k).state = .out ∨ (p.feeder k).state = .lockedOut) : p.fbReport e k .opened reason = p := by
  unfold fbReport
  rcases state with state | state <;> rw [state]

theorem fbReport_unsensed (reason : ReportReason) : p.fbReport e k .unsensed reason = p := by
  unfold fbReport
  split <;> trivial

theorem fbReport_first_closed {reason : ReportReason} (unknown : (p.feeder k).state = .unknown)
    (first : reason = .initial ∨ reason = .resensed) :
    p.fbReport e k .closed reason = p.onFeeder k (Sequencer.enterInService e) := by
  unfold fbReport
  rcases first with rfl | rfl <;> rw [unknown]

theorem fbReport_first_opened {reason : ReportReason} (unknown : (p.feeder k).state = .unknown)
    (first : reason = .initial ∨ reason = .resensed) :
    p.fbReport e k .opened reason = p.onFeeder k Sequencer.enterOut := by
  unfold fbReport
  rcases first with rfl | rfl <;> rw [unknown]

theorem fbReport_late (locked : (p.feeder k).state = .lockedOut) :
    p.fbReport e k .closed .late = p.openCommand e (.sequencer k) (.fb k) := by
  unfold fbReport
  rw [locked]

theorem fbReport_releases {reason : ReportReason} (inService : (p.feeder k).state = .inService)
    (uncommanded : reason = .discrepancy ∨ reason = .late) :
    p.fbReport e k .opened reason = p.directRelease e k := by
  unfold fbReport
  rcases uncommanded with rfl | rfl <;> rw [inService]

end Plant

/-- Settles O28: the request by the entry into LINE_TEST of a marked feeder, each report by its rule above. -/
theorem feederCloseStartsAManualTest : Obligations.FeederCloseStartsAManualTest := by
  refine ⟨fun head n s atOnce => ⟨fun noRemote => ?_, fun remote outside => ?_, ?request⟩, ?report⟩
  · rw [exec_feederClose, feederRequest_notPermitted atOnce noRemote]
  · rw [exec_feederClose, feederRequest_badValue atOnce remote outside]
  case request =>
    intro k remote number may v low
    have served (isReady : may) {x : FeederState}
        (state : ((s.plant.manualClose s.env k).feeder k).state = x) : exec (.feederClose head n) s =
          .next (s.repliedWith head .feederClose [0, n, BitVec.ofNat 8 x.code] (s.plant.manualClose s.env k)) := by
      rw [exec_feederClose, feederRequest_served atOnce remote number (Plant.mayClose_iff.2 isReady), state]
    refine ⟨fun mayNot => ?_, fun isReady dead busbar => ?_, fun isReady dead noBusbar => ?_, fun isReady alive => ?_⟩
    · have notReady : s.plant.mayClose k = false := by simpa using mt Plant.mayClose_iff.1 mayNot
      rw [exec_feederClose, feederRequest_wrongState atOnce remote number notReady]
    · have ⟨_, _, tc, _⟩ := isReady
      obtain ⟨entered, rest⟩ := Plant.manualClose_starts (e := s.env) dead busbar tc
      have state := congrArg Sequencer.state entered
      exact ⟨_, served isReady state, state, congrArg Sequencer.manual entered, rest⟩
    · obtain ⟨entered, rest⟩ := Plant.manualClose_noBusbar (e := s.env) (p := s.plant) dead noBusbar
      have state := congrArg Sequencer.state entered
      exact ⟨_, served isReady state, state, congrArg (·.lastTest.result) entered, rest⟩
    · have ⟨_, fb, tc, _⟩ := isReady
      obtain ⟨entered, closes, items, feeders, newest⟩ :=
        Plant.manualClose_closes (e := s.env) (Int.not_lt.1 alive) fb tc
      have state := congrArg Sequencer.state entered
      exact ⟨_, served isReady state, state, (congrArg Sequencer.attempts entered).trans rfl,
        congrArg Sequencer.lastTest entered, closes, items, newest, feeders⟩
  case report =>
    intro e k p f served
    refine ⟨fun reason unknown first =>
        ⟨Plant.fbReport_first_closed unknown first, Plant.fbReport_first_opened unknown first⟩, ?_, fun locked => ?_,
      fun inService => ⟨Plant.fbReport_releases inService (.inl rfl), Plant.fbReport_releases inService (.inr rfl)⟩,
      Plant.fbReport_opened_rests, Plant.fbReport_unsensed⟩
    · intro q outOfService
      have reported : q = p.closedLocally e k := Plant.fbReport_closedLocally outOfService
      rw [reported]
      refine ⟨Plant.closedLocally_served.1, Plant.closedLocally_served.2, fun keeps => ?_,
        fun ⟨x, testing⟩ notOpened => ?_⟩
      · rw [Plant.closedLocally_keepsItems keeps]
        rfl
      · rw [Plant.closedLocally_opensTc testing notOpened]
        exact Plant.openCommand_opens (Commander.sequencer_mayCommand_tc ..)
    · rw [Plant.fbReport_late locked]
      exact ⟨Plant.openCommand_feeders .., Plant.openCommand_opens (Commander.sequencer_mayCommand_fb ..)⟩

end Sys2Proof.Machine
end

section
/-! PROOFS. Feeder Open, and the ends of a closing, a manual opening and a reopening (O29). -/

namespace Sys2Proof.Machine

variable {e : Env} {k : FeederId} {p : Plant}

namespace Sequencer

theorem abandon_lockedOut (c : LockoutCause) (f : Sequencer) :
    f.abandon (.lockedOut c) = { f with exit := some (.lockedOut c) } := by
  unfold abandon
  cases f.exit with
  | none => rfl
  | some t => cases t <;> rfl

/-- R108, R110: OUT does not replace a LOCKED_OUT target. -/
theorem abandon_out (f : Sequencer) : f.abandon .out =
    { f with exit := match f.exit with
        | some (.lockedOut c) => some (.lockedOut c)
        | _ => some .out } := by
  unfold abandon
  cases f.exit with
  | none => rfl
  | some t => cases t <;> rfl

end Sequencer

namespace Plant

/-! ### Feeder Open by state (R110) -/

theorem manualOpen_inService (state : (p.feeder k).state = .inService) : p.manualOpen e k =
    (p.setItem (.fb k) ((p.item (.fb k)).openCommand e (.sequencer k) (.fb k))).onFeeder k
      (fun f => { f with exit := some .out }) := by
  unfold manualOpen
  rw [state, openFb_eq]

theorem manualOpen_deadTime {x : DeadPhase} (state : (p.feeder k).state = .deadTime x) : p.manualOpen e k =
    (p.onFeeder k Sequencer.enterOut).post e (.feeder k) .feederOpened [4] := by
  unfold manualOpen
  rw [state]
  rfl

theorem manualOpen_testing
    (state : (p.feeder k).state = .lineTest .tcClosing ∨ (p.feeder k).state = .lineTest .settling) :
    p.manualOpen e k = p.beginTcOpening e k .out := by
  unfold manualOpen
  rcases state with state | state <;> rw [state]

theorem manualOpen_tcOpening (state : (p.feeder k).state = .lineTest .tcOpening) :
    p.manualOpen e k = p.onFeeder k (Sequencer.abandon .out) := by
  unfold manualOpen
  rw [state]
  exact congrArg (onFeeder k · p) (funext fun f => f.abandon_out.symm)

theorem manualOpen_closing (state : (p.feeder k).state = .closing) :
    p.manualOpen e k = p.abandonClosing e k .out := by
  unfold manualOpen
  rw [state]

/-- Feeder Open changes the feeder's record, items and, out of DEAD_TIME, the journal. -/
theorem manualOpen_shape (mayOpen : (p.feeder k).state.mayOpen = true) :
    ∃ change items unit, p.manualOpen e k = { p.onFeeder k change with items := items, unit := unit } ∧
      ((∀ x, (p.feeder k).state ≠ .deadTime x) → unit = p.unit) := by
  cases state : (p.feeder k).state with
  | unknown | out | tripping | lockedOut => rw [state] at mayOpen; contradiction
  | inService => exact ⟨fun f => { f with exit := some .out }, p.items.set (.fb k) _, p.unit,
      manualOpen_inService state, fun _ => rfl⟩
  | deadTime x => exact ⟨_, p.items, _, manualOpen_deadTime state, fun other => absurd rfl (other x)⟩
  | lineTest x =>
    cases x with
    | tcClosing => exact ⟨Sequencer.enterTcOpening .out, p.items.set (.tc k) _, p.unit,
      (manualOpen_testing (.inl state)).trans (beginTcOpening_eq _), fun _ => rfl⟩
    | settling => exact ⟨Sequencer.enterTcOpening .out, p.items.set (.tc k) _, p.unit,
      (manualOpen_testing (.inr state)).trans (beginTcOpening_eq _), fun _ => rfl⟩
    | tcOpening => exact ⟨_, p.items, p.unit, manualOpen_tcOpening state, fun _ => rfl⟩
  | closing => exact ⟨Sequencer.abandon .out, p.items.set (.fb k) _, p.unit,
    (manualOpen_closing state).trans (abandonClosing_eq _), fun _ => rfl⟩

theorem abandonClosing_self (t : ExitTarget) :
    (p.abandonClosing e k t).feeder k = (p.feeder k).abandon t ∧
      ((p.abandonClosing e k t).item (.fb k)).state = .opening ∧
      (∀ i, i ≠ .fb k → (p.abandonClosing e k t).item i = p.item i) ∧
      (∀ j, j ≠ k → (p.abandonClosing e k t).feeder j = p.feeder j) ∧ (p.abandonClosing e k t).unit = p.unit := by
  rw [abandonClosing_eq]
  refine ⟨?_, ?_, fun i other => ?_, fun j other => ?_, rfl⟩
  · rw [feeder_onFeeder_self, feeder_setItem]
  · rw [item_onFeeder, item_setItem_self]
    exact Item.openCommand_state ..
  · rw [item_onFeeder, item_setItem_other _ other]
  · rw [feeder_onFeeder_other _ other, feeder_setItem]

/-! ### The outcomes of the line breaker's commands (R107, R108, R110, R111) -/

theorem fbCloseOutcome_completed (closing : (p.feeder k).state = .closing) : p.fbCloseOutcome e k .completed =
    (p.onFeeder k (Sequencer.enterInService e)).post e (.feeder k) .feederClosed
      [if (p.feeder k).manual then 1 else 0, (p.feeder k).attempts] := by
  unfold fbCloseOutcome
  rw [closing]

theorem fbCloseOutcome_locks {o : CommandOutcome} (closing : (p.feeder k).state = .closing)
    (fails : o = .failed ∨ o = .wrongState) : p.fbCloseOutcome e k o = p.lockOut e k .closeFail := by
  unfold fbCloseOutcome
  rw [closing]
  rcases fails with rfl | rfl <;> rfl

theorem fbOpenOutcome_closing_out (closing : (p.feeder k).state = .closing) (held : (p.feeder k).exit = some .out) :
    p.fbOpenOutcome e k .completed = (p.onFeeder k Sequencer.enterOut).post e (.feeder k) .feederOpened [6] := by
  unfold fbOpenOutcome
  rw [closing, held]
  rfl

theorem fbOpenOutcome_closing_lockedOut {c : LockoutCause} (closing : (p.feeder k).state = .closing)
    (held : (p.feeder k).exit = some (.lockedOut c)) : p.fbOpenOutcome e k .completed = p.lockOut e k c := by
  unfold fbOpenOutcome
  rw [closing, held]

theorem fbOpenOutcome_closing_failed (closing : (p.feeder k).state = .closing) (held : (p.feeder k).exit.isSome) :
    p.fbOpenOutcome e k .failed = p.lockOut e k .breakerFailure := by
  obtain ⟨t, held⟩ := Option.isSome_iff_exists.1 held
  unfold fbOpenOutcome
  rw [closing, held]
  cases t <;> rfl

theorem fbOpenOutcome_inService (inService : (p.feeder k).state = .inService) (held : (p.feeder k).exit = some .out) :
    p.fbOpenOutcome e k .completed = (p.onFeeder k Sequencer.enterOut).post e (.feeder k) .feederOpened [2] ∧
      p.fbOpenOutcome e k .failed = p.onFeeder k (fun f => { f with exit := none }) := by
  unfold fbOpenOutcome
  rw [inService, held]
  exact ⟨rfl, rfl⟩

theorem fbOpenOutcome_lockedOut (locked : (p.feeder k).state = .lockedOut) :
    p.fbOpenOutcome e k .completed = p ∧
      p.fbOpenOutcome e k .failed = p.onFeeder k (fun f => { f with lockout := some .breakerFailure }) := by
  unfold fbOpenOutcome
  rw [locked]
  exact ⟨rfl, rfl⟩

theorem tcReport_abandons {new : ItemState} {reason : ReportReason} (closing : (p.feeder k).state = .closing)
    (lost : leavesUncommanded .opened .opened new reason = true) :
    p.tcReport e k .opened new reason = p.abandonClosing e k (.lockedOut .testEquipment) := by
  unfold tcReport
  rw [closing]
  exact if_pos lost

end Plant

/-- R110: the states in which Feeder Open is refused. -/
theorem FeederState.mayOpen_eq_false {x : FeederState} :
    x.mayOpen = false ↔ x = .unknown ∨ x = .out ∨ x = .tripping ∨ x = .lockedOut := by
  cases x <;> simp [mayOpen]

/-- Settles O29: the request by the feeder's state, each outcome and report by its rule above. -/
theorem feederOpenActsByState : Obligations.FeederOpenActsByState := by
  refine ⟨fun head n s atOnce => ⟨fun noRemote => ?_, fun remote outside => ?_, ?request⟩, ?closing, ?others⟩
  · rw [exec_feederOpen, feederRequest_notPermitted atOnce noRemote]
  · rw [exec_feederOpen, feederRequest_badValue atOnce remote outside]
  case request =>
    intro k remote number f toOut
    refine ⟨fun refused => ?_, fun known notOut notTripping notLocked => ?_⟩
    · rw [exec_feederOpen, feederRequest_wrongState atOnce remote number (FeederState.mayOpen_eq_false.2 refused)]
    · have mayOpen : f.state.mayOpen = true := by
        refine Bool.not_eq_false _ ▸ mt FeederState.mayOpen_eq_false.1 ?_
        simp [known, notOut, notTripping, notLocked]
      obtain ⟨change, items, unit, shape, quiet⟩ := Plant.manualOpen_shape (e := s.env) mayOpen
      refine ⟨s.plant.manualOpen s.env k, ?_, fun j other => ?_, shape ▸ rfl, shape ▸ rfl, shape ▸ rfl,
        fun inService => ?_, fun ⟨x, dead⟩ => ?_, fun notDead => shape ▸ quiet notDead, fun testing => ?_,
        fun opening => ?_, fun closing => ?_⟩
      · rw [exec_feederOpen, feederRequest_served atOnce remote number mayOpen]
      · rw [shape]
        exact Plant.feeder_onFeeder_other _ other
      · rw [Plant.manualOpen_inService inService, Plant.feeder_onFeeder_self, Plant.item_onFeeder,
          Plant.item_setItem_self]
        exact ⟨inService, rfl, Item.openCommand_state ..⟩
      · rw [Plant.manualOpen_deadTime dead, Plant.feeder_post, Plant.feeder_onFeeder_self]
        exact ⟨rfl, rfl, rfl, JournalUnit.post_last ..⟩
      · obtain ⟨entered, opens, -⟩ := Plant.beginTcOpening_self (e := s.env) (k := k) (p := s.plant) .out
        rw [Plant.manualOpen_testing testing, entered]
        exact ⟨rfl, rfl, opens⟩
      · rw [Plant.manualOpen_tcOpening opening, Plant.feeder_onFeeder_self]
        exact ⟨f.abandon_out, rfl⟩
      · obtain ⟨abandoned, opens, -⟩ := Plant.abandonClosing_self (e := s.env) (k := k) (p := s.plant) .out
        rw [Plant.manualOpen_closing closing, abandoned]
        exact ⟨f.abandon_out, opens⟩
  case closing =>
    intro e k p closing f opened
    refine ⟨?_, fun o fails => ?_, fun new reason left reported => ?_, fun held => ?_, fun c held => ?_, fun held => ?_⟩
    · rw [Plant.fbCloseOutcome_completed closing]
      dsimp only
      rw [Plant.feeder_post, Plant.feeder_onFeeder_self]
      exact ⟨rfl, rfl, rfl, rfl, rfl, rfl, JournalUnit.post_last ..⟩
    · rw [Plant.fbCloseOutcome_locks closing fails]
      exact Plant.lockOut_locks _
    · obtain ⟨abandoned, opens, -, -, unit⟩ :=
        Plant.abandonClosing_self (e := e) (k := k) (p := p) (.lockedOut .testEquipment)
      rw [Plant.tcReport_abandons closing (leavesUncommanded_iff.2 ⟨rfl, left, reported⟩)]
      exact ⟨opens, abandoned.trans (Sequencer.abandon_lockedOut ..), unit⟩
    · have ended : opened = _ := Plant.fbOpenOutcome_closing_out closing held
      rw [ended, Plant.feeder_post, Plant.feeder_onFeeder_self]
      exact ⟨rfl, JournalUnit.post_last ..⟩
    · have locked : opened = p.lockOut e k c := Plant.fbOpenOutcome_closing_lockedOut closing held
      rw [locked]
      exact Plant.lockOut_locks _
    · rw [Plant.fbOpenOutcome_closing_failed closing held]
      exact Plant.lockOut_locks _
  case others =>
    intro e k p f done failed
    refine ⟨fun inService held => ?_, Plant.fbOpenOutcome_lockedOut⟩
    obtain ⟨completes, fails⟩ := Plant.fbOpenOutcome_inService (e := e) inService held
    have opened : done = _ := completes
    rw [opened, Plant.feeder_post, Plant.feeder_onFeeder_self]
    exact ⟨rfl, JournalUnit.post_last .., fun j other => Plant.feeder_onFeeder_other _ other, rfl, rfl, rfl, rfl, fails⟩

end Sys2Proof.Machine
end

section
/-! PROOFS. One rule for each step of a trip: the record, the claim, the entries and the open-pending set (R92 to
R94). -/

namespace Sys2Proof.Machine

/-! ### A few entries in the journal -/

namespace JournalUnit

variable {e : Env} {m n : Nat} {u v w : JournalUnit}

/-- A change of the unit that appends at most n entries, and clears no flag. -/
def LogsFew (n : Nat) (u v : JournalUnit) : Prop := ∃ l, l.length ≤ n ∧ Logs l u v

theorem LogsFew.refl (u : JournalUnit) : LogsFew 0 u u := ⟨[], Nat.le_refl _, .refl u⟩

theorem LogsFew.mono (a : LogsFew m u v) (few : m ≤ n) : LogsFew n u v := by
  obtain ⟨l, short, logs⟩ := a
  exact ⟨l, short.trans few, logs⟩

theorem LogsFew.trans (a : LogsFew m u v) (b : LogsFew n v w) : LogsFew (m + n) u w := by
  obtain ⟨l, short, logs⟩ := a
  obtain ⟨l', short', logs'⟩ := b
  exact ⟨l ++ l', by rw [List.length_append]; omega, logs.trans logs'⟩

theorem LogsFew.latched (h : LogsFew n u v) {a : Alarm} (set : u.latched.get a = true) : v.latched.get a = true := by
  obtain ⟨l, -, logs⟩ := h
  exact logs.latched a set

theorem LogsFew.attention (h : LogsFew n u v) {f : AttentionFlag} (set : u.attention.get f = true) :
    v.attention.get f = true := by
  obtain ⟨l, -, logs⟩ := h
  exact logs.attention f set

theorem logsFew_raise (f : AttentionFlag) (u : JournalUnit) : LogsFew 0 u (raise e f u) :=
  ⟨_, Nat.le_refl _, logs_raise f u⟩

theorem logsFew_latch (a : Alarm) (u : JournalUnit) : LogsFew 0 u (latch e a u) := ⟨_, Nat.le_refl _, logs_latch a u⟩

theorem logsFew_latchIfNew (a : Alarm) (before now : Bool) (u : JournalUnit) :
    LogsFew 0 u (latchIfNew e a before now u) := ⟨_, Nat.le_refl _, logs_latchIfNew a before now u⟩

theorem logsFew_post (s : Source) (k : Kind) (d : List Int) (u : JournalUnit) : LogsFew 1 u (post e s k d u) :=
  ⟨_, Nat.le_refl _, logs_post s k d u⟩

/-- An entry stays in the journal through the few that follow it. -/
theorem LogsFew.mem_of_post {s : Source} {k : Kind} {d : List Int} (h : LogsFew n (post e s k d u) v)
    (few : n ≤ 255) : ⟨u.nextIndex, e.time.stamp, s, k, d⟩ ∈ v.journal := by
  obtain ⟨l, short, logs⟩ := h
  exact ((logs_post s k d u).trans logs).mem (List.mem_append_left _ (List.mem_singleton_self _))
    (by rw [List.length_append, List.length_singleton]; omega)

/-- The last two entries of two appends. -/
theorem post_dropLast_last (s : Source) (k : Kind) (d : List Int) (u : JournalUnit) {x : Entry}
    (last : u.journal.getLast? = some x) : (post e s k d u).journal.dropLast.getLast? = some x := by
  rw [post_journal, List.dropLast_concat]
  split
  next full => rw [List.getLast?_drop, if_neg (by omega), last]
  next => exact last

theorem raise_raised (f : AttentionFlag) (u : JournalUnit) : (raise e f u).attention.get f = true := by
  rw [raise_attention, if_pos rfl]

end JournalUnit

theorem Item.openCommand_operation (e : Env) (c : Commander) (i : ItemId) (it : Item) :
    ∃ op, (it.openCommand e c i).operation = some op := by
  unfold openCommand
  split <;> exact ⟨_, rfl⟩

/-- R93 step 4: the cause and the snapshot of a trip. -/
def Sequencer.recorded (snap : Snapshot) (f : Sequencer) : Sequencer :=
  { f with lastCause := some snap.cause, snapshot := some snap }

namespace Plant

variable {e : Env} {k j : FeederId} {p : Plant}

/-! ### The open-pending set (R92, R135, R136) -/

/-- R135: a rectifier that fires, outside RETARD. -/
def Drives (p : Plant) : Prop := p.rect.state = .softStart ∨ p.rect.state = .regulating ∨ p.rect.state = .currentLimit

/-- R135: a feeder that joins the open-pending set retards the rectifier. -/
def Retards (e : Env) (p : Plant) : Prop := p.pendingOpen = [] ∧ e.store.stationFields.isSome ∧ p.Drives

theorem joinPending_retards (retards : p.Retards e) : (p.joinPending e k).rect.state = .retard ∧
    (p.joinPending e k).unit = JournalUnit.post e .rectifier .rectState [(p.rect.state.code : Int), 5, 0] p.unit := by
  obtain ⟨none, record, drives⟩ := retards
  obtain ⟨f, fields⟩ := Option.isSome_iff_exists.1 record
  unfold joinPending
  dsimp only
  rw [none]
  refine ⟨retardEntry_firing fields drives, ?_⟩
  simp only [List.isEmpty_nil, if_true]
  unfold retardEntry
  rcases drives with state | state | state <;> simp only [fields, state] <;> rfl

theorem joinPending_spares (spares : ¬ p.Retards e) :
    p.joinPending e k = { p with pendingOpen := pendingWith k p.pendingOpen } := by
  unfold joinPending
  dsimp only
  split
  next none =>
    refine retardEntry_other ?_
    rw [or_iff_not_imp_left]
    exact fun record drives => spares ⟨List.isEmpty_iff.1 none, Option.isSome_iff_ne_none.2 record, drives⟩
  next => rfl

theorem joinPending_rest (k : FeederId) (p : Plant) : (p.joinPending e k).rail = p.rail ∧
    (p.joinPending e k).discs = p.discs ∧ (p.joinPending e k).records = p.records := by
  unfold joinPending retardEntry
  dsimp only
  (repeat' split) <;> exact ⟨rfl, rfl, rfl⟩

theorem joinPending_logs (k : FeederId) (p : Plant) : JournalUnit.LogsFew 1 p.unit (p.joinPending e k).unit := by
  by_cases retards : p.Retards e
  · rw [(joinPending_retards retards).2]
    exact JournalUnit.logsFew_post ..
  · rw [joinPending_spares retards]
    exact (JournalUnit.LogsFew.refl _).mono (Nat.zero_le _)

theorem leavePending_ends (last : p.pendingOpen = [k]) (retarded : p.rect.state = .retard) :
    p.leavePending e k =
      ({ p with pendingOpen := [], rect := { p.rect with state := .regulating } }).post e .rectifier .rectState
        [5, 3, 0] := by
  unfold leavePending retardExit
  simp only [last, List.filter_singleton, retarded]
  simp
  rfl

theorem leavePending_logs (k : FeederId) (p : Plant) : JournalUnit.LogsFew 1 p.unit (p.leavePending e k).unit := by
  unfold leavePending retardExit
  dsimp only
  (repeat' split)
  · exact JournalUnit.logsFew_post ..
  · exact (JournalUnit.LogsFew.refl _).mono (Nat.zero_le _)
  · exact (JournalUnit.LogsFew.refl _).mono (Nat.zero_le _)

/-- R92, R136: the set changes the rectifier in a firing state alone. -/
theorem leavePending_rect_of_not_retard (calm : p.rect.state ≠ .retard) : (p.leavePending e k).rect = p.rect := by
  unfold leavePending retardExit
  simp only [if_neg calm, ite_self]

/-! ### A trip (R93, R95) -/

/-- R93 step 6: the details of FEEDER_TRIP, with 255 where no slot could be claimed. -/
def tripDetails (k : FeederId) (snap : Snapshot) (p : Plant) : List Int :=
  [(snap.cause.code : Int), snap.i, match (p.records.claim k snap).2 with | some n => n.val | none => 255]

theorem recordTrip_eq (snap : Snapshot) : p.recordTrip e k snap =
    { p.onFeeder k (Sequencer.recorded snap) with
      records := (p.records.claim k snap).1
      unit := JournalUnit.raise e .trip (JournalUnit.post e (.feeder k) .feederTrip (p.tripDetails k snap) p.unit) } :=
  rfl

/-- R93 steps 2 to 6 but for the join of the open-pending set. -/
def tripped (e : Env) (k : FeederId) (snap : Snapshot) (reclose : Bool) (exit : Option ExitTarget) (p : Plant) :
    Plant :=
  { (p.setItem (.fb k) ((p.item (.fb k)).openCommand e (.sequencer k) (.fb k))).onFeeder k
      (Sequencer.enterTripping reclose exit ∘ Sequencer.recorded snap) with
    records := (p.records.claim k snap).1
    unit := JournalUnit.raise e .trip (JournalUnit.post e (.feeder k) .feederTrip (p.tripDetails k snap) p.unit) }

theorem beginTrip_eq (snap : Snapshot) (reclose : Bool) (exit : Option ExitTarget) :
    p.beginTrip e k snap reclose exit = (p.tripped e k snap reclose exit).joinPending e k := by
  unfold beginTrip tripped
  dsimp only
  rw [openFb_eq, recordTrip_eq, ← onFeeder_onFeeder]
  rfl

/-- R93, R94: what a trip makes of the plant, whatever its record. -/
structure TripTaken (e : Env) (k : FeederId) (snap : Snapshot) (reclose : Bool) (exit : Option ExitTarget)
    (p q : Plant) : Prop where
  feeder : q.feeder k = ((p.feeder k).recorded snap).enterTripping reclose exit
  feeders : ∀ j, j ≠ k → q.feeder j = p.feeder j
  opens : (q.item (.fb k)).state = .opening ∧ ∃ op, (q.item (.fb k)).operation = some op
  items : ∀ i, i ≠ .fb k → i ≠ .tc k → q.item i = p.item i
  pending : q.pendingOpen = pendingWith k p.pendingOpen
  records : q.records = (p.records.claim k snap).1
  discs : q.discs = p.discs
  rail : q.rail = p.rail
  flag : q.unit.attention.trip = true
  logs : JournalUnit.LogsFew 2 p.unit q.unit
  spares : ¬ p.Retards e → q.rect = p.rect ∧
    q.unit.journal.getLast? = some ⟨p.unit.nextIndex, e.time.stamp, .feeder k, .feederTrip, p.tripDetails k snap⟩
  retards : p.Retards e → q.rect.state = .retard ∧
    q.unit.journal.dropLast.getLast? =
      some ⟨p.unit.nextIndex, e.time.stamp, .feeder k, .feederTrip, p.tripDetails k snap⟩ ∧
    q.unit.journal.getLast? =
      some ⟨p.unit.nextIndex + 1, e.time.stamp, .rectifier, .rectState, [(p.rect.state.code : Int), 5, 0]⟩

theorem beginTrip_taken (snap : Snapshot) (reclose : Bool) (exit : Option ExitTarget) :
    p.TripTaken e k snap reclose exit (p.beginTrip e k snap reclose exit) := by
  have last : (p.tripped e k snap reclose exit).unit.journal.getLast? =
      some ⟨p.unit.nextIndex, e.time.stamp, .feeder k, .feederTrip, p.tripDetails k snap⟩ := by
    unfold tripped
    rw [JournalUnit.raise_journal, JournalUnit.post_last]
  have logs : JournalUnit.LogsFew 1 p.unit (p.tripped e k snap reclose exit).unit :=
    (JournalUnit.logsFew_post ..).trans (JournalUnit.logsFew_raise ..)
  have flag : (p.tripped e k snap reclose exit).unit.attention.get .trip = true := JournalUnit.raise_raised ..
  have index : (p.tripped e k snap reclose exit).unit.nextIndex = p.unit.nextIndex + 1 := by
    unfold tripped
    rw [JournalUnit.raise_nextIndex, JournalUnit.post_nextIndex]
  have joined := joinPending_logs (e := e) k (p.tripped e k snap reclose exit)
  obtain ⟨rail, discs, records⟩ := joinPending_rest (e := e) k (p.tripped e k snap reclose exit)
  have items (i : ItemId) : ((p.tripped e k snap reclose exit).joinPending e k).item i =
      (p.tripped e k snap reclose exit).item i := congrArg (PerItem.get · i) (joinPending_items ..)
  rw [beginTrip_eq]
  exact {
    feeder := by
      rw [feeder_joinPending]
      exact feeder_onFeeder_self _
    feeders := fun j other => by
      rw [feeder_joinPending]
      exact feeder_onFeeder_other _ other
    opens := by
      have opened : (p.tripped e k snap reclose exit).item (.fb k) =
        (p.item (.fb k)).openCommand e (.sequencer k) (.fb k) := item_setItem_self (p := p) (i := .fb k) _
      rw [items, opened]
      exact ⟨Item.openCommand_state .., Item.openCommand_operation ..⟩
    items := fun i other _ => by
      rw [items]
      exact item_setItem_other _ other
    pending := joinPending_pendingOpen ..
    records := records
    discs := discs
    rail := rail
    flag := joined.attention flag
    logs := logs.trans joined
    spares := fun spares => by
      rw [joinPending_spares (p := p.tripped e k snap reclose exit) spares]
      exact ⟨rfl, last⟩
    retards := fun retards => by
      obtain ⟨state, unit⟩ := joinPending_retards (k := k) (p := p.tripped e k snap reclose exit) retards
      rw [unit]
      exact ⟨state, JournalUnit.post_dropLast_last _ _ _ _ last, index ▸ JournalUnit.post_last ..⟩ }

end Plant

end Sys2Proof.Machine
end

section
/-! PROOFS. Orders that trip several feeders: what an order at one sequencer leaves of the others (R96, R98, R113,
R114). -/

namespace Sys2Proof.Machine

namespace Plant

variable {e : Env} {k j : FeederId} {p q r : Plant} {cause : TripCause}

/-! ### An order at one sequencer -/

/-- What an order at sequencer k leaves of the plant. -/
structure OrderTaken (k : FeederId) (p q : Plant) : Prop where
  feeders : ∀ j, j ≠ k → q.feeder j = p.feeder j
  pending : ∀ j, j ≠ k → (j ∈ q.pendingOpen ↔ j ∈ p.pendingOpen)
  items : ∀ i, i ≠ .fb k → i ≠ .tc k → q.item i = p.item i
  rail : q.rail = p.rail
  logs : JournalUnit.LogsFew 2 p.unit q.unit

/-- Two plants that agree at feeder k: its record, its membership of the open-pending set and its two items. -/
structure SameAt (k : FeederId) (p q : Plant) : Prop where
  feeder : q.feeder k = p.feeder k
  pending : k ∈ q.pendingOpen ↔ k ∈ p.pendingOpen
  fb : q.item (.fb k) = p.item (.fb k)
  tc : q.item (.tc k) = p.item (.tc k)

theorem SameAt.refl (k : FeederId) (p : Plant) : p.SameAt k p := ⟨rfl, .rfl, rfl, rfl⟩

theorem SameAt.trans (a : p.SameAt k q) (b : q.SameAt k r) : p.SameAt k r :=
  ⟨b.feeder.trans a.feeder, b.pending.trans a.pending, b.fb.trans a.fb, b.tc.trans a.tc⟩

theorem OrderTaken.sameAt (taken : p.OrderTaken k q) (other : j ≠ k) : p.SameAt j q where
  feeder := taken.feeders j other
  pending := taken.pending j other
  fb := taken.items _ (fun same => other (ItemId.fb.inj same)) nofun
  tc := taken.items _ nofun (fun same => other (ItemId.tc.inj same))

theorem OrderTaken.refl (k : FeederId) (p : Plant) : p.OrderTaken k p :=
  ⟨fun _ _ => rfl, fun _ _ => .rfl, fun _ _ _ => rfl, rfl, (JournalUnit.LogsFew.refl _).mono (Nat.zero_le _)⟩

/-! ### An order at several sequencers -/

section
variable {f : Plant → FeederId → Plant} (order : ∀ (p : Plant) (k : FeederId), p.OrderTaken k (f p k))
  {l : List FeederId}
include order

theorem foldl_sameAt (absent : k ∉ l) (p : Plant) : p.SameAt k (l.foldl f p) :=
  List.foldlRecOn (motive := fun q => p.SameAt k q) l _ (.refl k p) fun q same j mem =>
    same.trans ((order q j).sameAt fun equal => absent (equal ▸ mem))

/-- Of an order at several sequencers, feeder k sees its own part. -/
theorem foldl_at (distinct : l.Nodup) (mem : k ∈ l) (p : Plant) :
    ∃ q, p.SameAt k q ∧ (f q k).SameAt k (l.foldl f p) := by
  induction l generalizing p with
  | nil => contradiction
  | cons i l ih =>
    obtain ⟨fresh, distinct⟩ := List.nodup_cons.1 distinct
    rcases List.mem_cons.1 mem with same | mem
    · subst same
      exact ⟨p, .refl k p, foldl_sameAt order fresh _⟩
    · obtain ⟨q, before, after⟩ := ih distinct mem (f p i)
      have other : k ≠ i := fun same => fresh (same ▸ mem)
      exact ⟨q, ((order p i).sameAt other).trans before, after⟩

theorem foldl_rail (p : Plant) : (l.foldl f p).rail = p.rail :=
  List.foldlRecOn (motive := fun q : Plant => q.rail = p.rail) l _ rfl fun q same j _ => (order q j).rail.trans same

theorem foldl_item {i : ItemId} (off : ∀ k, i ≠ .fb k ∧ i ≠ .tc k) (p : Plant) : (l.foldl f p).item i = p.item i :=
  List.foldlRecOn (motive := fun q : Plant => q.item i = p.item i) l _ rfl fun q same j _ =>
    ((order q j).items i (off j).1 (off j).2).trans same

theorem foldl_logs (p : Plant) : JournalUnit.LogsFew (2 * l.length) p.unit (l.foldl f p).unit := by
  induction l generalizing p with
  | nil => exact .refl _
  | cons i l ih => exact ((order p i).logs.trans (ih (f p i))).mono (by rw [List.length_cons]; omega)

end

/-! ### A trip of the sequencer's own (R96, R98, R114) -/

theorem TripTaken.orderTaken {snap : Snapshot} {reclose : Bool} {exit : Option ExitTarget}
    (taken : p.TripTaken e k snap reclose exit q) : p.OrderTaken k q where
  feeders := taken.feeders
  pending j other := by rw [taken.pending, mem_pendingWith, or_iff_right other]
  items := taken.items
  rail := taken.rail
  logs := taken.logs

/-- R42: the snapshot of a trip of the sequencer's own. -/
def ownSnapshot (e : Env) (k : FeederId) (cause : TripCause) (p : Plant) : Snapshot :=
  (p.disc k).snapshot (e.store.binding.get k).set cause none

theorem ownTrip_rests (rests : (p.feeder k).state ≠ .inService) : p.ownTrip e k cause = p := by
  unfold ownTrip
  split
  next inService => contradiction
  all_goals rfl

theorem ownTrip_taken (inService : (p.feeder k).state = .inService) :
    (p.setDisc k (p.disc k).onRequest).TripTaken e k (p.ownSnapshot e k cause) cause.reclosable
      (tripExit cause (p.feeder k).exit) (p.ownTrip e k cause) := by
  unfold ownTrip
  rw [inService]
  exact beginTrip_taken ..

theorem ownTrip_order (p : Plant) (k : FeederId) : p.OrderTaken k (p.ownTrip e k cause) := by
  by_cases inService : (p.feeder k).state = .inService
  · obtain ⟨feeders, pending, items, rail, logs⟩ := (ownTrip_taken (e := e) (cause := cause) inService).orderTaken
    exact ⟨feeders, pending, items, rail, logs⟩
  · rw [ownTrip_rests inService]
    exact .refl k p

/-- A feeder that has tripped for a cause of its own, in a plant q; `held` is the exit target that it had. -/
structure OwnTripped (k : FeederId) (cause : TripCause) (held : Option ExitTarget) (q : Plant) : Prop where
  state : (q.feeder k).state = .tripping
  reclose : (q.feeder k).reclose = some cause.reclosable
  exit : (q.feeder k).exit = tripExit cause held
  lastCause : (q.feeder k).lastCause = some cause
  pending : k ∈ q.pendingOpen
  opens : (q.item (.fb k)).state = .opening

theorem ownTrip_ownTripped (inService : (p.feeder k).state = .inService) :
    (p.ownTrip e k cause).OwnTripped k cause (p.feeder k).exit := by
  have taken := ownTrip_taken (e := e) (cause := cause) inService
  exact {
    state := congrArg Sequencer.state taken.feeder
    reclose := congrArg Sequencer.reclose taken.feeder
    exit := congrArg Sequencer.exit taken.feeder
    lastCause := congrArg Sequencer.lastCause taken.feeder
    pending := by
      rw [taken.pending, mem_pendingWith]
      exact .inl rfl
    opens := taken.opens.1 }

theorem OwnTripped.sameAt {held : Option ExitTarget} (tripped : p.OwnTripped k cause held) (same : p.SameAt k q) :
    q.OwnTripped k cause held where
  state := same.feeder ▸ tripped.state
  reclose := same.feeder ▸ tripped.reclose
  exit := same.feeder ▸ tripped.exit
  lastCause := same.feeder ▸ tripped.lastCause
  pending := same.pending.2 tripped.pending
  opens := same.fb ▸ tripped.opens

/-- R98, R114: an order that trips several feeders trips each that is in service. -/
theorem foldl_ownTrip_ownTripped {l : List FeederId} (distinct : l.Nodup) (mem : k ∈ l)
    (inService : (p.feeder k).state = .inService) :
    (l.foldl (fun p k => p.ownTrip e k cause) p).OwnTripped k cause (p.feeder k).exit := by
  obtain ⟨q, before, after⟩ := foldl_at ownTrip_order distinct mem p
  have tripped : (q.ownTrip e k cause).OwnTripped k cause (q.feeder k).exit :=
    ownTrip_ownTripped (before.feeder ▸ inService)
  rw [before.feeder] at tripped
  exact tripped.sameAt after

theorem foldl_ownTrip_rests {l : List FeederId} (distinct : l.Nodup) (rests : (p.feeder k).state ≠ .inService) :
    p.SameAt k (l.foldl (fun p k => p.ownTrip e k cause) p) := by
  by_cases mem : k ∈ l
  · obtain ⟨q, before, after⟩ := foldl_at ownTrip_order distinct mem p
    rw [ownTrip_rests (before.feeder ▸ rests)] at after
    exact before.trans after
  · exact foldl_sameAt ownTrip_order mem p

/-- R126: a rectifier that is TRIPPED is not retarded. -/
theorem foldl_ownTrip_rect (l : List FeederId) (tripped : p.rect.state = .tripped) :
    (l.foldl (fun p k => p.ownTrip e k cause) p).rect = p.rect := by
  refine List.foldlRecOn (motive := fun q : Plant => q.rect = p.rect) l _ rfl fun q same j _ => ?_
  by_cases inService : (q.feeder j).state = .inService
  · have spares : ¬ (q.setDisc j (q.disc j).onRequest).Retards e := by
      rintro ⟨-, -, drives⟩
      unfold Drives at drives
      rw [setDisc_rect, same, tripped] at drives
      simp at drives
    exact ((ownTrip_taken inService).spares spares).1.trans same
  · rw [ownTrip_rests inService, same]

end Plant

end Sys2Proof.Machine
end

section
/-! PROOFS. Trips in and out of service, the direct release, and the outcome of a trip's opening (O24). -/

namespace Sys2Proof.Machine

variable {e : Env} {k j : FeederId} {p : Plant} {snap : Snapshot}

/-! ### Trips in and out of service (R93, R94) -/

theorem TripCause.reclosable_iff {c : TripCause} :
    c.reclosable = true ↔ c = .instant ∨ c = .rise ∨ c = .thermal ∨ c = .railSubstitute := by
  cases c <;> simp [reclosable]

theorem tripExit_reclosable {c : TripCause} (again : c.reclosable = true) (held : Option ExitTarget) :
    tripExit c held = if held = some .out then some .out else none := by
  unfold tripExit
  rw [if_pos again]
  split
  · rfl
  next notOut => exact (if_neg notOut).symm

theorem tripExit_locks {c : TripCause} (never : c.reclosable = false) (held : Option ExitTarget) :
    tripExit c held = some (.lockedOut c.lockoutCause) := if_neg (by simp [never])

namespace Plant

theorem discTrip_inService (inService : (p.feeder k).state = .inService) :
    p.discTrip e k snap = p.tripInService e k snap := by
  unfold discTrip
  rw [inService]

theorem discTrip_tripping (tripping : (p.feeder k).state = .tripping) : p.discTrip e k snap = p := by
  unfold discTrip
  rw [tripping]

theorem discTrip_outOfService (notInService : (p.feeder k).state ≠ .inService)
    (notTripping : (p.feeder k).state ≠ .tripping) : p.discTrip e k snap = p.tripOutOfService e k snap := by
  unfold discTrip
  split <;> trivial

theorem tripOutOfService_keepsTc
    (keeps : (∀ x, (p.feeder k).state ≠ .lineTest x) ∨ (p.item (.tc k)).state = .opened) :
    p.tripOutOfService e k snap = p.beginTrip e k snap false (some (.lockedOut .tripOutOfService)) := by
  unfold tripOutOfService
  dsimp only
  split
  next x testing => rw [openTcUnlessOpen_opened (keeps.resolve_left fun notTesting => notTesting x testing)]
  next => rfl

theorem tripOutOfService_opensTc {x : TestPhase} (testing : (p.feeder k).state = .lineTest x)
    (notOpened : (p.item (.tc k)).state ≠ .opened) :
    p.tripOutOfService e k snap =
      (p.openTc e k).beginTrip e k snap false (some (.lockedOut .tripOutOfService)) := by
  unfold tripOutOfService
  dsimp only
  rw [testing]
  dsimp only
  rw [openTcUnlessOpen_opens notOpened]

/-- Commanding the test contactor open before a trip changes nothing that the trip is said to do. -/
theorem TripTaken.of_openTc {reclose : Bool} {exit : Option ExitTarget} {q : Plant}
    (taken : (p.openTc e k).TripTaken e k snap reclose exit q) : p.TripTaken e k snap reclose exit q := by
  rw [openTc_eq] at taken
  exact { taken with
    items := fun i notFb notTc => (taken.items i notFb notTc).trans (item_setItem_other _ notTc) }

theorem tripOutOfService_taken : p.TripTaken e k snap false (some (.lockedOut .tripOutOfService))
    (p.tripOutOfService e k snap) := by
  by_cases keeps : (∀ x, (p.feeder k).state ≠ .lineTest x) ∨ (p.item (.tc k)).state = .opened
  · rw [tripOutOfService_keepsTc keeps]
    exact beginTrip_taken ..
  · obtain ⟨⟨x, testing⟩, notOpened⟩ : (∃ x, (p.feeder k).state = .lineTest x) ∧ (p.item (.tc k)).state ≠ .opened := by
      simpa using keeps
    rw [tripOutOfService_opensTc testing notOpened]
    exact (beginTrip_taken ..).of_openTc

theorem item_tc_beginTrip {reclose : Bool} {exit : Option ExitTarget} :
    (p.beginTrip e k snap reclose exit).item (.tc k) = p.item (.tc k) := item_beginTrip_of_ne _ _ _ nofun

/-! ### The direct release (R95) and the completed opening (R96) -/

theorem reactReclosable_waits_self (left : (p.feeder k).attempts < (e.store.values k).attempts) :
    (p.reactReclosable e k).feeder k = (p.feeder k).enterWaiting e (e.store.values k).tdead := by
  rw [reactReclosable_waits left, feeder_onFeeder_self]

theorem directRelease_eq : p.directRelease e k = ((p.setDisc k (p.disc k).onRequest).recordTrip e k
    (p.ownSnapshot e k .directRelease)).reactReclosable e k := rfl

theorem feeder_recordTrip : (p.recordTrip e k snap).feeder k = (p.feeder k).recorded snap := by
  rw [recordTrip_eq]
  exact feeder_onFeeder_self (p := p) (k := k) _

theorem recordTrip_last : (p.recordTrip e k snap).unit.journal.getLast? =
    some ⟨p.unit.nextIndex, e.time.stamp, .feeder k, .feederTrip, p.tripDetails k snap⟩ := by
  rw [recordTrip_eq, JournalUnit.raise_journal, JournalUnit.post_last]

theorem recordTrip_flag : (p.recordTrip e k snap).unit.attention.get .trip = true := by
  rw [recordTrip_eq]
  exact JournalUnit.raise_raised ..

/-- R96: what a completed opening makes of the feeder, before it leaves the open-pending set. -/
def tripSettled (e : Env) (k : FeederId) (p : Plant) : Plant :=
  match (p.feeder k).exit with
  | some (.lockedOut c) => p.lockOut e k c
  | some .out => (p.onFeeder k Sequencer.enterOut).post e (.feeder k) .feederOpened [(p.feeder k).state.code]
  | none | some .inService | some .deadTime | some .deadTimeDeferred | some .closing => p.reactReclosable e k

theorem trippingCompleted_eq : p.trippingCompleted e k = (p.tripSettled e k).leavePending e k := by
  unfold trippingCompleted tripSettled
  cases (p.feeder k).exit with
  | none => rfl
  | some t => cases t <;> rfl

theorem tripSettled_lockedOut {c : LockoutCause} (held : (p.feeder k).exit = some (.lockedOut c)) :
    p.tripSettled e k = p.lockOut e k c := by
  unfold tripSettled
  rw [held]

theorem tripSettled_out (held : (p.feeder k).exit = some .out) : p.tripSettled e k =
    (p.onFeeder k Sequencer.enterOut).post e (.feeder k) .feederOpened [(p.feeder k).state.code] := by
  unfold tripSettled
  rw [held]

theorem tripSettled_reclosable (held : (p.feeder k).exit = none) : p.tripSettled e k = p.reactReclosable e k := by
  unfold tripSettled
  rw [held]

/-- What a lockout, an entry into OUT and a dead time leave of the plant. -/
structure FeederEntered (k : FeederId) (p q : Plant) : Prop where
  others : ∀ j, j ≠ k → q.feeder j = p.feeder j
  lastCause : (q.feeder k).lastCause = (p.feeder k).lastCause
  snapshot : (q.feeder k).snapshot = (p.feeder k).snapshot
  items : q.items = p.items
  pending : q.pendingOpen = p.pendingOpen
  rect : q.rect = p.rect
  records : q.records = p.records
  logs : JournalUnit.LogsFew 1 p.unit q.unit

theorem lockOut_entered (c : LockoutCause) : p.FeederEntered k (p.lockOut e k c) where
  others _ other := lockOut_other c other
  lastCause := by rw [lockOut_self]; rfl
  snapshot := by rw [lockOut_self]; rfl
  items := rfl
  pending := rfl
  rect := rfl
  records := rfl
  logs := ((JournalUnit.logsFew_latchIfNew ..).trans (JournalUnit.logsFew_post ..)).trans
    (JournalUnit.logsFew_raise ..)

theorem reactReclosable_entered : p.FeederEntered k (p.reactReclosable e k) := by
  rcases Nat.lt_or_ge (p.feeder k).attempts (e.store.values k).attempts with left | none
  · rw [reactReclosable_waits left]
    exact ⟨fun _ other => feeder_onFeeder_other _ other, by rw [feeder_onFeeder_self]; rfl,
      by rw [feeder_onFeeder_self]; rfl, rfl, rfl, rfl, rfl, (JournalUnit.LogsFew.refl _).mono (Nat.zero_le _)⟩
  · rw [reactReclosable_locks none]
    exact lockOut_entered _

theorem tripSettled_entered : p.FeederEntered k (p.tripSettled e k) := by
  unfold tripSettled
  split
  · exact lockOut_entered _
  · exact ⟨fun _ other => feeder_onFeeder_other _ other, by rw [feeder_post, feeder_onFeeder_self]; rfl,
      by rw [feeder_post, feeder_onFeeder_self]; rfl, rfl, rfl, rfl, rfl, JournalUnit.logsFew_post ..⟩
  all_goals exact reactReclosable_entered

/-! ### The trip of the rectifier (R122, R126) -/

theorem openIncomer_opens (notOpened : (p.item .acb).state ≠ .opened) :
    p.openIncomer e = p.setItem .acb ((p.item .acb).openCommand e .rectifier .acb) :=
  (if_neg notOpened).trans (openCommand_taken rfl)

theorem rectTrip_rests {cause : StopCause} {value : Int} (tripped : p.rect.state = .tripped) :
    p.rectTrip e cause value = p := if_pos tripped

theorem rectTrip_trips {cause : StopCause} {value : Int} (running : p.rect.state ≠ .tripped)
    (notOpened : (p.item .acb).state ≠ .opened) :
    p.rectTrip e cause value =
      { p.setItem .acb ((p.item .acb).openCommand e .rectifier .acb) with
        rect := { p.rect.stopWith .tripped cause with trippedLive := true }
        unit := JournalUnit.raise e .rectifier (JournalUnit.post e .rectifier .rectTrip
          [(cause.code : Int), value, (p.rect.state.code : Int)] (JournalUnit.latch e .rectTripped p.unit)) } := by
  let stopped : Plant := { p with rect := { p.rect.stopWith .tripped cause with trippedLive := true } }
  have trips : p.rectTrip e cause value = (((stopped.openIncomer e).latch e .rectTripped).post e .rectifier .rectTrip
      [(cause.code : Int), value, (p.rect.state.code : Int)]).raise e .rectifier := if_neg running
  rw [trips, openIncomer_opens (p := stopped) notOpened]
  rfl

/-- What a trip of the rectifier does while the ACB is opening. -/
structure RectTripped (cause : StopCause) (p q : Plant) : Prop where
  state : q.rect.state = .tripped
  trips : p.rect.state ≠ .tripped → q.rect.stopCause = cause ∧ q.rect.schedule = none ∧
    q.unit.latched.get .rectTripped = true
  rests : p.rect.state = .tripped → q.rect = p.rect
  feeders : q.feeders = p.feeders
  pending : q.pendingOpen = p.pendingOpen
  opening : (q.item .acb).state = .opening
  logs : JournalUnit.LogsFew 1 p.unit q.unit

theorem rectTrip_rectTripped (cause : StopCause) (value : Int) (opening : (p.item .acb).state = .opening) :
    p.RectTripped cause (p.rectTrip e cause value) := by
  by_cases tripped : p.rect.state = .tripped
  · rw [rectTrip_rests tripped]
    exact ⟨tripped, absurd tripped, fun _ => rfl, rfl, rfl, opening, (JournalUnit.LogsFew.refl _).mono (Nat.zero_le _)⟩
  · rw [rectTrip_trips tripped (by rw [opening]; nofun)]
    have latched : (JournalUnit.latch e .rectTripped p.unit).latched.get .rectTripped = true := by
      rw [JournalUnit.latch_latched, if_pos rfl]
    have posted := (JournalUnit.logsFew_post (e := e) .rectifier .rectTrip
      [(cause.code : Int), value, (p.rect.state.code : Int)] (JournalUnit.latch e .rectTripped p.unit)).trans
        (JournalUnit.logsFew_raise (e := e) .rectifier _)
    exact ⟨rfl, fun _ => ⟨rfl, rfl, posted.latched latched⟩, fun same => absurd same tripped, rfl, rfl,
      (congrArg Item.state (item_setItem_self (p := p) (i := .acb) _)).trans (Item.openCommand_state ..),
      (JournalUnit.logsFew_latch ..).trans posted⟩

/-! ### The breaker failure (R98) -/

theorem othersInService_eq : p.othersInService k =
    FeederId.all.filter (fun j => decide (j ≠ k ∧ (p.feeder j).state = .inService)) := by
  simp only [othersInService, Bool.decide_and]

theorem mem_othersInService : j ∈ p.othersInService k ↔ j ≠ k ∧ (p.feeder j).state = .inService := by
  simp [othersInService, FeederId.mem_everyFeeder]

theorem nodup_everyFeeder : FeederId.all.Nodup := by decide

theorem othersInService_nodup (k : FeederId) (p : Plant) : (p.othersInService k).Nodup := nodup_everyFeeder.filter _

/-- R98: the plant before the other feeders trip. -/
def backedUp (e : Env) (k : FeederId) (p : Plant) : Plant :=
  ((((p.post e (.feeder k) .breakerFailure [k.number, (p.othersInService k).length]).openCommand e .breakerFailure
    .acb).rectTrip e .breakerFailure k.number).lockOut e k .breakerFailure).leavePending e k

theorem breakerFailure_eq : p.breakerFailure e k =
    (p.othersInService k).foldl (fun p j => p.ownTrip e j .backup) (p.backedUp e k) := rfl

/-- R98: what stands before the other feeders trip. -/
structure BackedUp (e : Env) (k : FeederId) (p q : Plant) : Prop where
  locks : (q.feeder k).state = .lockedOut ∧ (q.feeder k).lockout = some .breakerFailure
  others : ∀ j, j ≠ k → q.feeder j = p.feeder j
  pending : q.pendingOpen = p.pendingOpen.filter (· ≠ k)
  opening : (q.item .acb).state = .opening
  tripped : q.rect.state = .tripped
  trips : p.rect.state ≠ .tripped → q.rect.stopCause = .breakerFailure ∧ q.rect.schedule = none ∧
    q.unit.latched.get .rectTripped = true
  rests : p.rect.state = .tripped → q.rect = p.rect
  logs : JournalUnit.LogsFew 3 (JournalUnit.post e (.feeder k) .breakerFailure
    [(k.number : Int), ((p.othersInService k).length : Int)] p.unit) q.unit

theorem backedUp_backedUp : p.BackedUp e k (p.backedUp e k) := by
  obtain ⟨posted, post⟩ : ∃ q, p.post e (.feeder k) .breakerFailure [k.number, (p.othersInService k).length] = q :=
    ⟨_, rfl⟩
  obtain ⟨opened, command⟩ : ∃ q, posted.openCommand e .breakerFailure .acb = q := ⟨_, rfl⟩
  obtain ⟨stopped, trip⟩ : ∃ q, opened.rectTrip e .breakerFailure k.number = q := ⟨_, rfl⟩
  have ends : p.backedUp e k = (stopped.lockOut e k .breakerFailure).leavePending e k := by
    rw [← trip, ← command, ← post]
    rfl
  have opening : (opened.item .acb).state = .opening := command ▸ openCommand_opens rfl
  have rect : opened.rect = p.rect := by
    rw [← command, ← post, openCommand_rect]
    rfl
  have logged : opened.unit = posted.unit := by rw [← command, openCommand_unit]
  have feeder (j : FeederId) : opened.feeder j = p.feeder j := by
    rw [← command, ← post, feeder_openCommand]
    rfl
  have members : opened.pendingOpen = p.pendingOpen := by
    rw [← command, ← post, openCommand_pendingOpen]
    rfl
  obtain ⟨state, trips, rests, feeders, pending, acb, logs⟩ : opened.RectTripped .breakerFailure stopped :=
    trip ▸ rectTrip_rectTripped _ _ opening
  have calm : (stopped.lockOut e k .breakerFailure).rect.state ≠ .retard := by
    rw [lockOut_rect, state]
    nofun
  have after := (lockOut_entered (e := e) (k := k) (p := stopped) .breakerFailure).logs.trans
    (leavePending_logs (e := e) k _)
  rw [logged, ← post] at logs
  rw [rect] at trips rests
  rw [ends]
  exact {
    locks := by
      rw [feeder_leavePending]
      exact lockOut_locks _
    others := fun j other => by
      rw [feeder_leavePending, lockOut_other _ other, ← feeder j]
      exact congrArg (Six.get · j) feeders
    pending := by rw [leavePending_pendingOpen, lockOut_pendingOpen, pending, members]
    opening := by
      unfold item
      rw [leavePending_items, lockOut_items]
      exact acb
    tripped := by rw [leavePending_rect_of_not_retard calm, lockOut_rect, state]
    trips := fun running => by
      obtain ⟨cause, schedule, latched⟩ := trips running
      rw [leavePending_rect_of_not_retard calm, lockOut_rect]
      exact ⟨cause, schedule, after.latched latched⟩
    rests := fun tripped => by rw [leavePending_rect_of_not_retard calm, lockOut_rect, rests tripped]
    logs := logs.trans after }

end Plant

end Sys2Proof.Machine
end

section
/-! PROOFS. The trips, the direct release and the outcomes of a trip's opening, put together (O24). -/

namespace Sys2Proof.Machine

/-- Settles O24: a trip by `TripTaken`, the outcomes of its opening by what stands before the last step of each. -/
theorem tripInServiceOpensAndRecords : Obligations.TripInServiceOpensAndRecords := by
  refine ⟨?trip, ?ends⟩
  case trip =>
    intro e k snap p claim again trip retards trips
    have of_taken {q : Plant} {reclose : Bool} {exit : Option ExitTarget}
        (taken : p.TripTaken e k snap reclose exit q) : trips q := by
      refine ⟨congrArg Sequencer.state taken.feeder, congrArg Sequencer.serviceTimer taken.feeder,
        congrArg Sequencer.deadTimer taken.feeder, congrArg Sequencer.settleTimer taken.feeder,
        congrArg Sequencer.lastCause taken.feeder, congrArg Sequencer.snapshot taken.feeder,
        (congrArg Sequencer.attempts taken.feeder).trans rfl, taken.opens, ?_, fun j other => ?_, taken.records,
        fun spares => (taken.spares spares).symm, taken.retards, taken.flag, taken.rail, taken.feeders, taken.discs,
        taken.items⟩
      · rw [taken.pending, mem_pendingWith]
        exact .inl rfl
      · rw [taken.pending, mem_pendingWith, or_iff_right other]
    refine ⟨?_, Plant.discTrip_inService, Plant.discTrip_tripping, fun notInService notTripping => ?_⟩
    · intro q
      have taken : p.TripTaken e k snap snap.cause.reclosable (tripExit snap.cause (p.feeder k).exit) q :=
        Plant.beginTrip_taken ..
      have reclose := congrArg Sequencer.reclose taken.feeder
      have exit := congrArg Sequencer.exit taken.feeder
      refine ⟨of_taken taken, Plant.item_tc_beginTrip, fun isAgain => ?_, fun notAgain => ?_⟩
      · have reclosable := TripCause.reclosable_iff.2 isAgain
        exact ⟨reclose.trans (congrArg some reclosable), exit.trans (tripExit_reclosable reclosable _)⟩
      · have never : snap.cause.reclosable = false := by simpa using mt TripCause.reclosable_iff.1 notAgain
        refine ⟨reclose.trans (congrArg some never), exit.trans ((tripExit_locks never _).trans ?_)⟩
        cases snap.cause <;> rfl
    · rw [Plant.discTrip_outOfService notInService notTripping]
      have taken := Plant.tripOutOfService_taken (e := e) (k := k) (p := p) (snap := snap)
      refine ⟨of_taken taken, congrArg Sequencer.reclose taken.feeder, congrArg Sequencer.exit taken.feeder,
        fun ⟨x, testing⟩ notOpened => ?_, fun keeps => ?_⟩
      · rw [Plant.tripOutOfService_opensTc testing notOpened, Plant.item_tc_beginTrip]
        exact Plant.openCommand_opens (Commander.sequencer_mayCommand_tc ..)
      · rw [Plant.tripOutOfService_keepsTc keeps]
        exact Plant.item_tc_beginTrip
  case ends =>
    intro e k p d f v waits locks
    refine ⟨?release, ?completed, ?failed⟩
    case release =>
      intro snap
      obtain ⟨r, made⟩ : ∃ r, (p.setDisc k (p.disc k).onRequest).recordTrip e k
        (p.ownSnapshot e k .directRelease) = r := ⟨_, rfl⟩
      have recorded : r.feeder k = f.recorded snap := made ▸ Plant.feeder_recordTrip
      have last : r.unit.journal.getLast? = _ := made ▸ Plant.recordTrip_last
      obtain ⟨-, lastCause, snapshot, items, pending, rect, records, logs⟩ :=
        Plant.reactReclosable_entered (e := e) (k := k) (p := r)
      rw [recorded] at lastCause snapshot
      rw [Plant.directRelease_eq, made]
      intro q g claim
      refine ⟨records.trans (made ▸ rfl), lastCause, snapshot, items.trans (made ▸ rfl), rect.trans (made ▸ rfl),
        pending.trans (made ▸ rfl), logs.attention (f := .trip) (made ▸ Plant.recordTrip_flag), fun left => ?_,
        fun none => ?_⟩
      · have waiting : q = r.onFeeder k (Sequencer.enterWaiting e v.tdead) :=
          Plant.reactReclosable_waits (by rw [recorded]; exact left)
        have entered : g = (f.recorded snap).enterWaiting e v.tdead :=
          (congrArg (Plant.feeder · k) waiting).trans ((Plant.feeder_onFeeder_self _).trans (congrArg _ recorded))
        refine ⟨⟨congrArg Sequencer.state entered, congrArg Sequencer.deadTimer entered,
          congrArg Sequencer.deferral entered, (congrArg Sequencer.attempts entered).trans rfl⟩, ?_⟩
        rw [waiting]
        exact last
      · have locked : q = r.lockOut e k .attemptsExhausted :=
          Plant.reactReclosable_locks (by rw [recorded]; exact none)
        show locks (q.feeder k) _
        rw [locked]
        exact Plant.lockOut_locks _
    case completed =>
      obtain ⟨o, made⟩ : ∃ o, p.tripSettled e k = o := ⟨_, rfl⟩
      obtain ⟨others, -, -, items, pending, rect, -, -⟩ := Plant.tripSettled_entered (e := e) (k := k) (p := p)
      rw [made] at others items pending rect
      rw [Plant.trippingCompleted_eq, made]
      intro q g
      have feeder (j : FeederId) : q.feeder j = o.feeder j := Plant.feeder_leavePending ..
      have left : q.pendingOpen = p.pendingOpen.filter (· ≠ k) := pending ▸ Plant.leavePending_pendingOpen ..
      refine ⟨by simp [left], fun j other => ⟨by simp [left, other], (feeder j).trans (others j other)⟩,
        (Plant.leavePending_items ..).trans items, fun c held => ?_, fun held => ?_, fun held spare => ?_,
        fun held none => ?_, fun last retarded => ?_⟩
      · show locks (q.feeder k) c
        rw [feeder, ← made, Plant.tripSettled_lockedOut held]
        exact Plant.lockOut_locks c
      · have logs := Plant.leavePending_logs (e := e) k o
        obtain rfl := made.symm.trans (Plant.tripSettled_out held)
        refine ⟨?_, logs.mem_of_post (by decide)⟩
        show (q.feeder k).state = _
        rw [feeder, Plant.feeder_post, Plant.feeder_onFeeder_self]
        rfl
      · show waits (q.feeder k)
        rw [feeder, ← made, Plant.tripSettled_reclosable held, Plant.reactReclosable_waits_self spare]
        exact ⟨rfl, rfl, rfl, rfl⟩
      · show locks (q.feeder k) _
        rw [feeder, ← made, Plant.tripSettled_reclosable held, Plant.reactReclosable_locks none]
        exact Plant.lockOut_locks _
      · have ends : q = _ := Plant.leavePending_ends (pending.trans last) (rect ▸ retarded)
        have index : q.unit.nextIndex = o.unit.nextIndex + 1 := by
          rw [ends, Plant.post_unit, JournalUnit.post_nextIndex]
        rw [index, add_sub_cancel_right]
        rw [ends, ← rect]
        exact ⟨rfl, JournalUnit.post_last ..⟩
    case failed =>
      obtain ⟨locked, others, pending, opening, tripped, trips, rests, logs⟩ :=
        Plant.backedUp_backedUp (e := e) (k := k) (p := p)
      rw [Plant.breakerFailure_eq]
      intro q
      have absent : k ∉ p.othersInService k := by simp [Plant.mem_othersInService]
      have distinct := Plant.othersInService_nodup k p
      have order := Plant.ownTrip_order (e := e) (cause := .backup)
      have same : (p.backedUp e k).SameAt k q := Plant.foldl_sameAt order absent _
      have few : (p.othersInService k).length ≤ 6 := List.length_filter_le _ FeederId.all
      have after := Plant.foldl_logs order (l := p.othersInService k) (p.backedUp e k)
      have calm : q.rect = (p.backedUp e k).rect := Plant.foldl_ownTrip_rect _ tripped
      refine ⟨?_, ?_, ?_, ?_, fun running => ?_, fun rested => calm.trans (rests rested), fun j other inService => ?_,
        fun j other notInService => ?_⟩
      · show locks (q.feeder k) _
        rw [same.feeder]
        exact locked
      · rw [same.pending, pending]
        simp
      · rw [show q.item .acb = _ from Plant.foldl_item (i := .acb) order (fun _ => ⟨nofun, nofun⟩) _]
        exact opening
      · rw [← Plant.othersInService_eq]
        exact (logs.trans after).mem_of_post (by omega)
      · obtain ⟨cause, schedule, latched⟩ := trips running
        rw [calm]
        exact ⟨tripped, cause, schedule, after.latched latched⟩
      · have down : q.OwnTripped j .backup _ := Plant.foldl_ownTrip_ownTripped distinct
          (Plant.mem_othersInService.2 ⟨other, inService⟩) (others j other ▸ inService)
        exact ⟨down.state, down.lastCause, down.exit, down.pending, down.opens⟩
      · have rests := (others j other).symm ▸ notInService
        exact (Plant.foldl_ownTrip_rests distinct rests).feeder.trans (others j other)

end Sys2Proof.Machine
end

section
/-! PROOFS. The declaration of a frame fault at each sequencer, and what it does to RE (O40). -/

namespace Sys2Proof.Machine

theorem RailMonitor.rl2Holds_iff {r : RailMonitor} : r.rl2Holds = true ↔ 8 ≤ r.rl2 := decide_eq_true_iff

namespace Plant

variable {e : Env} {k j : FeederId} {p q r : Plant}

/-! ### The declaration at one sequencer (R113) -/

theorem frameFaultAt_inService (state : (p.feeder k).state = .inService) :
    p.frameFaultAt e k = p.ownTrip e k .frameFault := by
  unfold frameFaultAt
  rw [state]

theorem frameFaultAt_tripping (state : (p.feeder k).state = .tripping) : p.frameFaultAt e k =
    p.onFeeder k (fun f => { f with reclose := some false, exit := some (.lockedOut .frameFault) }) := by
  unfold frameFaultAt
  rw [state]

theorem frameFaultAt_deadTime {x : DeadPhase} (state : (p.feeder k).state = .deadTime x) :
    p.frameFaultAt e k = p.lockOut e k .frameFault := by
  unfold frameFaultAt
  rw [state]

theorem frameFaultAt_testing
    (state : (p.feeder k).state = .lineTest .tcClosing ∨ (p.feeder k).state = .lineTest .settling) :
    p.frameFaultAt e k = p.beginTcOpening e k (.lockedOut .frameFault) := by
  unfold frameFaultAt
  rcases state with state | state <;> rw [state]

theorem frameFaultAt_tcOpening (state : (p.feeder k).state = .lineTest .tcOpening) : p.frameFaultAt e k =
    p.onFeeder k (fun f => { f with exit := some (.lockedOut .frameFault) }) := by
  unfold frameFaultAt
  rw [state]

theorem frameFaultAt_closing (state : (p.feeder k).state = .closing) :
    p.frameFaultAt e k = p.abandonClosing e k (.lockedOut .frameFault) := by
  unfold frameFaultAt
  rw [state]

theorem frameFaultAt_rests
    (state : (p.feeder k).state = .unknown ∨ (p.feeder k).state = .out ∨ (p.feeder k).state = .lockedOut) :
    p.frameFaultAt e k = p := by
  unfold frameFaultAt
  rcases state with state | state | state <;> rw [state]

theorem onFeeder_order (g : Sequencer → Sequencer) : p.OrderTaken k (p.onFeeder k g) where
  feeders _ other := feeder_onFeeder_other _ other
  pending _ _ := .rfl
  items _ _ _ := rfl
  rail := rfl
  logs := (JournalUnit.LogsFew.refl _).mono (Nat.zero_le _)

theorem beginTcOpening_order (t : ExitTarget) : p.OrderTaken k (p.beginTcOpening e k t) := by
  obtain ⟨-, -, items, feeders, unit⟩ := beginTcOpening_self (e := e) (k := k) (p := p) t
  exact {
    feeders := feeders
    pending := fun _ _ => by rw [beginTcOpening_eq]; exact .rfl
    items := fun i _ other => items i other
    rail := by rw [beginTcOpening_eq]; rfl
    logs := unit ▸ (JournalUnit.LogsFew.refl _).mono (Nat.zero_le _) }

theorem abandonClosing_order (t : ExitTarget) : p.OrderTaken k (p.abandonClosing e k t) := by
  obtain ⟨-, -, items, feeders, unit⟩ := abandonClosing_self (e := e) (k := k) (p := p) t
  exact {
    feeders := feeders
    pending := fun _ _ => by rw [abandonClosing_eq]; exact .rfl
    items := fun i other _ => items i other
    rail := by rw [abandonClosing_eq]; rfl
    logs := unit ▸ (JournalUnit.LogsFew.refl _).mono (Nat.zero_le _) }

theorem lockOut_order (c : LockoutCause) : p.OrderTaken k (p.lockOut e k c) where
  feeders := (lockOut_entered c).others
  pending _ _ := .rfl
  items _ _ _ := rfl
  rail := rfl
  logs := (lockOut_entered (k := k) c).logs.mono (by decide)

theorem frameFaultAt_order (p : Plant) (k : FeederId) : p.OrderTaken k (p.frameFaultAt e k) := by
  cases state : (p.feeder k).state with
  | unknown => rw [frameFaultAt_rests (.inl state)]; exact .refl k p
  | out => rw [frameFaultAt_rests (.inr (.inl state))]; exact .refl k p
  | lockedOut => rw [frameFaultAt_rests (.inr (.inr state))]; exact .refl k p
  | inService => rw [frameFaultAt_inService state]; exact ownTrip_order p k
  | tripping => rw [frameFaultAt_tripping state]; exact onFeeder_order _
  | deadTime x => rw [frameFaultAt_deadTime state]; exact lockOut_order _
  | closing => rw [frameFaultAt_closing state]; exact abandonClosing_order _
  | lineTest x =>
    cases x with
    | tcClosing => rw [frameFaultAt_testing (.inl state)]; exact beginTcOpening_order _
    | settling => rw [frameFaultAt_testing (.inr state)]; exact beginTcOpening_order _
    | tcOpening => rw [frameFaultAt_tcOpening state]; exact onFeeder_order _

/-- R113: what a declaration does to feeder k, by its state before. -/
structure FrameFaulted (k : FeederId) (p q : Plant) : Prop where
  inService : (p.feeder k).state = .inService → q.OwnTripped k .frameFault (p.feeder k).exit
  tripping : (p.feeder k).state = .tripping → q.feeder k =
    { p.feeder k with reclose := some false, exit := some (.lockedOut .frameFault) }
  deadTime : (∃ x, (p.feeder k).state = .deadTime x) →
    (q.feeder k).state = .lockedOut ∧ (q.feeder k).lockout = some .frameFault
  testing : (p.feeder k).state = .lineTest .tcClosing ∨ (p.feeder k).state = .lineTest .settling →
    (q.feeder k).state = .lineTest .tcOpening ∧ (q.feeder k).exit = some (.lockedOut .frameFault) ∧
      (q.item (.tc k)).state = .opening
  tcOpening : (p.feeder k).state = .lineTest .tcOpening →
    q.feeder k = { p.feeder k with exit := some (.lockedOut .frameFault) }
  closing : (p.feeder k).state = .closing →
    q.feeder k = { p.feeder k with exit := some (.lockedOut .frameFault) } ∧ (q.item (.fb k)).state = .opening
  rests : (p.feeder k).state = .unknown ∨ (p.feeder k).state = .out ∨ (p.feeder k).state = .lockedOut →
    q.feeder k = p.feeder k
  pending : (p.feeder k).state = .tripping → k ∈ p.pendingOpen → k ∈ q.pendingOpen

theorem frameFaultAt_frameFaulted (p : Plant) (k : FeederId) : p.FrameFaulted k (p.frameFaultAt e k) where
  inService state := by
    rw [frameFaultAt_inService state]
    exact ownTrip_ownTripped state
  tripping state := by rw [frameFaultAt_tripping state, feeder_onFeeder_self]
  deadTime := fun ⟨_, state⟩ => by
    rw [frameFaultAt_deadTime state]
    exact lockOut_locks _
  testing state := by
    obtain ⟨entered, opens, -⟩ := beginTcOpening_self (e := e) (k := k) (p := p) (.lockedOut .frameFault)
    rw [frameFaultAt_testing state, entered]
    exact ⟨rfl, rfl, opens⟩
  tcOpening state := by rw [frameFaultAt_tcOpening state, feeder_onFeeder_self]
  closing state := by
    obtain ⟨abandoned, opens, -⟩ := abandonClosing_self (e := e) (k := k) (p := p) (.lockedOut .frameFault)
    rw [frameFaultAt_closing state, abandoned, Sequencer.abandon_lockedOut]
    exact ⟨rfl, opens⟩
  rests state := by rw [frameFaultAt_rests state]
  pending state mem := by
    rw [frameFaultAt_tripping state]
    exact mem

theorem FrameFaulted.sameAt (faulted : q.FrameFaulted k r) (before : p.SameAt k q) {t : Plant} (after : r.SameAt k t) :
    p.FrameFaulted k t where
  inService state := before.feeder ▸ (faulted.inService (before.feeder ▸ state)).sameAt after
  tripping state := by rw [after.feeder, faulted.tripping (before.feeder ▸ state), before.feeder]
  deadTime state := by
    rw [after.feeder]
    exact faulted.deadTime (before.feeder ▸ state)
  testing state := by
    rw [after.feeder, after.tc]
    exact faulted.testing (before.feeder ▸ state)
  tcOpening state := by rw [after.feeder, faulted.tcOpening (before.feeder ▸ state), before.feeder]
  closing state := by
    rw [after.feeder, after.fb, ← before.feeder]
    exact faulted.closing (before.feeder ▸ state)
  rests state := by rw [after.feeder, faulted.rests (before.feeder ▸ state), before.feeder]
  pending state mem := after.pending.2 (faulted.pending (before.feeder ▸ state) (before.pending.2 mem))

/-- R113: each sequencer acts by its own state. -/
theorem frameFaultOrder_frameFaulted (k : FeederId) (p : Plant) : p.FrameFaulted k (p.frameFaultOrder e) := by
  obtain ⟨q, before, after⟩ :=
    foldl_at (frameFaultAt_order (e := e)) nodup_everyFeeder (FeederId.mem_everyFeeder k) p
  exact (frameFaultAt_frameFaulted q k).sameAt before after

/-! ### The close of RE (R147, R154) -/

theorem commandRailClose_starts {level : Nat} (may : (p.item .re).mayStartClosing = true) :
    p.commandRailClose e level =
      { p.setItem .re ((p.item .re).startClosing e .re [.railMonitor]) with
        rail := { p.rail with state := .closing }
        unit := JournalUnit.raise e .rail (JournalUnit.post e .rail .railClose
          [(level : Int), if p.rail.watchBelow then 1 else 0, p.rail.watchPeak] p.unit) } := by
  unfold commandRailClose
  rw [closeCommand_starts rfl may]
  rfl

/-- R147: the plant whose close of RE is refused, before the refusal acts. -/
def closeRefused (e : Env) (level : Nat) (p : Plant) : Plant :=
  { p with
    rail := { p.rail with state := .closing }
    unit := JournalUnit.raise e .rail (JournalUnit.post e .rail .railClose
      [(level : Int), if p.rail.watchBelow then 1 else 0, p.rail.watchPeak] p.unit) }

theorem commandRailClose_refused {level : Nat} (mayNot : ¬ (p.item .re).mayStartClosing = true)
    (notClosed : (p.item .re).state ≠ .closed) :
    p.commandRailClose e level = (p.closeRefused e level).railCloseFailed e := by
  unfold commandRailClose
  rw [closeCommand_wrongState mayNot notClosed]
  rfl

theorem substituteOrder_rail : (p.substituteOrder e).rail = p.rail := foldl_rail (l := FeederId.all) ownTrip_order p

theorem frameFaultOrder_rail : (p.frameFaultOrder e).rail = p.rail :=
  foldl_rail (l := FeederId.all) frameFaultAt_order p

theorem frameFaultOrder_re : (p.frameFaultOrder e).item .re = p.item .re :=
  foldl_item (l := FeederId.all) (i := .re) frameFaultAt_order (fun _ => ⟨nofun, nofun⟩) p

theorem frameFaultOrder_logs : JournalUnit.LogsFew 12 p.unit (p.frameFaultOrder e).unit :=
  foldl_logs (l := FeederId.all) frameFaultAt_order p

/-- R147: the monitor enters FAILED. -/
def railFailed (e : Env) (p : Plant) : Plant :=
  (p.onRail (fun r => { r with state := .failed, holdTimer := none })).raise e .rail

theorem railCloseFailed_substitutes (holds : 8 ≤ p.rail.rl2) :
    p.railCloseFailed e = (p.substituteOrder e).railFailed e := by
  unfold railCloseFailed
  rw [if_pos (RailMonitor.rl2Holds_iff.2 holds)]
  rfl

theorem railCloseFailed_spares (holdsNot : ¬ 8 ≤ p.rail.rl2) : p.railCloseFailed e = p.railFailed e := by
  unfold railCloseFailed
  rw [if_neg (mt RailMonitor.rl2Holds_iff.1 holdsNot)]
  rfl

theorem railFailed_sameAt (k : FeederId) (p : Plant) : p.SameAt k (p.railFailed e) := ⟨rfl, .rfl, rfl, rfl⟩

/-- R147: the monitor after a refused close of RE. -/
theorem railCloseFailed_rail :
    (p.railCloseFailed e).rail = { p.rail with state := .failed, holdTimer := none } := by
  have failed (q : Plant) : (q.railFailed e).rail = { q.rail with state := .failed, holdTimer := none } := rfl
  by_cases holds : 8 ≤ p.rail.rl2
  · rw [railCloseFailed_substitutes holds, failed, substituteOrder_rail]
  · rw [railCloseFailed_spares holds, failed]

/-! ### The declaration (R154) -/

/-- R154 steps 1 to 3: the flag, the alarm, the record and the entry. -/
def faultDeclared (e : Env) (cause : FrameCause) (value : Nat) (p : Plant) : Plant :=
  ((((p.onRail (fun r => { r with frameFault := true })).latchIfNew e .frameFault p.rail.frameFault true).onRail
    (fun r => { r with lastFault := some ⟨cause, value, e.time.stamp⟩ })).post e .rail .frameFault
      [cause.code, value]).raise e .rail

theorem faultDeclared_rail (cause : FrameCause) (value : Nat) : (p.faultDeclared e cause value).rail =
    { p.rail with frameFault := true, lastFault := some ⟨cause, value, e.time.stamp⟩ } := rfl

theorem faultDeclared_item (cause : FrameCause) (value : Nat) (i : ItemId) :
    (p.faultDeclared e cause value).item i = p.item i := by simp [faultDeclared]

theorem faultDeclared_sameAt (cause : FrameCause) (value : Nat) (k : FeederId) :
    p.SameAt k (p.faultDeclared e cause value) := by
  constructor <;> simp [faultDeclared]

theorem faultDeclared_unit (cause : FrameCause) (value : Nat) : (p.faultDeclared e cause value).unit =
    JournalUnit.raise e .rail (JournalUnit.post e .rail .frameFault [(cause.code : Int), (value : Int)]
      (JournalUnit.latchIfNew e .frameFault p.rail.frameFault true p.unit)) := by
  unfold faultDeclared
  rw [raise_unit, post_unit, onRail_unit, latchIfNew_unit, onRail_unit]

theorem declareFrameFault_rl3 {value : Nat} : p.declareFrameFault e .rl3 value =
    ((p.faultDeclared e .rl3 value).closeForFrameFault e).frameFaultOrder e := rfl

theorem closeForFrameFault_rests (notWatching : p.rail.state ≠ .watching) (notFailed : p.rail.state ≠ .failed) :
    p.closeForFrameFault e = p := by
  unfold closeForFrameFault
  split <;> trivial

theorem closeForFrameFault_mayNot (failed : p.rail.state = .failed) (mayNot : ¬ (p.item .re).mayStartClosing = true) :
    p.closeForFrameFault e = p := by
  unfold closeForFrameFault
  rw [failed]
  exact if_neg mayNot

theorem closeForFrameFault_watching (watching : p.rail.state = .watching) :
    p.closeForFrameFault e = p.commandRailClose e 3 := by
  unfold closeForFrameFault
  rw [watching]

theorem closeForFrameFault_closes (closes : p.rail.state = .watching ∨ p.rail.state = .failed)
    (may : (p.item .re).mayStartClosing = true) : p.closeForFrameFault e = p.commandRailClose e 3 := by
  rcases closes with watching | failed
  · exact closeForFrameFault_watching watching
  · unfold closeForFrameFault
    rw [failed]
    exact if_pos may

/-- Whether an RL3 declaration is one that commands RE closed. -/
def FaultCloses (cause : FrameCause) (p : Plant) : Prop :=
  cause = .rl3 ∧ (p.rail.state = .watching ∨ p.rail.state = .failed)

theorem declareFrameFault_rests {cause : FrameCause} {value : Nat} (rests : ¬ p.FaultCloses cause) :
    p.declareFrameFault e cause value = (p.faultDeclared e cause value).frameFaultOrder e := by
  cases cause with
  | frameCurrent => rfl
  | rl3 =>
    obtain ⟨notWatching, notFailed⟩ := not_or.1 fun closes => rests ⟨rfl, closes⟩
    rw [declareFrameFault_rl3, closeForFrameFault_rests (p := p.faultDeclared e .rl3 value) notWatching notFailed]

theorem declareFrameFault_closes {cause : FrameCause} {value : Nat} (closes : p.FaultCloses cause)
    (may : (p.item .re).mayStartClosing = true) : p.declareFrameFault e cause value =
      ((p.faultDeclared e cause value).commandRailClose e 3).frameFaultOrder e := by
  obtain ⟨rfl, closes⟩ := closes
  have declared : ((p.faultDeclared e .rl3 value).item .re).mayStartClosing = true := by rwa [faultDeclared_item]
  rw [declareFrameFault_rl3, closeForFrameFault_closes (p := p.faultDeclared e .rl3 value) closes declared]

end Plant

end Sys2Proof.Machine
end

section
/-! PROOFS. The declaration of a frame fault as a whole (O40). -/

namespace Sys2Proof.Machine

namespace Plant

variable {e : Env} {k : FeederId} {p q : Plant} {cause : FrameCause} {value : Nat}

/-- What stands in the plant when the declaration is presented to the sequencers: step 4 of R154 has been taken. -/
structure FaultPresented (e : Env) (cause : FrameCause) (value : Nat) (p q : Plant) : Prop where
  sameAt : ∀ k, p.SameAt k q
  logs : JournalUnit.LogsFew 1 (p.faultDeclared e cause value).unit q.unit

/-- R154 step 2: the alarm, the entry and the flag last through the order to the sequencers. -/
theorem FaultPresented.unit (presented : p.FaultPresented e cause value q) :
    (p.rail.frameFault = false → (q.frameFaultOrder e).unit.latched.get .frameFault = true) ∧
      (q.frameFaultOrder e).unit.attention.get .rail = true ∧
      ⟨p.unit.nextIndex, e.time.stamp, .rail, .frameFault, [(cause.code : Int), (value : Int)]⟩ ∈
        (q.frameFaultOrder e).unit.journal := by
  have after := presented.logs.trans (frameFaultOrder_logs (e := e) (p := q))
  rw [faultDeclared_unit] at after
  refine ⟨fun fresh => after.latched ?_, after.attention (JournalUnit.raise_raised ..), ?_⟩
  · rw [fresh, JournalUnit.raise_latched]
    exact JournalUnit.post_latchIfNew_latched ..
  · have logs := ((JournalUnit.logsFew_raise (e := e) .rail _).trans after).mem_of_post (by decide)
    rwa [JournalUnit.latchIfNew_nextIndex] at logs

theorem FaultPresented.feeders (presented : p.FaultPresented e cause value q) (k : FeederId) :
    p.FrameFaulted k (q.frameFaultOrder e) :=
  (frameFaultOrder_frameFaulted k q).sameAt (presented.sameAt k) (.refl k _)

theorem faultDeclared_presented : p.FaultPresented e cause value (p.faultDeclared e cause value) :=
  ⟨faultDeclared_sameAt cause value, (JournalUnit.LogsFew.refl _).mono (Nat.zero_le _)⟩

theorem commandRailClose_sameAt {level : Nat} (may : (p.item .re).mayStartClosing = true) (k : FeederId) :
    p.SameAt k (p.commandRailClose e level) := by
  rw [commandRailClose_starts may]
  exact ⟨rfl, .rfl, item_setItem_other (p := p) (i := .re) _ nofun, item_setItem_other (p := p) (i := .re) _ nofun⟩

theorem commandRailClose_logs {level : Nat} (may : (p.item .re).mayStartClosing = true) :
    JournalUnit.LogsFew 1 p.unit (p.commandRailClose e level).unit := by
  rw [commandRailClose_starts may]
  exact (JournalUnit.logsFew_post ..).trans (JournalUnit.logsFew_raise ..)

theorem commandRailClose_rail {level : Nat} (may : (p.item .re).mayStartClosing = true) :
    (p.commandRailClose e level).rail = { p.rail with state := .closing } ∧
      ((p.commandRailClose e level).item .re).state = .closing := by
  rw [commandRailClose_starts may]
  exact ⟨rfl, congrArg Item.state (item_setItem_self (p := p) (i := .re) _)⟩

/-- R154: unless its close is refused, a declaration is presented to the sequencers with RE closing or left alone. -/
theorem declareFrameFault_presents (mayStart : p.FaultCloses cause → (p.item .re).mayStartClosing = true) :
    ∃ d, p.declareFrameFault e cause value = d.frameFaultOrder e ∧ p.FaultPresented e cause value d ∧
      (¬ p.FaultCloses cause → d.rail = (p.faultDeclared e cause value).rail ∧ d.item .re = p.item .re) ∧
      (p.FaultCloses cause → d.rail = { (p.faultDeclared e cause value).rail with state := .closing } ∧
        (d.item .re).state = .closing) := by
  by_cases closes : p.FaultCloses cause
  · have may : ((p.faultDeclared e cause value).item .re).mayStartClosing = true := by
      rw [faultDeclared_item]
      exact mayStart closes
    refine ⟨_, declareFrameFault_closes closes (mayStart closes), ⟨fun k => ?_, commandRailClose_logs may⟩,
      absurd closes, fun _ => commandRailClose_rail may⟩
    exact (faultDeclared_sameAt cause value k).trans (commandRailClose_sameAt may k)
  · exact ⟨_, declareFrameFault_rests closes, faultDeclared_presented,
      fun _ => ⟨rfl, faultDeclared_item cause value .re⟩, fun same => absurd same closes⟩

/-- R147: in WATCHING with a close of RE that is refused, the sequencers hear the declaration last. -/
theorem declareFrameFault_refused (watching : p.rail.state = .watching)
    (mayNot : ¬ (p.item .re).mayStartClosing = true) (notClosed : (p.item .re).state ≠ .closed) :
    p.declareFrameFault e .rl3 value =
      (((p.faultDeclared e .rl3 value).closeRefused e 3).railCloseFailed e).frameFaultOrder e := by
  have re := faultDeclared_item (e := e) (p := p) .rl3 value .re
  rw [declareFrameFault_rl3, closeForFrameFault_watching (p := p.faultDeclared e .rl3 value) watching,
    commandRailClose_refused (by rwa [re]) (by rwa [re])]

theorem railCloseFailed_flag : (p.railCloseFailed e).unit.attention.get .rail = true := JournalUnit.raise_raised ..

/-- R147, R154: each feeder in service trips, for RL2 by the substitute order and else by the declaration. -/
theorem railCloseFailed_frameFaultOrder (inService : (p.feeder k).state = .inService) :
    (((p.railCloseFailed e).frameFaultOrder e).feeder k).state = .tripping ∧
      (((p.railCloseFailed e).frameFaultOrder e).feeder k).reclose = some false ∧
      (((p.railCloseFailed e).frameFaultOrder e).feeder k).exit = some (.lockedOut .frameFault) ∧
      k ∈ ((p.railCloseFailed e).frameFaultOrder e).pendingOpen ∧
      (((p.railCloseFailed e).frameFaultOrder e).feeder k).lastCause =
        some (if 8 ≤ p.rail.rl2 then .railSubstitute else .frameFault) := by
  have faulted := frameFaultOrder_frameFaulted (e := e) k (p.railCloseFailed e)
  by_cases holds : 8 ≤ p.rail.rl2
  · have tripped : (p.railCloseFailed e).OwnTripped k .railSubstitute (p.feeder k).exit := by
      rw [railCloseFailed_substitutes holds]
      exact (foldl_ownTrip_ownTripped nodup_everyFeeder (FeederId.mem_everyFeeder k) inService).sameAt
        (railFailed_sameAt k _)
    rw [faulted.tripping tripped.state, if_pos holds]
    exact ⟨tripped.state, rfl, rfl, faulted.pending tripped.state tripped.pending, tripped.lastCause⟩
  · rw [railCloseFailed_spares holds] at faulted ⊢
    obtain ⟨state, reclose, exit, lastCause, pending, -⟩ := faulted.inService inService
    exact ⟨state, reclose, exit, pending, lastCause.trans (congrArg some (if_neg holds).symm)⟩

end Plant

theorem Item.not_mayStartClosing {it : Item} (notOpened : it.state ≠ .opened)
    (notSensed : it.state = .failedClose → it.sensed ≠ .opened) : ¬ it.mayStartClosing = true := by
  rw [mayStartClosing_iff]
  exact not_or.2 ⟨notOpened, fun ⟨failed, sensed⟩ => notSensed failed sensed⟩

theorem RailMonitor.sampleRuns_rl3 {lv : RailLevels} {vre : Int} {r : RailMonitor} (seven : r.rl3 = 7)
    (high : lv.u3 ≤ vre.natAbs) : (r.sampleRuns lv vre).rl3 = 8 := by
  simp [sampleRuns, seven, high]

theorem Plant.railSample_declares {e : Env} {p : Plant} (seven : p.rail.rl3 = 7)
    (high : e.railLevels.u3 ≤ e.front.latest.vre.natAbs) : p.railSample e =
      ((p.onRail (RailMonitor.sampleRuns e.railLevels e.front.latest.vre)).declareFrameFault e .rl3
        e.front.latest.vre.natAbs).railLevelTest e := by
  have before : p.rail.rl3Holds = false := by simp [RailMonitor.rl3Holds, seven]
  have now : (p.rail.sampleRuns e.railLevels e.front.latest.vre).rl3Holds = true := by
    rw [RailMonitor.rl3Holds, RailMonitor.sampleRuns_rl3 seven high]
    rfl
  unfold railSample
  dsimp only
  rw [before, onRail_rail, now]
  rfl

theorem Plant.railLevelTest_rests {e : Env} {p : Plant} (rests : p.rail.state ≠ .watching) : p.railLevelTest e = p := by
  unfold railLevelTest
  split <;> trivial

/-- Settles O40: the declaration by what it presents to the sequencers, and each sequencer by its own state. -/
theorem frameFaultTripsAndLocksOut : Obligations.FrameFaultTripsAndLocksOut := by
  refine ⟨⟨?declares, ?mayNot, ?sample⟩, ?refused⟩
  case declares =>
    intro e cause value p may closes mayStart
    obtain ⟨d, made, presented, rests, starts⟩ := Plant.declareFrameFault_presents (e := e) (value := value)
      fun closing => Item.mayStartClosing_iff.2 (mayStart closing)
    obtain ⟨alarm, flag, entry⟩ := presented.unit
    rw [made]
    intro q target rail
    refine ⟨fun stays => ?_, fun closing => ?_, alarm, flag, entry, fun k => ?_⟩
    · obtain ⟨monitor, re⟩ := rests stays
      exact ⟨Plant.frameFaultOrder_rail.trans monitor, Plant.frameFaultOrder_re.trans re⟩
    · obtain ⟨monitor, re⟩ := starts closing
      exact ⟨Plant.frameFaultOrder_rail.trans monitor, (congrArg Item.state Plant.frameFaultOrder_re).trans re⟩
    · have faulted := presented.feeders k
      refine ⟨fun inService => ?_, faulted.tripping, faulted.deadTime, faulted.testing, faulted.tcOpening,
        faulted.closing, faulted.rests⟩
      obtain ⟨state, reclose, exit, lastCause, pending, opens⟩ := faulted.inService inService
      exact ⟨state, reclose, exit, lastCause, pending, opens⟩
  case mayNot =>
    intro e value p failed notOpened notSensed
    have mayNot := Item.not_mayStartClosing notOpened notSensed
    have declared : ¬ ((p.faultDeclared e .rl3 value).item .re).mayStartClosing = true := by
      rwa [Plant.faultDeclared_item]
    rw [Plant.declareFrameFault_rl3,
      Plant.closeForFrameFault_mayNot (p := p.faultDeclared e .rl3 value) failed declared]
    exact ⟨Plant.frameFaultOrder_rail, Plant.frameFaultOrder_re.trans (Plant.faultDeclared_item ..)⟩
  case sample =>
    intro e p seven high notWatching notFailed
    rw [Plant.railSample_declares seven high]
    obtain ⟨sampled, made⟩ : ∃ r, p.onRail (RailMonitor.sampleRuns e.railLevels e.front.latest.vre) = r := ⟨_, rfl⟩
    have rail : sampled.rail = p.rail.sampleRuns e.railLevels e.front.latest.vre := made ▸ rfl
    have rests : ¬ sampled.FaultCloses .rl3 := by
      rintro ⟨-, closes⟩
      rw [rail] at closes
      exact closes.elim notWatching notFailed
    have declared : (sampled.declareFrameFault e .rl3 e.front.latest.vre.natAbs).rail =
        (sampled.faultDeclared e .rl3 e.front.latest.vre.natAbs).rail := by
      rw [Plant.declareFrameFault_rests rests, Plant.frameFaultOrder_rail]
    rw [Plant.faultDeclared_rail, rail] at declared
    rw [made, Plant.railLevelTest_rests (by rw [declared]; exact notWatching)]
    dsimp only
    rw [declared]
    exact ⟨RailMonitor.sampleRuns_rl3 seven high, rfl, rfl⟩
  case refused =>
    intro e value p watching notOpened notClosed notSensed
    have mayNot := Item.not_mayStartClosing notOpened notSensed
    obtain ⟨d, made⟩ : ∃ d, p.faultDeclared e .rl3 value = d := ⟨_, rfl⟩
    have rail : d.rail = _ := made ▸ Plant.faultDeclared_rail ..
    have re : d.item .re = p.item .re := made ▸ Plant.faultDeclared_item ..
    have same (k : FeederId) : p.SameAt k d := made ▸ Plant.faultDeclared_sameAt ..
    rw [Plant.declareFrameFault_refused watching mayNot notClosed, made]
    intro q
    refine ⟨?_, ?_, Plant.frameFaultOrder_logs.attention (f := .rail) Plant.railCloseFailed_flag, fun k inService => ?_⟩
    · refine Plant.frameFaultOrder_rail.trans (Plant.railCloseFailed_rail.trans ?_)
      unfold Plant.closeRefused
      rw [rail]
    · exact Plant.frameFaultOrder_re.trans (Plant.item_railCloseFailed.trans re)
    · have tripped := Plant.railCloseFailed_frameFaultOrder (e := e) (p := d.closeRefused e 3)
        ((congrArg Sequencer.state (same k).feeder).trans inService)
      have runs : (d.closeRefused e 3).rail.rl2 = p.rail.rl2 := (congrArg RailMonitor.rl2 rail).trans rfl
      rwa [runs] at tripped

end Sys2Proof.Machine
end

section
/-! PROOFS. The entries of the rectifier controller into STOPPED, TRIPPED and BLOCKED, and the samples, means, reports
and outcomes that bring them about (R122, R124 to R127, R137, R141). -/

namespace Sys2Proof.Machine

theorem RectState.firing_iff (x : RectState) :
    x.firing = true ↔ x = .softStart ∨ x = .regulating ∨ x = .currentLimit ∨ x = .retard := by
  cases x <;> decide

theorem RectState.ne_tripped_of_running {x : RectState} (runs : x.running = true) : x ≠ .tripped := by
  rintro rfl
  exact Bool.false_ne_true runs

namespace Plant

variable {e : Env} {p : Plant}

/-! ### The ACB among the stopping actions (R122 step 2) -/

/-- The command that opens the ACB changes the items alone, and takes no notice of the controller's own record. -/
theorem openIncomer_withRect (r : Rectifier) :
    ({ p with rect := r }).openIncomer e = { p with rect := r, items := (p.openIncomer e).items } := by
  by_cases opened : (p.item .acb).state = .opened
  · rw [openIncomer_opened opened]
    exact openIncomer_opened (p := { p with rect := r }) opened
  · rw [openIncomer_opens opened]
    exact openIncomer_opens (p := { p with rect := r }) opened

theorem openIncomer_eq : p.openIncomer e = { p with items := (p.openIncomer e).items } := openIncomer_withRect p.rect

/-- R122 step 2: an ACB that is OPEN stays, and any other is OPENING. -/
def IncomerOpened (p q : Plant) : Prop :=
  ((p.item .acb).state = .opened → q.items = p.items) ∧
    ((p.item .acb).state ≠ .opened → (q.item .acb).state = .opening)

theorem incomerOpened_of_items {q : Plant} (items : q.items = (p.openIncomer e).items) : p.IncomerOpened q := by
  refine ⟨fun opened => ?_, fun notOpened => ?_⟩
  · rw [items, openIncomer_opened opened]
  · exact (congrArg (fun v : PerItem Item => (v.get .acb).state) items).trans (openIncomer_opening notOpened)

/-! ### The entries (R122, R126, R137, R141) -/

/-- R141: the newest entry is the controller's, its flag is set, and no feeder has changed. -/
def RectEnters (e : Env) (kind : Kind) (details : List Int) (p q : Plant) : Prop :=
  q.unit.journal.getLast? = some ⟨p.unit.nextIndex, e.time.stamp, .rectifier, kind, details⟩ ∧
    q.unit.attention.rectifier = true ∧ q.feeders = p.feeders

theorem rectEnters_of_unit {kind : Kind} {details : List Int} {u : JournalUnit} {q : Plant}
    (index : u.nextIndex = p.unit.nextIndex)
    (unit : q.unit = JournalUnit.raise e .rectifier (JournalUnit.post e .rectifier kind details u))
    (feeders : q.feeders = p.feeders) : p.RectEnters e kind details q := by
  refine ⟨?_, ?_, feeders⟩
  · rw [unit, JournalUnit.raise_journal, JournalUnit.post_last, index]
  · rw [unit]
    exact JournalUnit.raise_raised .rectifier _

/-- R124, R127: an entry into STOPPED that sets the attention flag. -/
def RectStops (e : Env) (cause : StopCause) (p q : Plant) : Prop :=
  q.rect = p.rect.stopWith .stopped cause ∧
    p.RectEnters e .rectState [(p.rect.state.code : Int), 0, (cause.code : Int)] q ∧ p.IncomerOpened q

theorem rectStop_eq (cause : StopCause) : p.rectStop e cause =
    (let posted := JournalUnit.post e .rectifier .rectState [(p.rect.state.code : Int), 0, (cause.code : Int)] p.unit
    { p with
      rect := p.rect.stopWith .stopped cause
      items := (p.openIncomer e).items
      unit := if cause = .acbFail ∨ cause = .settings then JournalUnit.raise e .rectifier posted else posted }) := by
  unfold rectStop
  dsimp only
  rw [openIncomer_withRect]
  split <;> rfl

theorem rectStop_stops {cause : StopCause} (raises : cause = .acbFail ∨ cause = .settings) :
    p.RectStops e cause (p.rectStop e cause) := by
  rw [rectStop_eq]
  exact ⟨rfl, rectEnters_of_unit rfl (if_pos raises) rfl, incomerOpened_of_items rfl⟩

/-- R126: an entry into TRIPPED. -/
def RectTrips (e : Env) (cause : StopCause) (value : Int) (p q : Plant) : Prop :=
  q.rect = { p.rect.stopWith .tripped cause with trippedLive := true } ∧ q.unit.latched.rectTripped = true ∧
    p.RectEnters e .rectTrip [(cause.code : Int), value, (p.rect.state.code : Int)] q ∧ p.IncomerOpened q

theorem rectTrip_eq {cause : StopCause} {value : Int} (running : p.rect.state ≠ .tripped) :
    p.rectTrip e cause value =
      { p with
        rect := { p.rect.stopWith .tripped cause with trippedLive := true }
        items := (p.openIncomer e).items
        unit := JournalUnit.raise e .rectifier (JournalUnit.post e .rectifier .rectTrip
          [(cause.code : Int), value, (p.rect.state.code : Int)] (JournalUnit.latch e .rectTripped p.unit)) } := by
  refine (if_neg running).trans ?_
  dsimp only
  rw [openIncomer_withRect]
  rfl

theorem rectTrip_enters {cause : StopCause} {value : Int} (running : p.rect.state ≠ .tripped) :
    p.RectTrips e cause value (p.rectTrip e cause value) := by
  rw [rectTrip_eq running]
  refine ⟨rfl, ?_, rectEnters_of_unit (JournalUnit.latch_nextIndex ..) rfl rfl, incomerOpened_of_items rfl⟩
  have latched : (JournalUnit.latch e .rectTripped p.unit).latched.get .rectTripped = true := by
    rw [JournalUnit.latch_latched, if_pos rfl]
  exact ((JournalUnit.logsFew_post ..).trans (JournalUnit.logsFew_raise ..)).latched latched

/-- R137: an entry into BLOCKED. -/
def RectBlocks (e : Env) (cause : BlockCause) (p q : Plant) : Prop :=
  q.rect = { p.rect.cutBursts with state := .blocked, blockCause := cause, schedule := none, overvoltage := 0 } ∧
    p.RectEnters e .rectState [(p.rect.state.code : Int), 6, (cause.code : Int)] q ∧ q.items = p.items

theorem rectBlock_blocks (cause : BlockCause) : p.RectBlocks e cause (p.rectBlock e cause) :=
  ⟨rfl, rectEnters_of_unit rfl rfl rfl, rfl⟩

/-! ### IDC (R125) -/

section
variable {f : StationFields} (record : e.store.stationFields = some f)
include record

theorem rectCurrentSample_rests (rests : p.rect.state.running = false) : p.rectCurrentSample e = p := by
  simp only [rectCurrentSample, record, rests, Bool.false_eq_true, if_false]

theorem rectCurrentSample_low (runs : p.rect.state.running = true)
    (low : e.front.latest.idc < (f.irectTrip.toNat : Int)) :
    p.rectCurrentSample e = { p with rect := { p.rect with overcurrent := 0 } } := by
  simp only [rectCurrentSample, record, runs, if_true, if_neg (Int.not_le.2 low)]

theorem rectCurrentSample_high (runs : p.rect.state.running = true)
    (high : (f.irectTrip.toNat : Int) ≤ e.front.latest.idc) : p.rectCurrentSample e =
      (let q := { p with rect := { p.rect with overcurrent := p.rect.overcurrent + 1 } }
      if 3 ≤ p.rect.overcurrent then q.rectTrip e .overcurrent e.front.latest.idc else q) := by
  simp only [rectCurrentSample, record, runs, if_true, if_pos high, Nat.reduceLeDiff]

theorem rectCurrentSample_trips (runs : p.rect.state.running = true)
    (high : (f.irectTrip.toNat : Int) ≤ e.front.latest.idc) (fourth : 3 ≤ p.rect.overcurrent) :
    p.RectTrips e .overcurrent e.front.latest.idc (p.rectCurrentSample e) := by
  rw [rectCurrentSample_high record runs high, if_pos fourth]
  exact rectTrip_enters (p := { p with rect := { p.rect with overcurrent := p.rect.overcurrent + 1 } })
    (RectState.ne_tripped_of_running runs)

/-! ### VBUS (R137) -/

theorem rectVoltageSample_rests (rests : p.rect.state.firing = false) : p.rectVoltageSample e = p := by
  simp only [rectVoltageSample, record, rests, Bool.false_eq_true, if_false]

theorem rectVoltageSample_low (fires : p.rect.state.firing = true)
    (low : e.front.latest.vbus ≤ (f.vblock.toNat : Int) + 100) :
    p.rectVoltageSample e = { p with rect := { p.rect with overvoltage := 0 } } := by
  simp only [rectVoltageSample, record, fires, if_true, if_neg (Int.not_lt.2 low)]

theorem rectVoltageSample_high (fires : p.rect.state.firing = true)
    (high : (f.vblock.toNat : Int) + 100 < e.front.latest.vbus) : p.rectVoltageSample e =
      (let q := { p with rect := { p.rect with overvoltage := p.rect.overvoltage + 1 } }
      if 3 ≤ p.rect.overvoltage then q.rectBlock e .fastOvervoltage else q) := by
  simp only [rectVoltageSample, record, fires, if_true, if_pos high, Nat.reduceLeDiff]

theorem rectVoltageSample_blocks (fires : p.rect.state.firing = true)
    (high : (f.vblock.toNat : Int) + 100 < e.front.latest.vbus) (fourth : 3 ≤ p.rect.overvoltage) :
    p.RectBlocks e .fastOvervoltage (p.rectVoltageSample e) := by
  rw [rectVoltageSample_high record fires high, if_pos fourth]
  exact rectBlock_blocks (p := { p with rect := { p.rect with overvoltage := p.rect.overvoltage + 1 } }) _

theorem rectMean_eq : p.rectMean e =
    if p.rect.state.firing ∧ (f.vblock.toNat : Int) < e.front.mean20 .vbus then p.rectBlock e .meanOvervoltage
    else p := by
  unfold rectMean
  rw [record]

end

end Plant

end Sys2Proof.Machine
end

section
/-! PROOFS. The entry into RETARD with the pulses still PENDING, and the trips, blocks and stops of the rectifier
(O36). -/

namespace Sys2Proof.Machine

/-! ### The pulses at an entry into RETARD (R135) -/

section
variable {sch : Schedule} {now angle : Nat} {x : Pulse}

theorem Schedule.retardPulse_drops (pending : x.status = .pending) (below : x.angle < angle)
    (late : pulsePosition sch.offset angle x.gate < x.position ∨
      sch.crossing + sch.period * pulsePosition sch.offset angle x.gate / 3600 ≤ now) :
    sch.retardPulse now angle x = { x with status := .dropped } := by
  unfold retardPulse
  rw [if_pos ⟨pending, below⟩]
  dsimp only
  by_cases before : pulsePosition sch.offset angle x.gate < x.position
  · rw [if_pos before]
  · rw [if_neg before]
    exact if_pos (late.resolve_left before)

theorem Schedule.retardPulse_moves (pending : x.status = .pending) (below : x.angle < angle)
    (later : x.position ≤ pulsePosition sch.offset angle x.gate)
    (coming : now < sch.crossing + sch.period * pulsePosition sch.offset angle x.gate / 3600) :
    sch.retardPulse now angle x =
      { x with
        position := pulsePosition sch.offset angle x.gate
        angle := angle
        moment := sch.crossing + sch.period * pulsePosition sch.offset angle x.gate / 3600 } := by
  unfold retardPulse
  rw [if_pos ⟨pending, below⟩]
  dsimp only
  rw [if_neg (Nat.not_lt.2 later)]
  exact if_neg (Nat.not_le.2 coming)

theorem Schedule.retardPulse_stays (stays : ¬ (x.status = .pending ∧ x.angle < angle)) :
    sch.retardPulse now angle x = x := if_neg stays

end

/-- R135: the controller's record as it enters RETARD. -/
def Rectifier.retarded (now : Nat) (f : StationFields) (r : Rectifier) : Rectifier :=
  { r with
    state := .retard
    alpha := max r.alpha f.alphaRetard.toNat
    schedule := r.schedule.map (fun sch =>
      { sch with pulses := sch.pulses.map (sch.retardPulse now f.alphaRetard.toNat) }) }

namespace Plant

variable {e : Env} {k : FeederId} {f : StationFields} {p : Plant}

theorem retardEntry_retarded (record : e.store.stationFields = some f) (drives : p.Drives) :
    p.retardEntry e = ({ p with rect := p.rect.retarded e.time.nowUs f }).post e .rectifier .rectState
      [(p.rect.state.code : Int), 5, 0] := by
  unfold retardEntry
  rcases drives with state | state | state <;> simp only [record, state] <;> rfl

/-- R92, R135: a feeder that joins an empty set retards a rectifier that drives. -/
theorem joinPending_first (empty : p.pendingOpen = []) (record : e.store.stationFields = some f) (drives : p.Drives) :
    p.joinPending e k =
      ({ p with pendingOpen := pendingWith k [], rect := p.rect.retarded e.time.nowUs f }).post e .rectifier .rectState
        [(p.rect.state.code : Int), 5, 0] := by
  unfold joinPending
  dsimp only
  rw [empty]
  exact retardEntry_retarded (p := { p with pendingOpen := pendingWith k [] }) record drives

theorem pendingWith_nil (k : FeederId) : pendingWith k [] = [k] := by cases k <;> rfl

/-! ### Reports and outcomes of the ACB, and the loss of the station record (R124, R126, R127) -/

theorem rectReport_trips (runs : p.rect.state.running = true) :
    p.RectTrips e .acbOpened 0 (p.rectReport e .opened .discrepancy) := by
  have trips : p.rectReport e .opened .discrepancy = p.rectTrip e .acbOpened 0 := if_pos ⟨rfl, rfl, runs⟩
  rw [trips]
  exact rectTrip_enters (RectState.ne_tripped_of_running runs)

theorem rectReport_rests {new : ItemState} {reason : ReportReason}
    (rests : new ≠ .opened ∨ ¬ p.rect.state.running = true) : p.rectReport e new reason = p := by
  refine if_neg ?_
  rintro ⟨opened, -, runs⟩
  exact rests.elim (· opened) (· runs)

theorem rectOutcome_failed {o : CommandOutcome} (failed : o = .failed ∨ o = .wrongState) :
    p.rectOutcome e .closing o = if p.rect.state = .syncing then p.rectStop e .acbFail else p := by
  rcases failed with rfl | rfl <;> rfl

theorem rectOutcome_rests {d : Direction} {o : CommandOutcome}
    (calm : d = .opening ∨ o = .completed ∨ o = .superseded) : p.rectOutcome e d o = p := by
  rcases calm with rfl | rfl | rfl
  · rfl
  · cases d <;> rfl
  · cases d <;> rfl

end Plant

/-! ### O36 -/

/-- Settles O36: the join of the open-pending set is one change of the record and its entry, and each trip, block and
stop is the entry that R122, R126 or R137 gives. -/
theorem retardMovesPendingPulses : Obligations.RetardMovesPendingPulses := by
  refine ⟨fun e k f p empty record => ⟨?_, ?_, Plant.joinPending_items k p, Plant.joinPending_feeders k p,
    fun drives => ?_, fun calm => ?_⟩, fun e p => ⟨fun f record => ?_, fun fires => ?_, fun runs => ?_, fun rests => ?_,
    fun new reason notOpened => Plant.rectReport_rests (.inl notOpened), fun o failed => ⟨fun syncing => ?_,
    fun other => ?_⟩, fun d o calm => Plant.rectOutcome_rests calm, fun runs => ?_, fun rests => ?_⟩⟩
  · rw [Plant.joinPending_pendingOpen, empty, Plant.pendingWith_nil]
  · by_cases drives : p.Drives
    · rw [Plant.joinPending_first empty record drives]
      rfl
    · rw [Plant.joinPending_spares fun ⟨_, _, d⟩ => drives d]
  · rw [Plant.joinPending_first empty record drives]
    refine ⟨rfl, rfl, JournalUnit.post_last .., fun none => congrArg (Option.map _) none, fun sch some => ?_⟩
    refine ⟨sch.pulses.map (sch.retardPulse e.time.nowUs f.alphaRetard.toNat), congrArg (Option.map _) some,
      List.length_map .., fun n x y before after => ?_⟩
    rw [List.getElem?_map, before] at after
    obtain rfl := Option.some.inj after
    exact ⟨fun ⟨pending, below⟩ late => Schedule.retardPulse_drops pending below late,
      fun ⟨pending, below⟩ later coming => Schedule.retardPulse_moves pending below later coming,
      Schedule.retardPulse_stays⟩
  · rw [Plant.joinPending_spares fun ⟨_, _, d⟩ => calm d]
    exact ⟨rfl, rfl⟩
  · simp only [← RectState.running_iff]
    refine ⟨fun rests => Plant.rectCurrentSample_rests record (by simpa using rests),
      Plant.rectCurrentSample_low record, fun runs high few => ?_, Plant.rectCurrentSample_trips record,
      fun rests => ⟨Plant.rectVoltageSample_rests record rests, ?_⟩, Plant.rectVoltageSample_low record,
      fun fires high few => ?_, Plant.rectVoltageSample_blocks record, fun fires high => ?_, fun fires low => ?_⟩
    · rw [Plant.rectCurrentSample_high record runs high]
      exact if_neg (Nat.not_le.2 few)
    · rw [Plant.rectMean_eq record, rests]
      rfl
    · rw [Plant.rectVoltageSample_high record fires high]
      exact if_neg (Nat.not_le.2 few)
    · rw [Plant.rectMean_eq record, if_pos ⟨fires, high⟩]
      exact Plant.rectBlock_blocks _
    · rw [Plant.rectMean_eq record, if_neg fun ⟨_, high⟩ => Int.not_lt.2 low high]
  · rw [Plant.rectLockLost, if_pos fires]
    exact Plant.rectBlock_blocks _
  · exact Plant.rectReport_trips ((RectState.running_iff _).2 runs)
  · exact Plant.rectReport_rests (.inr fun runs => rests ((RectState.running_iff _).1 runs))
  · rw [Plant.rectOutcome_failed failed, if_pos syncing]
    exact Plant.rectStop_stops (.inl rfl)
  · rw [Plant.rectOutcome_failed failed, if_neg other]
  · rw [Plant.rectSettingsLost, if_pos ((RectState.running_iff _).2 runs)]
    exact Plant.rectStop_stops (.inr rfl)
  · exact if_neg fun runs => rests ((RectState.running_iff _).1 runs)

end Sys2Proof.Machine
end

section
/-! PROOFS. The schedule of a period, its pulses and their bursts (O34). -/

namespace Sys2Proof.Machine

/-! ### The schedule (R129) -/

theorem allGates_getElem? : ∀ n : Nat, n < 12 → allGates[n]? = some (Fin.ofNat 12 n) := by decide

theorem allGates_nodup : allGates.Nodup := by decide

section
variable {crossing period offset burst angle k : Nat}

/-- The gates S0 to S5. -/
theorem pulsePosition_s (gate : k < 6) :
    pulsePosition offset angle (Fin.ofNat 12 k) = (offset + angle + 600 * k) % 3600 := by
  have val : (Fin.ofNat 12 k).val = k := Nat.mod_eq_of_lt (by omega)
  rw [pulsePosition, val, if_pos gate]

/-- The gates D0 to D5. -/
theorem pulsePosition_d (gate : k < 6) :
    pulsePosition offset angle (Fin.ofNat 12 (k + 6)) = (offset + angle + 600 * k + 300) % 3600 := by
  have val : (Fin.ofNat 12 (k + 6)).val = k + 6 := Nat.mod_eq_of_lt (by omega)
  rw [pulsePosition, val, if_neg (by omega), Nat.add_sub_cancel]

theorem newSchedule_getElem? (gate : k < 12) : (newSchedule crossing period offset burst angle).pulses[k]? =
    some (newPulse crossing period offset angle (Fin.ofNat 12 k)) := by
  rw [newSchedule, List.getElem?_map, allGates_getElem? k gate]
  rfl

theorem newSchedule_gates : (newSchedule crossing period offset burst angle).pulses.map Pulse.gate = allGates := rfl

end

/-! ### The pulse of a gate and its burst (R130, R139) -/

/-- R130: the schedule once the PENDING pulse of a gate has fired. -/
def Schedule.fired (gate : GateId) (sch : Schedule) : Schedule :=
  { sch with
    pulses := sch.pulses.map (fun y =>
      if y.gate = gate ∧ y.status = .pending then { y with status := .fired } else y) }

section
variable {gate : GateId} {sch : Schedule} {x : Pulse} {r : Rectifier}
  (schedule : r.schedule = some sch)
  (found : sch.pulses.find? (fun y => decide (y.gate = gate ∧ y.status = .pending)) = some x)
include schedule found

theorem Rectifier.pendingMoment_eq : r.pendingMoment gate = some x.moment := by
  simp only [Bool.decide_and] at found
  simp only [pendingMoment, schedule, found, Option.map_some]

theorem Rectifier.firePulse_eq : r.firePulse gate =
    { r with
      bursts := r.bursts.set gate (some ⟨x.moment, x.moment + sch.burst⟩)
      schedule := some (sch.fired gate) } := by
  simp only [Bool.decide_and] at found
  simp only [firePulse, schedule, found]
  rfl

end

section
variable {gate : GateId} {s : State}

theorem exec_pulseInstant_due {m : Nat} (pending : s.plant.rect.pendingMoment gate = some m)
    (fires : s.plant.rect.state.firing = true) (reached : s.time.hasReachedUs m = true) :
    exec (.pulseInstant gate) s =
      .next { s with plant := { s.plant with rect := s.plant.rect.firePulse gate } } := by
  show execPulseInstant gate s = _
  simp only [execPulseInstant, pending, fires, reached, Bool.and_self, if_true]
  rfl

theorem exec_pulseInstant_rests (rests : s.plant.rect.state.firing = false) :
    exec (.pulseInstant gate) s = .next s := by
  show execPulseInstant gate s = _
  unfold execPulseInstant
  cases s.plant.rect.pendingMoment gate with
  | none => rfl
  | some m => simp only [rests, Bool.false_and, Bool.false_eq_true, if_false]

theorem exec_burstEnd_due {b : Burst} (running : s.plant.rect.bursts[gate] = some b)
    (reached : s.time.hasReachedUs b.ends = true) :
    exec (.burstEnd gate) s = .next { s with plant := { s.plant with rect := s.plant.rect.endBurst gate } } := by
  show execBurstEnd gate s = _
  simp only [execBurstEnd, running, reached, if_true]
  rfl

end

/-- A moment has come up to the next sample instant, or up to the present one before its samples (log 12). -/
theorem TimeBase.hasReachedUs_iff (t : TimeBase) (moment : Nat) :
    t.hasReachedUs moment = true ↔ moment ≤ t.nowUs + if t.begun then 0 else 125 := decide_eq_true_iff

/-- Settles O34: the schedule gate by gate, the pulse that fires and the burst that ends, and the moments that have
come. -/
theorem pulsesFireWhereScheduled : Obligations.PulsesFireWhereScheduled := by
  refine ⟨fun crossing period offset burst angle => ⟨rfl, rfl, rfl, rfl, rfl, fun k gate => ⟨?_, ?_⟩⟩,
    fun gate s => ⟨fun sch x fires schedule found reached => ?_, exec_pulseInstant_rests, fun b running reached =>
      exec_burstEnd_due running reached⟩, fun t moment => ⟨fun notBegun => ?_, fun begun => ?_⟩⟩
  · rw [newSchedule_getElem? (by omega), newPulse, pulsePosition_s gate, pulseMoment]
  · rw [newSchedule_getElem? (by omega), newPulse, pulsePosition_d gate, pulseMoment]
  · rw [exec_pulseInstant_due (Rectifier.pendingMoment_eq schedule found) fires reached,
      Rectifier.firePulse_eq schedule found]
    rfl
  · rw [TimeBase.hasReachedUs_iff, notBegun]
    rfl
  · rw [TimeBase.hasReachedUs_iff, begun]
    rfl

end Sys2Proof.Machine
end

section
/-! PROOFS. The regulator run and the crossing of a firing rectifier (O35). -/

namespace Sys2Proof

theorem clamp_eq_max_min {lo hi : Int} (ordered : lo ≤ hi) (x : Int) : clamp lo hi x = max lo (min hi x) := by
  unfold clamp
  split
  · omega
  · split <;> omega

namespace Machine

/-! ### The angle (R132) -/

section
variable (f : StationFields)

theorem clampAngle_eq (x : Int) : clampAngle f x =
    if x < f.alphaMin.toNat then f.alphaMin.toNat
    else if (f.alphaMax.toNat : Int) < x then f.alphaMax.toNat else x.toNat := by
  unfold clampAngle clamp
  split
  · rfl
  · split <;> rfl

theorem clampAngle_natCast (x : Nat) : clampAngle f x =
    if x < f.alphaMin.toNat then f.alphaMin.toNat else if f.alphaMax.toNat < x then f.alphaMax.toNat else x := by
  simp only [clampAngle_eq, Int.ofNat_lt, Int.toNat_natCast]

end

/-! ### The regulator run (R131 to R133, R136) -/

section
variable {f : StationFields} {idc20 vbus20 : Int} {r : Rectifier}

theorem Rectifier.regulate_retard (retard : r.state = .retard) :
    r.regulate f idc20 vbus20 = { r with alpha := max r.alpha f.alphaRetard.toNat } := by
  simp only [regulate, retard]

/-- R131: Vtarget. -/
def Rectifier.vtarget (f : StationFields) (idc20 : Int) (r : Rectifier) : Int :=
  (r.reference : Int) - Int.fdiv (f.rdroop.toNat * idc20) 1000

/-- R132: the step of the voltage loop, at most ±20 in SOFT_START and ±50 elsewhere. -/
def Rectifier.loopStep (f : StationFields) (idc20 vbus20 : Int) (r : Rectifier) : Int :=
  let bound : Int := if r.state = .softStart then 20 else 50
  max (-bound) (min bound (Int.tdiv (f.ki.toNat * (r.vtarget f idc20 - vbus20)) 16))

/-- R133: the step of the current limit. -/
def currentStep (f : StationFields) (idc20 : Int) : Int :=
  max 0 (min 100 (Int.tdiv (f.kc.toNat * (idc20 - f.ilimit.toNat)) 16))

theorem Rectifier.voltageLoop_eq (calm : r.state = .softStart ∨ r.state = .regulating) :
    r.voltageLoop f idc20 vbus20 =
      (let err := r.vtarget f idc20 - vbus20
      { r with
        alpha := clampAngle f ((r.alpha : Int) - r.loopStep f idc20 vbus20)
        regulator := ⟨r.vtarget f idc20, err, r.loopStep f idc20 vbus20, idc20, vbus20⟩
        state := if r.state = .softStart ∧ ¬ (-10 ≤ err ∧ err ≤ 10) then .softStart else .regulating }) := by
  have step : clamp (-if r.state = .softStart then 20 else 50) (if r.state = .softStart then 20 else 50)
      (truncDiv (f.ki.toNat * (r.vtarget f idc20 - vbus20)) 16) = r.loopStep f idc20 vbus20 :=
    clamp_eq_max_min (by split <;> decide) _
  unfold vtarget at step ⊢
  unfold voltageLoop floorDiv
  dsimp only
  rw [step]
  rcases calm with state | state
  · simp only [state, true_and, ite_not]
  · simp only [state, reduceCtorEq, false_and, if_false]

/-- R132: at or below Ilimit a run is the voltage loop. -/
theorem Rectifier.regulate_voltage
    (drives : r.state = .softStart ∨ r.state = .regulating ∨ r.state = .currentLimit)
    (low : idc20 ≤ (f.ilimit.toNat : Int)) : r.regulate f idc20 vbus20 =
      (let err := r.vtarget f idc20 - vbus20
      { r with
        alpha := clampAngle f ((r.alpha : Int) - r.loopStep f idc20 vbus20)
        regulator := ⟨r.vtarget f idc20, err, r.loopStep f idc20 vbus20, idc20, vbus20⟩
        state := if r.state = .softStart ∧ ¬ (-10 ≤ err ∧ err ≤ 10) then .softStart else .regulating }) := by
  have notHigh := Int.not_lt.2 low
  rcases drives with state | state | state
  · rw [← voltageLoop_eq (.inl state)]
    simp only [regulate, state, if_neg notHigh]
  · rw [← voltageLoop_eq (.inr state)]
    simp only [regulate, state, if_neg notHigh]
  · have returned : r.regulate f idc20 vbus20 = { r with state := .regulating }.voltageLoop f idc20 vbus20 := by
      simp only [regulate, state, if_neg notHigh]
    rw [returned, voltageLoop_eq (.inr rfl)]
    simp only [loopStep, vtarget, state, reduceCtorEq, false_and, if_false]

theorem saturatingSucc_eq (top n : Nat) : saturatingSucc top n = if top ≤ n then n else n + 1 := by
  unfold saturatingSucc
  split <;> split <;> omega

/-- R133: above Ilimit a run is the current limit, whose entries are counted. -/
theorem Rectifier.regulate_limit
    (drives : r.state = .softStart ∨ r.state = .regulating ∨ r.state = .currentLimit)
    (high : (f.ilimit.toNat : Int) < idc20) : r.regulate f idc20 vbus20 =
      { r with
        alpha := clampAngle f ((r.alpha : Int) + currentStep f idc20)
        regulator := ⟨r.vtarget f idc20, r.vtarget f idc20 - vbus20, currentStep f idc20, idc20, vbus20⟩
        state := .currentLimit
        limitCount :=
          if r.state = .currentLimit ∨ 65535 ≤ r.limitCount then r.limitCount else r.limitCount + 1 } := by
  have step : clamp 0 100 (truncDiv (f.kc.toNat * (idc20 - f.ilimit.toNat)) 16) = currentStep f idc20 :=
    clamp_eq_max_min (by decide) _
  rcases drives with state | state | state <;>
    simp only [regulate, state, if_pos high, limitStep, step, saturatingSucc_eq, reduceCtorEq, false_or, true_or,
      if_true] <;> rfl

theorem Rectifier.regulate_only (f : StationFields) (idc20 vbus20 : Int) (r : Rectifier) :
    ∃ state alpha regulator limitCount, r.regulate f idc20 vbus20 =
      { r with state := state, alpha := alpha, regulator := regulator, limitCount := limitCount } := by
  unfold regulate
  split
  · split <;> exact ⟨_, _, _, _, rfl⟩
  · split <;> exact ⟨_, _, _, _, rfl⟩
  · split <;> exact ⟨_, _, _, _, rfl⟩
  all_goals exact ⟨_, _, _, _, rfl⟩

end

/-! ### The schedule that a crossing begins (R128 steps 4 to 6) -/

/-- R128, R129: what the record holds of the period begun at a crossing: the schedule at its angle, with the pulses
already due FIRED on gates whose bursts start now, and the others PENDING on gates that stay as they were. -/
def Rectifier.Begun (now crossing period : Nat) (f : StationFields) (r q : Rectifier) : Prop :=
  ∃ sch, q.schedule = some sch ∧ sch.crossing = crossing ∧ sch.period = period ∧ sch.offset = f.offset.toNat ∧
    sch.burst = period * f.burst.toNat / 3600 ∧ sch.pulses.length = 12 ∧
    ∀ x ∈ sch.pulses, x.angle = r.alpha ∧
      (x.moment ≤ now → x.status = .fired ∧ q.bursts[x.gate] = some ⟨now, now + sch.burst⟩) ∧
      (now < x.moment → x.status = .pending ∧ q.bursts[x.gate] = r.bursts[x.gate])

section
variable {now crossing period offset burst angle : Nat} {x y : Pulse}

theorem newSchedule_mem (mem : x ∈ (newSchedule crossing period offset burst angle).pulses) :
    x.angle = angle ∧ x.status = .pending := by
  obtain ⟨gate, -, rfl⟩ := List.mem_map.1 mem
  exact ⟨rfl, rfl⟩

theorem newSchedule_length : (newSchedule crossing period offset burst angle).pulses.length = 12 := List.length_map ..

/-- One pulse stands for each gate. -/
theorem newSchedule_gate_injective (memX : x ∈ (newSchedule crossing period offset burst angle).pulses)
    (memY : y ∈ (newSchedule crossing period offset burst angle).pulses) (same : y.gate = x.gate) : y = x := by
  obtain ⟨gate, -, rfl⟩ := List.mem_map.1 memX
  obtain ⟨other, -, rfl⟩ := List.mem_map.1 memY
  exact congrArg _ same

theorem Pulse.dueAt_iff (pending : x.status = .pending) : x.dueAt now = true ↔ x.moment ≤ now := by
  simp [dueAt, pending]

end

section
variable (now crossing period : Nat) (f : StationFields) (r : Rectifier)

theorem Rectifier.buildSchedule_only :
    ∃ bursts schedule, r.buildSchedule now crossing period f = { r with bursts := bursts, schedule := schedule } := by
  obtain ⟨bursts, built, -, -⟩ := r.fireDue_bursts now
    (newSchedule crossing period f.offset.toNat f.burst.toNat r.alpha) (newSchedule_gates ▸ allGates_nodup)
  exact ⟨_, _, built⟩

@[simp] theorem Rectifier.buildSchedule_alpha : (r.buildSchedule now crossing period f).alpha = r.alpha := by
  obtain ⟨_, _, built⟩ := r.buildSchedule_only now crossing period f
  rw [built]

@[simp] theorem Rectifier.buildSchedule_regulator :
    (r.buildSchedule now crossing period f).regulator = r.regulator := by
  obtain ⟨_, _, built⟩ := r.buildSchedule_only now crossing period f
  rw [built]

@[simp] theorem Rectifier.buildSchedule_limitCount :
    (r.buildSchedule now crossing period f).limitCount = r.limitCount := by
  obtain ⟨_, _, built⟩ := r.buildSchedule_only now crossing period f
  rw [built]

@[simp] theorem Rectifier.buildSchedule_overvoltage :
    (r.buildSchedule now crossing period f).overvoltage = r.overvoltage := by
  obtain ⟨_, _, built⟩ := r.buildSchedule_only now crossing period f
  rw [built]

/-- R128 steps 4 to 6. -/
theorem Rectifier.buildSchedule_begun : r.Begun now crossing period f (r.buildSchedule now crossing period f) := by
  obtain ⟨bursts, built, fires, stays⟩ := r.fireDue_bursts now
    (newSchedule crossing period f.offset.toNat f.burst.toNat r.alpha) (newSchedule_gates ▸ allGates_nodup)
  rw [buildSchedule, built]
  refine ⟨_, rfl, rfl, rfl, rfl, rfl, (List.length_map ..).trans newSchedule_length, fun x mem => ?_⟩
  obtain ⟨y, memY, rfl⟩ := List.mem_map.1 mem
  obtain ⟨angle, pending⟩ := newSchedule_mem memY
  by_cases due : y.dueAt now = true
  · have past := (Pulse.dueAt_iff pending).1 due
    rw [if_pos due]
    exact ⟨angle, fun _ => ⟨rfl, fires y memY due⟩, fun coming => absurd past (Nat.not_le.2 coming)⟩
  · rw [if_neg due]
    refine ⟨angle, fun past => absurd ((Pulse.dueAt_iff pending).2 past) due, fun _ => ⟨pending, ?_⟩⟩
    refine stays y.gate fun z memZ same => ?_
    rw [newSchedule_gate_injective memY memZ same]
    exact Bool.not_eq_true _ ▸ due

end

/-! ### A crossing of a firing rectifier (R128, R137) -/

/-- R128 steps 2 and 3: the record after the run of a crossing. -/
def Rectifier.crossingRun (e : Env) (f : StationFields) (r : Rectifier) : Rectifier :=
  { r with alpha := clampAngle f r.alpha }.regulate f (e.front.mean20 .idc) (e.front.mean20 .vbus)

section
variable {e : Env} {f : StationFields} {crossing : Nat} {p : Plant}

theorem Plant.rectCrossing_firing (record : e.store.stationFields = some f) (fires : p.rect.state.firing = true) :
    p.rectCrossing e crossing =
      if p.tracker.locked then
        { p with rect := (p.rect.crossingRun e f).buildSchedule e.time.nowUs crossing p.tracker.period f }
      else p.rectBlock e .unlocked := by
  unfold rectCrossing
  rw [record]
  dsimp only
  split
  case h_1 state | h_2 state | h_7 state | h_8 state => exact absurd fires (by rw [state]; decide)
  all_goals rfl

theorem Rectifier.crossingRun_bursts (e : Env) (f : StationFields) (r : Rectifier) :
    (r.crossingRun e f).bursts = r.bursts := by
  obtain ⟨state, alpha, regulator, limitCount, run⟩ := { r with alpha := clampAngle f r.alpha }.regulate_only f
    (e.front.mean20 .idc) (e.front.mean20 .vbus)
  rw [crossingRun, run]

end

/-! ### O35 -/

/-- Settles O35: the run is the voltage loop, the current limit or the retarded angle, and a crossing builds its
schedule on the record that the run leaves. -/
theorem regulatorStepsTheAngle : Obligations.RegulatorStepsTheAngle := by
  refine ⟨fun f idc20 vbus20 r => ⟨fun drives low => ?_, fun drives high => ?_, Rectifier.regulate_retard⟩,
    fun e f crossing p record fires => ⟨fun locked ordered => ?_, fun unlocked => ?_⟩⟩
  · rw [Rectifier.regulate_voltage drives low]
    exact ⟨clampAngle_eq .., rfl, rfl, rfl⟩
  · rw [Rectifier.regulate_limit drives high]
    exact ⟨clampAngle_eq .., rfl, rfl, rfl⟩
  · have begun := (p.rect.crossingRun e f).buildSchedule_begun e.time.nowUs crossing p.tracker.period f
    rw [Rectifier.Begun, Rectifier.crossingRun_bursts] at begun
    rw [Plant.rectCrossing_firing record fires, if_pos locked]
    dsimp only
    rw [← clampAngle_natCast f p.rect.alpha]
    exact ⟨Rectifier.buildSchedule_state .., Rectifier.buildSchedule_alpha .., Rectifier.buildSchedule_regulator ..,
      Rectifier.buildSchedule_limitCount .., rfl, rfl, rfl, begun⟩
  · rw [Plant.rectCrossing_firing record fires, if_neg (by simp [unlocked])]
    rfl

end Machine
end Sys2Proof
end

section
/-! PROOFS. Rectifier Start and the crossing that enters a firing state (O31), Rectifier Stop (O32) and Set Voltage
Reference (O33). -/

namespace Sys2Proof.Machine

/-! ### The start (R120) -/

theorem Item.blocksStart_iff (it : Item) : it.blocksStart = true ↔
    ¬ (it.state = .opened ∨ it.state = .closed ∨ it.state = .failedClose ∧ it.sensed ≠ .unsensed) := by
  unfold blocksStart
  cases it.state <;> simp

theorem Plant.breakerHoldsFault_iff (p : Plant) :
    p.breakerHoldsFault = true ↔ ∃ k, (p.item (.fb k)).state = .failedOpen := by
  simp [breakerHoldsFault, FeederId.mem_everyFeeder]

section
variable {s : State}

theorem startRefusal_notReady (notReady : s.store.stationFields.isSome = false) : startRefusal s = some .notReady :=
  if_pos (by simpa using notReady)

/-- R120 steps 3 to 5, in the positive. -/
def State.mayStart (s : State) : Prop :=
  (s.plant.rect.state = .stopped ∨ s.plant.rect.state = .tripped) ∧
    ((s.plant.item .acb).state = .opened ∨ (s.plant.item .acb).state = .closed ∨
      (s.plant.item .acb).state = .failedClose ∧ (s.plant.item .acb).sensed ≠ .unsensed) ∧
    ¬ ∃ k, (s.plant.item (.fb k)).state = .failedOpen

theorem startRefusal_ready (ready : s.store.stationFields.isSome = true) : startRefusal s =
    if s.plant.rect.state ≠ .stopped ∧ s.plant.rect.state ≠ .tripped then some .wrongState
    else if (s.plant.item .acb).blocksStart then some .wrongState
    else if s.plant.breakerHoldsFault then some .wrongState
    else none :=
  if_neg (by simpa [Option.isSome_iff_ne_none] using ready)

theorem startRefusal_wrongState (ready : s.store.stationFields.isSome = true) (mayNot : ¬ s.mayStart) :
    startRefusal s = some .wrongState := by
  rw [startRefusal_ready ready]
  split
  · rfl
  next resting =>
    split
    · rfl
    next allowed =>
      refine if_pos ((Plant.breakerHoldsFault_iff _).2 (by_contra fun sound => mayNot ⟨?_, ?_, sound⟩))
      · rwa [← not_or, not_not] at resting
      · rwa [Item.blocksStart_iff, not_not] at allowed

theorem startRefusal_none (ready : s.store.stationFields.isSome = true) (may : s.mayStart) : startRefusal s = none := by
  obtain ⟨resting, allowed, sound⟩ := may
  rw [startRefusal_ready ready, if_neg (by rwa [← not_or, not_not]),
    if_neg (by rwa [Item.blocksStart_iff, not_not]), if_neg (by rwa [Plant.breakerHoldsFault_iff])]

end

namespace Plant

variable {e : Env} {p : Plant}

theorem closeIncomer_starts (starts : (p.item .acb).mayStartClosing = true) :
    p.closeIncomer e = p.setItem .acb ((p.item .acb).startClosing e .acb [.rectifier]) := by
  rw [closeIncomer, if_pos starts, closeCommand_starts rfl starts]

theorem closeIncomer_rests (rests : ¬ (p.item .acb).mayStartClosing = true) : p.closeIncomer e = p := if_neg rests

theorem closeIncomer_withRect (r : Rectifier) :
    ({ p with rect := r }).closeIncomer e = { p with rect := r, items := (p.closeIncomer e).items } := by
  by_cases starts : (p.item .acb).mayStartClosing = true
  · rw [closeIncomer_starts starts]
    exact closeIncomer_starts (p := { p with rect := r }) starts
  · rw [closeIncomer_rests starts]
    exact closeIncomer_rests (p := { p with rect := r }) starts

theorem rectStart_eq : p.rectStart e =
    { p with
      rect := { p.rect with state := .syncing, overcurrent := 0, trippedLive := false }
      items := (p.closeIncomer e).items
      unit := JournalUnit.post e .rectifier .rectState [(p.rect.state.code : Int), 1, 0] p.unit } := by
  unfold rectStart
  dsimp only
  rw [closeIncomer_withRect]
  rfl

end Plant

section
variable {s : State} {head : RequestHead}

theorem exec_rectifierStart_notPermitted (atOnce : s.link.takesAtOnce = true)
    (noRemote : head.pins.remote = false) :
    exec (.rectifierStart head) s = .next (s.repliedWith head .rectifierStart [4] s.plant) :=
  congrArg _ (State.request_repliedWith (time := s.time) atOnce (needsRemote_inactive noRemote))

theorem exec_rectifierStart_refused {st : Status} (atOnce : s.link.takesAtOnce = true)
    (remote : head.pins.remote = true) (refused : startRefusal s = some st) :
    exec (.rectifierStart head) s = .next (s.repliedWith head .rectifierStart [st.code] s.plant) := by
  refine congrArg _ (State.request_repliedWith (time := s.time) atOnce ((needsRemote_active remote).trans ?_))
  rw [show startRefusal (s.begin _ _ _) = some st from refused]
  rfl

/-- R210: the reply to Rectifier Start and Rectifier Stop. -/
theorem rectifierReply_eq : rectifierReply s = (s, some [0, BitVec.ofNat 8 s.plant.rect.state.code]) := by
  simp [rectifierReply, okReply, Status.code, leBytes]

theorem exec_rectifierStart_starts (atOnce : s.link.takesAtOnce = true) (remote : head.pins.remote = true)
    (may : startRefusal s = none) : exec (.rectifierStart head) s =
      .next (s.repliedWith head .rectifierStart [0, 1] (s.plant.rectStart s.env)) := by
  refine congrArg _ (State.request_repliedWith (time := s.time) atOnce ((needsRemote_active remote).trans ?_))
  rw [show startRefusal (s.begin _ _ _) = none from may]
  refine rectifierReply_eq.trans ?_
  rw [State.onPlant_plant, Plant.rectStart_eq]
  rfl

end

/-! ### The crossing that enters a firing state (R121, R138) -/

section
variable {e : Env} {f : StationFields} {crossing : Nat} {p : Plant}

/-- R121, R138: a crossing at which the rectifier begins to fire. -/
def Plant.StartsFiring (e : Env) (f : StationFields) (p : Plant) : Prop :=
  p.tracker.locked = true ∧ e.front.mean20 .vbus < (f.vblock.toNat : Int) - f.vhys.toNat ∧
    (p.rect.state = .syncing ∧ (p.item .acb).state = .closed ∨ p.rect.state = .blocked)

theorem Plant.rectCrossing_starts (record : e.store.stationFields = some f) (starts : p.StartsFiring e f) :
    p.rectCrossing e crossing = p.rectEnterFiring e f crossing := by
  obtain ⟨locked, low, ⟨state, closed⟩ | state⟩ := starts
  · simp only [rectCrossing, record, state, locked, closed, low, decide_true, Bool.and_self, if_true]
  · simp only [rectCrossing, record, state, locked, low, decide_true, Bool.and_self, if_true]

theorem Plant.rectCrossing_waits (record : e.store.stationFields = some f)
    (waits : p.rect.state = .syncing ∨ p.rect.state = .blocked) (notYet : ¬ p.StartsFiring e f) :
    p.rectCrossing e crossing = p := by
  rcases waits with state | state
  · simp only [rectCrossing, record, state]
    refine if_neg fun starts => notYet ?_
    simp only [Bool.and_eq_true, decide_eq_true_eq] at starts
    obtain ⟨⟨locked, closed⟩, low⟩ := starts
    exact ⟨locked, low, .inl ⟨state, closed⟩⟩
  · simp only [rectCrossing, record, state]
    refine if_neg fun starts => notYet ?_
    simp only [Bool.and_eq_true, decide_eq_true_eq] at starts
    obtain ⟨locked, low⟩ := starts
    exact ⟨locked, low, .inr state⟩

theorem Plant.rectCrossing_atRest (record : e.store.stationFields = some f)
    (rests : p.rect.state = .stopped ∨ p.rect.state = .tripped) : p.rectCrossing e crossing = p := by
  rcases rests with state | state <;> simp only [rectCrossing, record, state]

/-- R121: the record as firing begins, before its schedule. -/
def Plant.firstFiring (f : StationFields) (p : Plant) : Rectifier :=
  { p.rect with
    state := if p.pendingOpen = [] then .softStart else .retard
    alpha := f.alphaMax.toNat
    overvoltage := 0 }

theorem Plant.rectEnterFiring_eq : p.rectEnterFiring e f crossing =
    { p with
      rect := (p.firstFiring f).buildSchedule e.time.nowUs crossing p.tracker.period f
      unit := JournalUnit.post e .rectifier .rectState
        [(p.rect.state.code : Int), ((p.firstFiring f).state.code : Int), 0] p.unit } := by
  unfold rectEnterFiring firstFiring
  simp only [List.isEmpty_iff]
  rfl

end

/-- Settles O31: the checks in their order, the start, and the crossing at which the schedule begins at αmax. -/
theorem rectifierStartSynchronises : Obligations.RectifierStartSynchronises := by
  refine ⟨fun head s atOnce => ⟨fun noRemote => ?_, fun remote notReady => ?_, fun remote ready mayNot => ?_,
    fun remote ready resting allowed sound => ?_⟩, fun e f crossing p record => ⟨fun starts => ?_,
      fun waits notYet => ?_, Plant.rectCrossing_atRest record⟩⟩
  · exact exec_rectifierStart_notPermitted atOnce noRemote
  · exact exec_rectifierStart_refused atOnce remote (startRefusal_notReady notReady)
  · exact exec_rectifierStart_refused atOnce remote (startRefusal_wrongState ready mayNot)
  · refine ⟨_, exec_rectifierStart_starts atOnce remote (startRefusal_none ready ⟨resting, allowed, sound⟩), ?_⟩
    rw [Plant.rectStart_eq]
    refine ⟨rfl, fun starts => ?_, fun closed => ?_, JournalUnit.post_last .., rfl, rfl, rfl⟩
    · show ((s.plant.closeIncomer s.env).item .acb).state = .closing
      rw [Plant.closeIncomer_starts (Item.mayStartClosing_iff.2 starts), Plant.item_setItem_self]
      rfl
    · show (s.plant.closeIncomer s.env).items = s.plant.items
      rw [Plant.closeIncomer_rests (by simp [Item.mayStartClosing_iff, closed])]
  · have begun := (p.firstFiring f).buildSchedule_begun e.time.nowUs crossing p.tracker.period f
    rw [Plant.rectCrossing_starts record starts, Plant.rectEnterFiring_eq]
    exact ⟨Rectifier.buildSchedule_state .., Rectifier.buildSchedule_alpha .., Rectifier.buildSchedule_overvoltage ..,
      Rectifier.buildSchedule_regulator .., rfl, rfl, JournalUnit.post_last .., begun⟩
  · exact Plant.rectCrossing_waits record waits notYet

/-! ### The stop (R123) -/

section
variable {e : Env} {p : Plant}

theorem Item.openCommand_closeCoil (e : Env) (c : Commander) (i : ItemId) (it : Item) :
    (it.openCommand e c i).closeCoil =
      if it.state = .opening ∧ it.operation.isSome then it.closeCoil else none := by
  unfold openCommand
  split
  next opening running => rw [if_pos ⟨opening, Option.isSome_of_eq_some running⟩]
  next other =>
    refine (if_neg ?_).symm
    rintro ⟨opening, running⟩
    obtain ⟨op, under⟩ := Option.isSome_iff_exists.1 running
    exact other op opening under

/-- R122 step 2: the command that opens the ACB. -/
theorem Plant.openIncomer_acb (notOpened : (p.item .acb).state ≠ .opened) :
    ((p.openIncomer e).item .acb).state = .opening ∧
      ((p.openIncomer e).item .acb).closeCoil = (
        if (p.item .acb).state = .opening ∧ (p.item .acb).operation.isSome then (p.item .acb).closeCoil else none) ∧
      ∀ i, i ≠ .acb → (p.openIncomer e).item i = p.item i := by
  refine ⟨openIncomer_opening notOpened, ?_, fun i => item_openIncomer_of_ne⟩
  rw [openIncomer_opens notOpened, item_setItem_self]
  exact Item.openCommand_closeCoil ..

/-- R123: in every state of the rectifier the ACB is opened; the record and the journal change in a running one. -/
theorem Plant.requestStop_eq : p.requestStop e =
    { p with
      rect := if p.rect.state.running then p.rect.stopWith .stopped .request else p.rect
      items := (p.openIncomer e).items
      unit :=
        if p.rect.state.running then
          JournalUnit.post e .rectifier .rectState [(p.rect.state.code : Int), 0, 2] p.unit
        else p.unit } := by
  unfold requestStop
  split
  next runs => exact rectStop_eq .request
  next rests => exact openIncomer_eq

theorem RectState.not_running_iff (x : RectState) : ¬ x.running = true ↔ x = .stopped ∨ x = .tripped := by
  cases x <;> decide

end

theorem exec_rectifierStop {head : RequestHead} {s : State} {plant : Plant} {reply : List Byte}
    (atOnce : s.link.takesAtOnce = true)
    (served : serveRectifierStop (s.begin head.pins RequestKind.rectifierStop.code head.tag) =
      ({ s.begin head.pins RequestKind.rectifierStop.code head.tag with plant := plant }, some reply)) :
    exec (.rectifierStop head) s = .next (s.repliedWith head .rectifierStop reply plant) :=
  congrArg _ (State.request_repliedWith (time := s.time) atOnce served)

/-- Settles O32: the stop is one equation of the plant, and its command to the ACB that of R122. -/
theorem rectifierStopTakesTheStoppingActions : Obligations.RectifierStopTakesTheStoppingActions := by
  refine fun head s atOnce => ⟨fun noRemote => ?_, fun remote => ?_⟩
  · exact exec_rectifierStop atOnce (needsRemote_inactive noRemote)
  · refine ⟨s.plant.requestStop s.env, exec_rectifierStop atOnce ?_, ?_⟩
    · exact (needsRemote_active remote).trans rectifierReply_eq
    · rw [Plant.requestStop_eq]
      refine ⟨fun opened => ?_, Plant.openIncomer_acb, fun rests => ?_, fun notStopped notTripped => ?_, rfl, rfl, rfl⟩
      · show (s.plant.openIncomer s.env).items = s.plant.items
        rw [Plant.openIncomer_opened opened]
      · have rests := (RectState.not_running_iff _).2 rests
        exact ⟨if_neg rests, if_neg rests⟩
      · have runs : s.plant.rect.state.running = true :=
          by_contra fun rests => ((RectState.not_running_iff _).1 rests).elim notStopped notTripped
        simp only [runs, if_true]
        exact ⟨rfl, JournalUnit.post_last ..⟩

/-! ### Set Voltage Reference (R134) -/

theorem clampReference_eq (v : Word16) :
    clampReference v = if v.toNat < 600 then 600 else if 900 < v.toNat then 900 else v.toNat := by
  unfold clampReference
  split
  · omega
  · split <;> omega

theorem leBytes_two (n : Nat) : leBytes 2 (n : Int) = [BitVec.ofNat 8 n, BitVec.ofNat 8 (n / 256)] := by
  show [BitVec.ofInt 8 (n : Int), BitVec.ofInt 8 ((n / 256 : Nat) : Int)] = _
  rw [BitVec.ofInt_natCast, BitVec.ofInt_natCast]

/-- R132: a step of at most ±50 moves an angle within the limits by at most 50, clamped or not. -/
theorem clampAngle_near {f : StationFields} {angle : Nat} {step : Int} (low : f.alphaMin.toNat ≤ angle)
    (high : angle ≤ f.alphaMax.toNat) (small : -50 ≤ step ∧ step ≤ 50) :
    clampAngle f ((angle : Int) - step) ≤ angle + 50 ∧ angle ≤ clampAngle f ((angle : Int) - step) + 50 := by
  rw [clampAngle_eq]
  split
  · omega
  · split <;> omega

theorem Rectifier.loopStep_bounds (f : StationFields) (idc20 vbus20 : Int) (r : Rectifier) :
    -50 ≤ r.loopStep f idc20 vbus20 ∧ r.loopStep f idc20 vbus20 ≤ 50 := by
  unfold loopStep
  dsimp only
  split <;> omega

/-- Settles O33: the request, the run that follows and the record that replaces the value. -/
theorem setVoltageReferenceClamps : Obligations.SetVoltageReferenceClamps := by
  refine ⟨fun head v s atOnce => ?_, fun f idc20 vbus20 r regulating low above below => ?_, fun f s check => ?_⟩
  · dsimp only
    rw [← clampReference_eq, ← leBytes_two]
    exact congrArg _ (State.request_repliedWith (time := s.time) atOnce rfl)
  · obtain ⟨up, down⟩ := clampAngle_near above below (r.loopStep_bounds f idc20 vbus20)
    rw [Rectifier.regulate_voltage (.inr (.inl regulating)) low]
    exact ⟨rfl, up, down, rfl⟩
  · obtain ⟨p, completed, reference⟩ := State.completeStation_passed (s := s) (decide_eq_true check)
    rw [completed]
    exact reference

end Sys2Proof.Machine
end

section
/-! PROOFS. One rule for each operation of the rail potential monitor: its runs, the recent-closure list, the entries
into its states, and its commands to RE (R143 to R151). -/

namespace Sys2Proof.Machine

/-! ### The runs (R143, R144) -/

namespace RailMonitor

variable {lv : RailLevels} {vre : Int} {r s t : RailMonitor}

theorem sampleRuns_rl2 (ordered : lv.u2 ≤ lv.u3) :
    (r.sampleRuns lv vre).rl2 = if lv.u2 ≤ vre.natAbs then min 8 (r.rl2 + 1) else 0 := by
  have either : lv.u2 ≤ vre.natAbs ∨ lv.u3 ≤ vre.natAbs ↔ lv.u2 ≤ vre.natAbs := or_iff_left_of_imp ordered.trans
  simp only [sampleRuns, either]

theorem sampleRuns_watchPeak : (r.sampleRuns lv vre).watchPeak = max r.watchPeak vre.natAbs := by
  unfold sampleRuns
  dsimp only
  split <;> omega

theorem sampleRuns_rl2Holds (high : lv.u2 ≤ vre.natAbs) (seven : 7 ≤ r.rl2) :
    (r.sampleRuns lv vre).rl2Holds = true := by
  have run : (r.sampleRuns lv vre).rl2 = min 8 (r.rl2 + 1) := if_pos (.inl high)
  rw [rl2Holds_iff, run]
  omega

theorem sampleRuns_rl3Holds (low : vre.natAbs < lv.u3) : (r.sampleRuns lv vre).rl3Holds = false := by
  have run : (r.sampleRuns lv vre).rl3 = 0 := if_neg (Nat.not_le.2 low)
  rw [rl3Holds, run]
  rfl

/-- What the commands to RE and their outcomes change of the monitor: its state, the recent-closure list and the hold
timer. -/
def Moves (r s : RailMonitor) : Prop :=
  ∃ state closures holdTimer, s = { r with state := state, closures := closures, holdTimer := holdTimer }

theorem Moves.refl (r : RailMonitor) : r.Moves r := ⟨_, _, _, rfl⟩

theorem Moves.trans (a : r.Moves s) (b : s.Moves t) : r.Moves t := by
  obtain ⟨_, _, _, rfl⟩ := a
  obtain ⟨_, _, _, rfl⟩ := b
  exact ⟨_, _, _, rfl⟩

theorem Moves.runs (moves : r.Moves s) :
    s.rl1 = r.rl1 ∧ s.frameRun = r.frameRun ∧ s.rl1Held = r.rl1Held ∧ s.frameHeld = r.frameHeld := by
  obtain ⟨_, _, _, rfl⟩ := moves
  exact ⟨rfl, rfl, rfl, rfl⟩

theorem Moves.fault (moves : r.Moves s) : s.frameFault = r.frameFault ∧ s.lastFault = r.lastFault := by
  obtain ⟨_, _, _, rfl⟩ := moves
  exact ⟨rfl, rfl⟩

end RailMonitor

/-! ### The recent-closure list (R148) -/

/-- R148: a closure that lies within the window. -/
def Env.remembers (e : Env) (c : Closure) : Bool :=
  decide ((e.time.elapsed - c.elapsed).toNat ≤ e.railLevels.w * 60000)

theorem Env.remembers_now (e : Env) : e.remembers ⟨e.time.elapsed, e.time.stamp⟩ = true := by
  simp [remembers]

theorem closuresAfter_eq (e : Env) (l : List Closure) : closuresAfter e l =
    (l.drop (l.length - 7)).filter e.remembers ++ [⟨e.time.elapsed, e.time.stamp⟩] := by
  have newest : (if 8 ≤ l.length then l.drop (l.length - 7) else l) = l.drop (l.length - 7) := by
    split
    next => rfl
    next few => rw [Nat.sub_eq_zero_of_le (by omega), List.drop_zero]
  show List.filter e.remembers ((if 8 ≤ l.length then l.drop (l.length - 7) else l) ++ _) = _
  rw [newest, List.filter_append, List.filter_cons_of_pos e.remembers_now, List.filter_nil]

theorem closuresAfter_length_le (e : Env) (l : List Closure) : (closuresAfter e l).length ≤ 8 := by
  have kept := (l.drop (l.length - 7)).length_filter_le e.remembers
  rw [closuresAfter_eq, List.length_append, List.length_singleton]
  rw [List.length_drop] at kept
  omega

namespace Plant

variable {e : Env} {p : Plant} {level : Nat} {x : Bool} {o : CommandOutcome}

/-! ### A counted closure (R148) -/

theorem countedClosure_permanent (many : e.railLevels.nrep ≤ (closuresAfter e p.rail.closures).length) :
    p.countedClosure e =
      { p with
        rail :=
          { p.rail with closures := closuresAfter e p.rail.closures, state := .permanent, holdTimer := none }
        unit := JournalUnit.raise e .rail (JournalUnit.post e .rail .railPermanent
          [((closuresAfter e p.rail.closures).length : Int), (e.railLevels.w : Int)]
          (JournalUnit.latchIfNew e .railPermanent p.rail.permanentLive true p.unit)) } := if_pos many

theorem countedClosure_holding (few : (closuresAfter e p.rail.closures).length < e.railLevels.nrep) :
    p.countedClosure e =
      { p with rail := { p.rail with closures := closuresAfter e p.rail.closures }.enterHolding e } :=
  if_neg (Nat.not_le.2 few)

theorem countedClosure_rail_closures : (p.countedClosure e).rail.closures = closuresAfter e p.rail.closures := by
  unfold countedClosure
  dsimp only
  split <;> rfl

theorem countedClosure_feeders : (p.countedClosure e).feeders = p.feeders := by
  unfold countedClosure
  dsimp only
  split <;> rfl

theorem countedClosure_moves : p.rail.Moves (p.countedClosure e).rail := by
  unfold countedClosure
  dsimp only
  split <;> exact ⟨_, _, _, rfl⟩

/-! ### Outcomes of the monitor's commands (R147, R148, R150) -/

theorem railOutcome_closed (closing : p.rail.state = .closing) :
    p.railOutcome e .closing .completed = p.countedClosure e := by
  unfold railOutcome
  rw [closing]

theorem railOutcome_closeFails (closing : p.rail.state = .closing) (fails : o = .failed ∨ o = .wrongState) :
    p.railOutcome e .closing o = p.railCloseFailed e := by
  unfold railOutcome
  rcases fails with rfl | rfl <;> rw [closing]

theorem railOutcome_opened (opening : p.rail.state = .opening x) : p.railOutcome e .opening .completed =
    (p.onRail RailMonitor.enterWatching).postRailOpen e (if x then 1 else 0) := by
  unfold railOutcome
  rw [opening]

theorem railOutcome_openFailed (opening : p.rail.state = .opening x) :
    p.railOutcome e .opening .failed = p.railFailed e := by
  unfold railOutcome
  rw [opening]
  rfl

theorem railCloseFailed_moves : p.rail.Moves (p.railCloseFailed e).rail := ⟨_, _, _, railCloseFailed_rail⟩

/-! ### The close and the opening of RE (R146, R149, R152) -/

/-- What the command that starts a close of RE makes of the plant. -/
structure CloseStarted (e : Env) (level : Nat) (p q : Plant) : Prop where
  rail : q.rail = { p.rail with state := .closing }
  closes : (q.item .re).state = .closing
  flag : q.unit.attention.rail = true
  newest : q.unit.journal.getLast? = some ⟨p.unit.nextIndex, e.time.stamp, .rail, .railClose,
    [(level : Int), if p.rail.watchBelow then 1 else 0, (p.rail.watchPeak : Int)]⟩
  feeders : q.feeders = p.feeders
  rect : q.rect = p.rect

theorem commandRailClose_started (opened : (p.item .re).state = .opened) :
    p.CloseStarted e level (p.commandRailClose e level) := by
  have may : (p.item .re).mayStartClosing = true := Item.mayStartClosing_iff.2 (.inl opened)
  obtain ⟨rail, closes⟩ := commandRailClose_rail (e := e) (level := level) may
  rw [commandRailClose_starts may] at rail closes ⊢
  exact {
    rail := rail
    closes := closes
    flag := JournalUnit.raise_raised .rail _
    newest := (congrArg _ (JournalUnit.raise_journal ..)).trans (JournalUnit.post_last ..)
    feeders := rfl
    rect := rfl }

theorem commandRailClose_closed (closed : (p.item .re).state = .closed) :
    p.commandRailClose e level = (p.closeRefused e level).countedClosure e := by
  unfold commandRailClose
  rw [closeCommand_closed rfl closed]
  rfl

theorem commandRailClose_moves : p.rail.Moves (p.commandRailClose e level).rail := by
  have commanded : p.rail.Moves (p.closeRefused e level).rail := ⟨_, _, _, rfl⟩
  by_cases may : (p.item .re).mayStartClosing = true
  · exact ⟨_, _, _, (commandRailClose_rail may).1⟩
  · by_cases closed : (p.item .re).state = .closed
    · rw [commandRailClose_closed closed]
      exact commanded.trans countedClosure_moves
    · rw [commandRailClose_refused may closed]
      exact commanded.trans railCloseFailed_moves

theorem commandRailOpen_re : ((p.commandRailOpen e x).item .re).state = .opening :=
  openCommand_opens (e := e) (p := p) (c := .railMonitor) rfl

theorem commandRailOpen_others {i : ItemId} (other : i ≠ .re) : (p.commandRailOpen e x).item i = p.item i :=
  item_openCommand_of_ne (e := e) (c := .railMonitor) other

/-! ### The test of the levels (R146) -/

theorem railLevelTest_rl2 (watching : p.rail.state = .watching) (holds : p.rail.rl2Holds = true) :
    p.railLevelTest e = p.commandRailClose e 2 := by
  unfold railLevelTest
  rw [watching]
  exact if_pos holds

theorem railLevelTest_rl1 (watching : p.rail.state = .watching) (below : p.rail.rl2 < 8) (held : p.rail.rl1Held = true) :
    p.railLevelTest e = p.commandRailClose e 1 := by
  unfold railLevelTest
  rw [watching]
  exact (if_neg (mt RailMonitor.rl2Holds_iff.1 (Nat.not_le.2 below))).trans (if_pos held)

theorem railLevelTest_quiet (below : p.rail.rl2 < 8) (notHeld : p.rail.rl1Held = false) : p.railLevelTest e = p := by
  unfold railLevelTest
  rw [if_neg (mt RailMonitor.rl2Holds_iff.1 (Nat.not_le.2 below)), if_neg (Bool.eq_false_iff.1 notHeld)]
  split <;> rfl

theorem railLevelTest_moves : p.rail.Moves (p.railLevelTest e).rail := by
  unfold railLevelTest
  split
  next =>
    split
    next => exact commandRailClose_moves
    next =>
      split
      next => exact commandRailClose_moves
      next => exact .refl _
  all_goals exact .refl _

end Plant

end Sys2Proof.Machine
end

section
/-! PROOFS. The levels RL1 and RL2, the close of RE that they command and its outcomes (O37). -/

namespace Sys2Proof.Machine

namespace Plant

variable {e : Env} {k : FeederId} {p : Plant}

/-! ### A VRE sample below RL3 (R144, R146) -/

theorem railSample_closes (watching : p.rail.state = .watching) (high : e.railLevels.u2 ≤ e.front.latest.vre.natAbs)
    (low : e.front.latest.vre.natAbs < e.railLevels.u3) (seven : 7 ≤ p.rail.rl2) : p.railSample e =
      (p.onRail (RailMonitor.sampleRuns e.railLevels e.front.latest.vre)).commandRailClose e 2 := by
  have noFault : (p.rail.sampleRuns e.railLevels e.front.latest.vre).rl3Holds = false :=
    RailMonitor.sampleRuns_rl3Holds low
  unfold railSample
  dsimp only
  rw [onRail_rail, noFault, Bool.and_false, if_neg Bool.false_ne_true]
  exact railLevelTest_rl2 watching (RailMonitor.sampleRuns_rl2Holds high seven)

/-! ### The completed close (R148) -/

theorem countedClosure_permanent_unit (closing : p.rail.state = .closing)
    (many : e.railLevels.nrep ≤ (closuresAfter e p.rail.closures).length) :
    (p.countedClosure e).unit.latched.get .railPermanent = true ∧
      (p.countedClosure e).unit.attention.get .rail = true ∧
      (p.countedClosure e).unit.journal.getLast? = some ⟨p.unit.nextIndex, e.time.stamp, .rail, .railPermanent,
        [((closuresAfter e p.rail.closures).length : Int), (e.railLevels.w : Int)]⟩ := by
  have fresh : p.rail.permanentLive = false := by
    unfold RailMonitor.permanentLive
    rw [closing]
    rfl
  rw [countedClosure_permanent many, fresh]
  dsimp only
  refine ⟨?_, JournalUnit.raise_raised .., ?_⟩
  · rw [JournalUnit.raise_latched]
    exact JournalUnit.post_latchIfNew_latched ..
  · rw [JournalUnit.raise_journal, JournalUnit.post_last, JournalUnit.latchIfNew_nextIndex]

/-! ### The millisecond event (R143, R153) -/

/-- R143, R153: the plant after the runs of a millisecond event, before they act. -/
def runsCounted (e : Env) (p : Plant) : Plant :=
  p.onRail (RailMonitor.meanRuns e.railLevels (e.front.mean1 .vre) (e.front.mean1 .ire)
    (decide ((p.item .re).sensed = .opened)))

/-- R153: at this millisecond event the frame-current run declares. -/
def FrameDeclares (e : Env) (p : Plant) : Prop :=
  (p.runsCounted e).rail.frameHeld = true ∧ p.rail.frameHeld = false

theorem railMean_declares (declares : p.FrameDeclares e) : p.railMean e =
    ((p.runsCounted e).declareFrameFault e .frameCurrent (e.front.mean1 .ire).natAbs).railLevelTest e := by
  obtain ⟨held, fresh⟩ := declares
  have newly : (!p.rail.frameHeld && (p.runsCounted e).rail.frameHeld) = true := by rw [fresh, held]; rfl
  exact congrArg (railLevelTest e) (if_pos newly)

theorem railMean_rests (rests : ¬ p.FrameDeclares e) : p.railMean e = (p.runsCounted e).railLevelTest e := by
  have notNewly : ¬ (!p.rail.frameHeld && (p.runsCounted e).rail.frameHeld) = true := by
    rw [Bool.and_eq_true, Bool.not_eq_true', and_comm]
    exact rests
  exact congrArg (railLevelTest e) (if_neg notNewly)

theorem declareFrameFault_frameCurrent_rail {value : Nat} : (p.declareFrameFault e .frameCurrent value).rail =
    { p.rail with frameFault := true, lastFault := some ⟨.frameCurrent, value, e.time.stamp⟩ } :=
  frameFaultOrder_rail

theorem railMean_moves (declares : p.FrameDeclares e) : RailMonitor.Moves
    { (p.runsCounted e).rail with
      frameFault := true
      lastFault := some ⟨.frameCurrent, (e.front.mean1 .ire).natAbs, e.time.stamp⟩ } (p.railMean e).rail := by
  rw [railMean_declares declares, ← declareFrameFault_frameCurrent_rail]
  exact railLevelTest_moves

/-- R143, R153: the runs last through what they bring about. -/
theorem railMean_runs : (p.railMean e).rail.rl1 = (p.runsCounted e).rail.rl1 ∧
    (p.railMean e).rail.frameRun = (p.runsCounted e).rail.frameRun ∧
    (p.railMean e).rail.rl1Held = (p.runsCounted e).rail.rl1Held ∧
    (p.railMean e).rail.frameHeld = (p.runsCounted e).rail.frameHeld := by
  by_cases declares : p.FrameDeclares e
  · exact (railMean_moves declares).runs
  · rw [railMean_rests declares]
    exact railLevelTest_moves.runs

/-! ### The failed close (R114, R147) -/

theorem railCloseFailed_trips (holds : 8 ≤ p.rail.rl2) (inService : (p.feeder k).state = .inService) :
    (p.railCloseFailed e).OwnTripped k .railSubstitute (p.feeder k).exit := by
  rw [railCloseFailed_substitutes holds]
  exact (foldl_ownTrip_ownTripped nodup_everyFeeder (FeederId.mem_everyFeeder k) inService).sameAt
    (railFailed_sameAt k _)

theorem railCloseFailed_rests (holds : 8 ≤ p.rail.rl2) (rests : (p.feeder k).state ≠ .inService) :
    (p.railCloseFailed e).feeder k = p.feeder k := by
  rw [railCloseFailed_substitutes holds]
  exact ((foldl_ownTrip_rests nodup_everyFeeder rests).trans (railFailed_sameAt k _)).feeder

end Plant

/-- Settles O37: a level that closes RE, the outcomes of the close and the runs of a millisecond event, each by its rule
above; after the runs, the monitor only moves. -/
theorem railLevelsCloseTheContactor : Obligations.RailLevelsCloseTheContactor := by
  refine ⟨⟨?sample, ?completed⟩, ?mean⟩
  case sample =>
    intro e p v lv r
    refine ⟨rfl, RailMonitor.sampleRuns_rl2, RailMonitor.sampleRuns_watchPeak, rfl,
      fun watching high low seven opened => ?_⟩
    rw [Plant.railSample_closes watching high low seven]
    have started : Plant.CloseStarted e 2 (p.onRail (RailMonitor.sampleRuns lv v)) _ :=
      Plant.commandRailClose_started opened
    exact ⟨congrArg RailMonitor.state started.rail, started.closes, started.flag, started.newest, started.feeders,
      started.rect⟩
  case completed =>
    intro e p closing
    rw [Plant.railOutcome_closed closing]
    intro q lv kept now
    have list : closuresAfter e p.rail.closures = now := closuresAfter_eq ..
    refine ⟨Plant.countedClosure_rail_closures.trans list, list ▸ closuresAfter_length_le ..,
      Plant.countedClosure_items p, Plant.countedClosure_feeders, fun many => ?_, fun few => ?_⟩
    · rw [← list] at many ⊢
      have rail := congrArg Plant.rail (Plant.countedClosure_permanent many)
      exact ⟨congrArg RailMonitor.state rail, congrArg RailMonitor.holdTimer rail,
        Plant.countedClosure_permanent_unit closing many⟩
    · rw [← list] at few
      have held : q = _ := Plant.countedClosure_holding few
      rw [held]
      refine ⟨rfl, congrArg some ?_, rfl⟩
      show e.time.tick + 8 * (1000 * lv.th) = e.time.tick + 8000 * lv.th
      omega
  case mean =>
    intro e p lv q sensedOpen rl1 frame runs declares
    have counted : (p.runsCounted e).rail = runs := by
      simp only [Plant.runsCounted, Plant.onRail_rail, RailMonitor.meanRuns, decide_eq_true_eq]
      rfl
    have declaresIff : p.FrameDeclares e ↔ declares := by
      unfold Plant.FrameDeclares
      rw [counted]
      exact and_congr_left' decide_eq_true_iff
    have rested (rests : ¬ declares) : q = (p.runsCounted e).railLevelTest e :=
      Plant.railMean_rests (mt declaresIff.1 rests)
    obtain ⟨first, current, firstHeld, currentHeld⟩ := Plant.railMean_runs (e := e) (p := p)
    rw [counted] at first current firstHeld currentHeld
    refine ⟨first, current, firstHeld, currentHeld, fun does => (Plant.railMean_moves (declaresIff.2 does)).fault,
      fun rests quiet => ?_, fun rests watching below long opened => ?_, fun o closing fails => ?_⟩
    · have counts : { p with rail := runs } = p.runsCounted e := by
        rw [← counted]
        rfl
      rw [rested rests, counts]
      rcases quiet with state | ⟨below, short⟩
      · exact Plant.railLevelTest_rests state
      · refine Plant.railLevelTest_quiet below ?_
        rw [counted]
        exact decide_eq_false (Nat.not_le.2 short)
    · have held : (p.runsCounted e).rail.rl1Held = true := by
        rw [counted]
        exact decide_eq_true long
      have started : Plant.CloseStarted e 1 (p.runsCounted e) _ := Plant.commandRailClose_started opened
      rw [rested rests, Plant.railLevelTest_rl1 (p := p.runsCounted e) watching below held, ← counted]
      exact ⟨started.rail, started.closes, started.flag, started.newest, started.feeders, started.rect⟩
    · rw [Plant.railOutcome_closeFails closing fails]
      refine ⟨Plant.railCloseFailed_rail, Plant.railCloseFailed_flag, fun below => ?_,
        fun holds k => ⟨fun inService => ?_, Plant.railCloseFailed_rests holds⟩⟩
      · rw [Plant.railCloseFailed_spares (Nat.not_le.2 below)]
        exact ⟨rfl, rfl⟩
      · have tripped := Plant.railCloseFailed_trips (e := e) holds inService
        exact ⟨tripped.state, tripped.lastCause, tripped.reclose⟩

end Sys2Proof.Machine
end

section
/-! PROOFS. The hold timer, Release Earthing and the reports of RE (O38), and Clear Frame Fault (O39). -/

namespace Sys2Proof.Machine

namespace Plant

variable {e : Env} {p : Plant} {new : ItemState} {reason : ReportReason}

/-! ### The hold timer (R149) -/

/-- R149: the hold timer has run out. -/
def holdRunOut (p : Plant) : Plant := p.onRail (fun r => { r with holdTimer := none })

theorem holdExpires_opens (holding : p.rail.state = .holding)
    (below : (e.front.mean20 .ire).natAbs < e.railLevels.ireopen) :
    p.holdRunOut.holdExpires e = p.holdRunOut.commandRailOpen e false := by
  unfold holdExpires holdRunOut
  rw [onRail_rail, holding]
  exact if_pos below

theorem holdExpires_holds (holding : p.rail.state = .holding)
    (above : e.railLevels.ireopen ≤ (e.front.mean20 .ire).natAbs) : p.holdRunOut.holdExpires e =
      { p with rail := { p.rail with holdTimer := some (e.time.after (1000 * e.railLevels.th)) } } := by
  unfold holdExpires holdRunOut
  rw [onRail_rail, holding]
  refine (if_neg (Nat.not_lt.2 above)).trans ?_
  unfold onRail RailMonitor.enterHolding
  rw [← holding]

/-! ### Reports of RE (R151) -/

theorem railReport_closes (watching : p.rail.state = .watching) :
    p.railReport e .closed .discrepancy = (p.postRailClose e 0).onRail (RailMonitor.enterHolding e) := by
  unfold railReport
  rw [watching]

theorem railReport_foundClosed (watching : p.rail.state = .watching) (found : reason = .initial ∨ reason = .resensed) :
    p.railReport e .closed reason = p.onRail (RailMonitor.enterHolding e) := by
  unfold railReport
  rcases found with rfl | rfl <;> rw [watching]

theorem railReport_staysOpen (watching : p.rail.state = .watching) : p.railReport e .opened reason = p := by
  unfold railReport
  rw [watching]

theorem railReport_opens (earthed : p.rail.state = .holding ∨ p.rail.state = .permanent) :
    p.railReport e .opened .discrepancy = (p.onRail RailMonitor.enterWatching).postRailOpen e 2 := by
  unfold railReport
  rcases earthed with state | state <;> rw [state]

theorem railReport_failed_opens (failed : p.rail.state = .failed) (moved : reason = .discrepancy ∨ reason = .late) :
    p.railReport e .opened reason = (p.onRail RailMonitor.enterWatching).postRailOpen e 3 := by
  unfold railReport
  rcases moved with rfl | rfl <;> rw [failed]

theorem railReport_failed_foundOpen (failed : p.rail.state = .failed)
    (found : reason = .initial ∨ reason = .resensed) :
    p.railReport e .opened reason = p.onRail RailMonitor.enterWatching := by
  unfold railReport
  rcases found with rfl | rfl <;> rw [failed]

theorem railReport_failed_closed (failed : p.rail.state = .failed)
    (closed : reason = .discrepancy ∨ reason = .late ∨ reason = .initial ∨ reason = .resensed) :
    p.railReport e .closed reason = p.countedClosure e := by
  unfold railReport
  rcases closed with rfl | rfl | rfl | rfl <;> rw [failed]

theorem railReport_commanded (commanded : p.rail.state = .closing ∨ ∃ x, p.rail.state = .opening x) :
    p.railReport e new reason = p := by
  unfold railReport
  rcases commanded with state | ⟨x, state⟩ <;> rw [state]

theorem railReport_unsensed : p.railReport e .unsensed reason = p := by
  unfold railReport
  cases p.rail.state <;> rfl

theorem railReport_resensed (earthed : p.rail.state = .holding ∨ p.rail.state = .permanent) :
    p.railReport e new .resensed = p := by
  unfold railReport
  rcases earthed with state | state <;> rw [state] <;> cases new <;> rfl

theorem watches_of_postRailOpen {n : Nat} {q : Plant}
    (posted : q = (p.onRail RailMonitor.enterWatching).postRailOpen e n) :
    q.rail = p.rail.enterWatching ∧
      q.unit.journal.getLast? =
        some ⟨p.unit.nextIndex, e.time.stamp, .rail, .railOpen, [(n : Int), (p.rail.closures.length : Int)]⟩ ∧
      q.items = p.items ∧ q.feeders = p.feeders := by
  subst posted
  exact ⟨rfl, JournalUnit.post_last .., rfl, rfl⟩

end Plant

/-! ### The expiry and the requests as steps -/

section
variable {s : State} {head : RequestHead}

theorem exec_railHoldExpiry_due {x : Nat} (running : s.plant.rail.holdTimer = some x) (due : x ≤ s.time.tick) :
    exec .railHoldExpiry s = .next { s with plant := s.plant.holdRunOut.holdExpires s.env } :=
  congrArg _ ((congrArg (fun timer => s.atExpiry timer _) running).trans (State.atExpiry_due _ due))

theorem exec_releaseEarthing {plant : Plant} {reply : List Byte} (atOnce : s.link.takesAtOnce = true)
    (served : serveReleaseEarthing (s.begin head.pins RequestKind.releaseEarthing.code head.tag) =
      ({ s.begin head.pins RequestKind.releaseEarthing.code head.tag with plant := plant }, some reply)) :
    exec (.releaseEarthing head) s = .next (s.repliedWith head .releaseEarthing reply plant) :=
  congrArg _ (State.request_repliedWith (time := s.time) atOnce served)

theorem exec_clearFrameFault {plant : Plant} {reply : List Byte} (atOnce : s.link.takesAtOnce = true)
    (served : serveClearFrameFault (s.begin head.pins RequestKind.clearFrameFault.code head.tag) =
      ({ s.begin head.pins RequestKind.clearFrameFault.code head.tag with plant := plant }, some reply)) :
    exec (.clearFrameFault head) s = .next (s.repliedWith head .clearFrameFault reply plant) :=
  congrArg _ (State.request_repliedWith (time := s.time) atOnce served)

theorem State.mayRelease_iff : s.mayRelease = true ↔
    s.plant.rail.state = .permanent ∧ (s.front.mean20 .ire).natAbs < s.env.railLevels.ireopen := by
  simp [mayRelease]

theorem State.mayClearFrameFault_iff : s.mayClearFrameFault = true ↔
    s.plant.rail.frameFault = true ∧ ¬ (8 ≤ s.plant.rail.rl3 ∨ s.plant.rail.frameHeld = true) := by
  simp [mayClearFrameFault, RailMonitor.rl3Holds, and_assoc]

end

/-- Settles O39: the pins, the condition and its causes in the order in which the request tests them. -/
theorem clearFrameFaultNeedsBothPins : Obligations.ClearFrameFaultNeedsBothPins := by
  intro head s atOnce r holds
  refine ⟨fun noPin => ?_, fun remote key stays => ?_, fun remote key live ceased => ?_⟩
  · refine exec_clearFrameFault atOnce ?_
    by_cases remote : head.pins.remote = true
    · exact (needsRemote_active remote).trans
        (needsKey_inactive (noPin.resolve_left (by simp [remote])))
    · exact needsRemote_inactive (Bool.eq_false_iff.2 remote)
  · have mayNot : ¬ s.mayClearFrameFault = true := by
      rw [State.mayClearFrameFault_iff]
      rintro ⟨live, ceased⟩
      exact stays.elim (fun clear => by rw [live] at clear; contradiction) ceased
    exact exec_clearFrameFault atOnce ((needsRemote_active remote).trans ((needsKey_active key).trans (if_neg mayNot)))
  · have may : s.mayClearFrameFault = true := State.mayClearFrameFault_iff.2 ⟨live, ceased⟩
    refine ⟨(s.plant.clearFrameFault s.env).unit, ?_, JournalUnit.post_last .., ?_⟩
    · exact exec_clearFrameFault atOnce ((needsRemote_active remote).trans ((needsKey_active key).trans (if_pos may)))
    · exact (JournalUnit.post_latched _ _ _ _ .frameFault).trans (if_neg fun overflow => nomatch overflow.1)

/-- Settles O38: the expiry and the release as steps, and each report and outcome by its rule above. -/
theorem earthingIsReleased : Obligations.EarthingIsReleased := by
  refine ⟨⟨⟨?expiry, ?release⟩, ?reports⟩, ?outcome⟩
  case expiry =>
    intro x s holding running due lv
    refine ⟨fun below => ?_, fun above => ?_⟩
    · refine ⟨s.plant.holdRunOut.commandRailOpen s.env false, ?_, rfl, Plant.commandRailOpen_re,
        fun i other => Plant.commandRailOpen_others other, rfl, rfl⟩
      rw [exec_railHoldExpiry_due running due, Plant.holdExpires_opens (e := s.env) holding below]
    · rw [exec_railHoldExpiry_due running due, Plant.holdExpires_holds (e := s.env) holding above]
      rfl
  case release =>
    intro head s atOnce amps may
    refine ⟨fun noRemote => ?_, fun remote mayNot => ?_, fun remote allowed => ?_⟩
    · exact exec_releaseEarthing atOnce (needsRemote_inactive noRemote)
    · exact exec_releaseEarthing atOnce
        ((needsRemote_active remote).trans (if_neg (mt State.mayRelease_iff.1 mayNot)))
    · refine ⟨s.plant.releaseEarthing s.env, ?_, rfl, Plant.commandRailOpen_re (x := true),
        fun i other => Plant.commandRailOpen_others (x := true) other, JournalUnit.post_last .., rfl, rfl⟩
      rw [← leBytes_two]
      exact exec_releaseEarthing atOnce
        ((needsRemote_active remote).trans (if_pos (State.mayRelease_iff.2 allowed)))
  case reports =>
    intro e p lv r holds watches posted initial
    refine ⟨fun watching => ?_, fun earthed => ?_, fun failed => ?_, fun new reason rests => ?_⟩
    · rw [Plant.railReport_closes watching]
      exact ⟨rfl, ⟨JournalUnit.post_last .., rfl⟩, fun reason found =>
        ⟨Plant.railReport_foundClosed watching found, Plant.railReport_staysOpen watching⟩⟩
    · obtain ⟨rail, newest, items, -⟩ := Plant.watches_of_postRailOpen (Plant.railReport_opens (e := e) earthed)
      exact ⟨rail, newest, items⟩
    · refine ⟨fun reason moved => ?_, fun reason found => Plant.railReport_failed_foundOpen failed found,
        fun reason closed => Plant.railReport_failed_closed failed closed⟩
      obtain ⟨rail, newest, items, -⟩ :=
        Plant.watches_of_postRailOpen (Plant.railReport_failed_opens (e := e) failed moved)
      exact ⟨rail, newest, items⟩
    · rcases rests with closing | opening | rfl
      · exact Plant.railReport_commanded (.inl closing)
      · exact Plant.railReport_commanded (.inr opening)
      · exact Plant.railReport_unsensed
  case outcome =>
    intro e p r
    refine ⟨fun x opening => ⟨?_, ?_⟩, fun new earthed => Plant.railReport_resensed earthed⟩
    · have reasonCode : ((if x then 1 else 0 : Nat) : Int) = if x then 1 else 0 := by cases x <;> rfl
      rw [← reasonCode]
      exact Plant.watches_of_postRailOpen (Plant.railOutcome_opened opening)
    · rw [Plant.railOutcome_openFailed opening]
      exact ⟨rfl, JournalUnit.raise_raised .rail _, JournalUnit.raise_journal .., rfl, rfl⟩

end Sys2Proof.Machine
end

section
/-! PROOFS. One rule for each operation of the fault record store: the choice of a slot, the claim, the millisecond
event and the hold. -/

namespace Sys2Proof.Machine

variable {e : Env}

/-! ### Slots (R168, R170) -/

theorem mem_allSlots (n : SlotId) : n ∈ allSlots := by
  fin_cases n <;> simp [allSlots]

/-- The slots after one of them has been written. -/
theorem slots_set (slots : Vector Slot 4) (n m : SlotId) (x : Slot) :
    (slots.set n x)[m] = if m = n then x else slots[m] := by
  simp only [Fin.getElem_fin, Vector.getElem_set, Fin.ext_iff, eq_comm]

namespace Slot

theorem isFree_iff {s : Slot} : s.isFree = true ↔ s = .free := by
  cases s <;> simp [isFree]

theorem isComplete_iff {s : Slot} : s.isComplete = true ↔ ∃ x, s = .complete x := by
  cases s <;> simp [isComplete]

end Slot

/-- R168: a record takes the triple of its feeder, and its capture start with the first. -/
def FaultRecord.grown (e : Env) (x : FaultRecord) : FaultRecord :=
  { x with
    captureStart := some (x.captureStart.getD ⟨e.time.clock, e.time.unsync, decide (e.time.source = .fallback)⟩)
    triples := x.triples ++ [e.front.triple x.feeder] }

theorem FaultRecord.grown_length (x : FaultRecord) : (x.grown e).triples.length = x.triples.length + 1 :=
  List.length_append

/-- R168: a FILLING record grows, and is COMPLETE at its 128th triple. -/
theorem Slot.capture_filling (x : FaultRecord) : (Slot.filling x).capture e =
    if 127 ≤ x.triples.length then .complete (x.grown e) else .filling (x.grown e) := by
  have full : 128 ≤ (x.grown e).triples.length ↔ 127 ≤ x.triples.length := by
    rw [FaultRecord.grown_length]
    omega
  have takes : (Slot.filling x).capture e =
      if 128 ≤ (x.grown e).triples.length then .complete (x.grown e) else .filling (x.grown e) := by
    obtain ⟨_, _, _, _, captureStart, _⟩ := x
    cases captureStart <;> rfl
  rw [takes]
  simp only [full]

/-- R168: the other slots stay. -/
theorem Slot.capture_other {s : Slot} (h : ∀ x, s ≠ .filling x) : s.capture e = s := by
  cases s with
  | filling x => exact absurd rfl (h x)
  | free | complete | held => rfl

theorem Slot.capture_isFree (s : Slot) : (s.capture e).isFree = s.isFree := by
  cases s with
  | filling x => rw [capture_filling]; split <;> rfl
  | free | complete | held => rfl

theorem Slot.capture_held {s : Slot} {x : FaultRecord} : s.capture e = .held x ↔ s = .held x := by
  cases s with
  | filling y => rw [capture_filling]; split <;> simp
  | free | complete | held => rfl

theorem Slot.completesNow_filling (x : FaultRecord) :
    (Slot.filling x).completesNow e = decide (127 ≤ x.triples.length) := by
  rw [completesNow, capture_filling]
  by_cases last : 127 ≤ x.triples.length <;> simp [last, isComplete]

theorem Slot.completesNow_other {s : Slot} (h : ∀ x, s ≠ .filling x) : s.completesNow e = false := by
  rw [completesNow, capture_other h, Bool.not_and_self]

namespace RecordStore

variable {r : RecordStore} {n m : SlotId} {k : FeederId} {snap : Snapshot}

/-! ### The choice and the claim (R167) -/

/-- R167: the lowest FREE slot is chosen. -/
theorem choose_free (free : (r.slots[n]).isFree = true) (lower : ∀ m : SlotId, m < n → (r.slots[m]).isFree = false) :
    r.choose = some n := by
  have found : allSlots.find? (fun m => (r.slots[m]).isFree) = some n := by
    rw [show allSlots = List.finRange 4 from rfl, List.find?_eq_some_iff_getElem]
    refine ⟨free, n, by simp, by simp, fun j before => ?_⟩
    simpa using lower ⟨j, by omega⟩ before
  rw [choose, found]

/-- R167: without a FREE slot, the claim list is searched for a COMPLETE one from its oldest claim on. -/
theorem choose_full (full : ∀ m : SlotId, (r.slots[m]).isFree = false) :
    r.choose = r.claims.find? (fun m => (r.slots[m]).isComplete) := by
  have none_free : allSlots.find? (fun m => (r.slots[m]).isFree) = none :=
    List.find?_eq_none.2 fun m _ => by rw [full m]; exact Bool.false_ne_true
  rw [choose, none_free]

/-- R167: the COMPLETE slot that stands first in the claim list. -/
theorem choose_complete {before after : List SlotId} (full : ∀ m : SlotId, (r.slots[m]).isFree = false)
    (claims : r.claims = before ++ n :: after) (complete : (r.slots[n]).isComplete = true)
    (earlier : ∀ m ∈ before, (r.slots[m]).isComplete = false) : r.choose = some n := by
  rw [choose_full full, claims, List.find?_eq_some_iff_append]
  exact ⟨complete, before, after, rfl, fun m hm => by rw [earlier m hm]; rfl⟩

theorem choose_none (full : ∀ m : SlotId, (r.slots[m]).isFree = false)
    (busy : ∀ n ∈ r.claims, (r.slots[n]).isComplete = false) : r.choose = none := by
  rw [choose_full full, List.find?_eq_none]
  exact fun m hm => by rw [busy m hm]; exact Bool.false_ne_true

/-- R167: the slot chosen is FREE or COMPLETE. -/
theorem choose_spec (h : r.choose = some n) : r.slots[n] = .free ∨ ∃ x, r.slots[n] = .complete x := by
  unfold choose at h
  split at h
  · rename_i found
    cases h
    exact .inl (Slot.isFree_iff.1 (List.find?_some (p := fun m : SlotId => (r.slots[m]).isFree) found))
  · exact .inr (Slot.isComplete_iff.1 (List.find?_some (p := fun m : SlotId => (r.slots[m]).isComplete) h))

/-- R167: the store once a slot is claimed. -/
def claimed (k : FeederId) (snap : Snapshot) (n : SlotId) (r : RecordStore) : RecordStore :=
  { r with
    slots := r.slots.set n (.filling (r.newRecord k snap))
    claims := r.claims.filter (· ≠ n) ++ [n] }

theorem claim_none (h : r.choose = none) : r.claim k snap = (r, none) := by
  rw [claim, h]

theorem claim_some (h : r.choose = some n) : r.claim k snap = (r.claimed k snap n, some n) := by
  rw [claim, h]
  rfl

theorem claim_slot (k : FeederId) (snap : Snapshot) (r : RecordStore) : (r.claim k snap).2 = r.choose := by
  cases h : r.choose with
  | none => rw [claim_none h]
  | some n => rw [claim_some h]

/-! ### The millisecond event (R166, R168) -/

theorem updateRings_get (e : Env) (r : RecordStore) (k : FeederId) :
    (r.updateRings e).get k = (r.rings.get k).drop 1 ++ [e.front.triple k] := by
  rw [updateRings, Six.get_zip]
  cases k <;> rfl

/-- R166, R168: the store after a millisecond event. -/
def millisecond (e : Env) (r : RecordStore) : RecordStore :=
  { r with
    slots := #v[(r.slots[0]).capture e, (r.slots[1]).capture e, (r.slots[2]).capture e, (r.slots[3]).capture e]
    rings := r.updateRings e }

theorem millisecond_slots (e : Env) (r : RecordStore) (n : SlotId) :
    (r.millisecond e).slots[n] = (r.slots[n]).capture e := by
  fin_cases n <;> rfl

/-! ### The hold (R169, R170, R171) -/

theorem releaseHold_held {due : Nat} {x : FaultRecord} (hold : r.hold = some (n, due)) (held : r.slots[n] = .held x) :
    r.releaseHold = { r with slots := r.slots.set n (.complete x), hold := none } := by
  simp only [releaseHold, hold, held, Slot.unhold]

/-- R169: reading a piece of a slot ends a hold on another one. -/
def releaseOther (n : SlotId) (r : RecordStore) : RecordStore :=
  match r.hold with
  | some (m, _) => if m = n then r else r.releaseHold
  | none => r

theorem releaseOther_other {due : Nat} (hold : r.hold = some (m, due)) (other : m ≠ n) :
    r.releaseOther n = r.releaseHold := by
  simp only [releaseOther, hold, if_neg other]

theorem releaseOther_same {due : Nat} (hold : r.hold = some (n, due)) : r.releaseOther n = r := by
  simp only [releaseOther, hold, if_true]

theorem releaseOther_none (hold : r.hold = none) : r.releaseOther n = r := by
  simp only [releaseOther, hold]

theorem releaseOther_claims (n : SlotId) (r : RecordStore) : (r.releaseOther n).claims = r.claims := by
  unfold releaseOther releaseHold
  split
  · split
    · rfl
    · split <;> rfl
  · rfl

theorem releaseOther_rings (n : SlotId) (r : RecordStore) : (r.releaseOther n).rings = r.rings := by
  unfold releaseOther releaseHold
  split
  · split
    · rfl
    · split <;> rfl
  · rfl

/-- R169: a hold on another slot ends, and the slot itself stays. -/
theorem releaseOther_slots (n m : SlotId) (r : RecordStore) : (r.releaseOther n).slots[m] =
    if m ≠ n ∧ r.hold.map Prod.fst = some m then (r.slots[m]).unhold else r.slots[m] := by
  cases hold : r.hold with
  | none => simp [releaseOther_none hold]
  | some h =>
    obtain ⟨l, due⟩ := h
    by_cases own : l = n
    · subst own
      rw [releaseOther_same hold, if_neg]
      rintro ⟨other, held⟩
      exact other (Option.some.inj held).symm
    · have released : r.releaseOther n = { r with slots := r.slots.set l (r.slots[l]).unhold, hold := none } := by
        rw [releaseOther_other hold own, releaseHold, hold]
      rw [released, slots_set]
      by_cases here : m = l
      · subst here
        rw [if_pos rfl, if_pos ⟨own, rfl⟩]
      · rw [if_neg here, if_neg]
        rintro ⟨-, held⟩
        exact here (Option.some.inj held).symm

/-- R169: what reading a piece does to its own slot. -/
def readHere (e : Env) (n : SlotId) (last : Bool) (r : RecordStore) : RecordStore :=
  match r.slots[n] with
  | .complete x | .held x =>
    if last then { r with slots := r.slots.set n (.complete x), hold := none }
    else { r with slots := r.slots.set n (.held x), hold := some (n, e.time.after 2000) }
  | .free | .filling _ => r

theorem readPiece_eq (e : Env) (n : SlotId) (last : Bool) (r : RecordStore) :
    r.readPiece e n last = (r.releaseOther n).readHere e n last := rfl

theorem readHere_record {x : FaultRecord} (last : Bool) (h : r.slots[n] = .complete x ∨ r.slots[n] = .held x) :
    r.readHere e n last =
      { r with
        slots := r.slots.set n (if last then .complete x else .held x)
        hold := if last then none else some (n, e.time.after 2000) } := by
  unfold readHere
  rcases h with h | h <;> rw [h] <;> cases last <;> rfl

theorem readHere_noRecord {last : Bool} (h : r.slots[n] = .free ∨ ∃ x, r.slots[n] = .filling x) :
    r.readHere e n last = r := by
  unfold readHere
  rcases h with h | ⟨x, h⟩ <;> rw [h]

/-- R169: a record that is read is held, and after its last piece COMPLETE; a hold on another slot has ended. -/
theorem readPiece_record {x : FaultRecord} (last : Bool) (h : r.slots[n] = .complete x ∨ r.slots[n] = .held x) :
    r.readPiece e n last =
      { r.releaseOther n with
        slots := (r.releaseOther n).slots.set n (if last then .complete x else .held x)
        hold := if last then none else some (n, e.time.after 2000) } := by
  have stays : (r.releaseOther n).slots[n] = r.slots[n] :=
    (releaseOther_slots n n r).trans (if_neg fun other => other.1 rfl)
  rw [readPiece_eq]
  exact readHere_record last (by rwa [stays])

/-- R171: a slot that is freed leaves the claim list, and a hold on it ends. -/
theorem freeSlot_eq (n : SlotId) (r : RecordStore) : r.freeSlot n =
    { r with
      slots := r.slots.set n .free
      claims := r.claims.filter (fun m => m ≠ n)
      hold := if r.hold.map Prod.fst = some n then none else r.hold } := by
  obtain ⟨slots, claims, hold, rings⟩ := r
  cases hold with
  | none => rfl
  | some h => simp [freeSlot]

end RecordStore

end Sys2Proof.Machine
end

section
/-! PROOFS. The law of the records (O47). -/

namespace Sys2Proof.Machine

variable {e : Env}

/-- The law of the records, of the store. -/
structure RecordStore.Lawful (r : RecordStore) : Prop where
  once : r.claims.Nodup
  claims : ∀ n : SlotId, n ∈ r.claims ↔ (r.slots[n]).isFree = false
  held : ∀ n : SlotId, (∃ x, r.slots[n] = .held x) ↔ ∃ due, r.hold = some (n, due)
  slots : ∀ n : SlotId, (r.slots[n]).lawful
  rings : ∀ k, (r.rings.get k).length = 32

theorem State.recordLaw_iff (s : State) : s.recordLaw ↔ s.plant.records.Lawful :=
  ⟨fun ⟨once, claims, held, slots, rings⟩ => ⟨once, claims, held, slots, rings⟩,
    fun ⟨once, claims, held, slots, rings⟩ => ⟨once, claims, held, slots, rings⟩⟩

/-- R168: a record grows to its 128th triple and not beyond. -/
theorem Slot.lawful_capture {s : Slot} (h : s.lawful) : (s.capture e).lawful := by
  cases s with
  | filling x =>
    obtain ⟨least, most⟩ := h
    have count := x.grown_length (e := e)
    rw [capture_filling]
    split
    · show (x.grown e).triples.length = 128
      omega
    · show 32 ≤ (x.grown e).triples.length ∧ (x.grown e).triples.length < 128
      omega
  | free | complete | held => exact h

namespace RecordStore

variable {r : RecordStore} {n : SlotId}

/-- The law where one slot is written: the claim list names the slot as it now is, and so does the hold. -/
theorem Lawful.write (law : r.Lawful) {x : Slot} {claims : List SlotId} {hold : Option (SlotId × Nat)}
    (lawful : x.lawful) (once : claims.Nodup)
    (claimed : ∀ m, m ∈ claims ↔ if m = n then x.isFree = false else m ∈ r.claims)
    (held : ∀ m, (∃ due, hold = some (m, due)) ↔ if m = n then ∃ y, x = .held y else ∃ due, r.hold = some (m, due)) :
    Lawful { r with slots := r.slots.set n x, claims := claims, hold := hold } where
  once := once
  claims m := by
    rw [slots_set, claimed]
    split
    · rfl
    · exact law.claims m
  held m := by
    rw [slots_set, held]
    split
    · rfl
    · exact law.held m
  slots m := by
    rw [slots_set]
    split
    · exact lawful
    · exact law.slots m
  rings := law.rings

/-- A slot that keeps its place in the claim list. -/
theorem Lawful.rewrite (law : r.Lawful) {x : Slot} {hold : Option (SlotId × Nat)} (lawful : x.lawful)
    (taken : (r.slots[n]).isFree = false) (stays : x.isFree = false)
    (held : ∀ m, (∃ due, hold = some (m, due)) ↔ if m = n then ∃ y, x = .held y else ∃ due, r.hold = some (m, due)) :
    Lawful { r with slots := r.slots.set n x, hold := hold } := by
  refine law.write lawful law.once (fun m => ?_) held
  split
  · rename_i same
    rw [same, law.claims]
    exact iff_of_true taken stays
  · rfl

/-- R167: a slot that is not HELD is not the one the hold names. -/
theorem Lawful.not_held (law : r.Lawful) (h : ∀ x, r.slots[n] ≠ .held x) (due : Nat) : r.hold ≠ some (n, due) :=
  fun hold => by
    obtain ⟨x, isHeld⟩ := (law.held n).2 ⟨due, hold⟩
    exact h x isHeld

/-! ### The claim and the millisecond event (R166 to R168) -/

theorem Lawful.claimed (law : r.Lawful) (k : FeederId) (snap : Snapshot) (chosen : r.choose = some n) :
    (r.claimed k snap n).Lawful := by
  have notHeld (x : FaultRecord) : r.slots[n] ≠ .held x := by
    rcases choose_spec chosen with free | ⟨y, complete⟩
    · rw [free]
      nofun
    · rw [complete]
      nofun
  have once : (r.claims.filter (· ≠ n) ++ [n]).Nodup := by
    rw [← List.concat_eq_append]
    exact (law.once.filter _).concat (by simp)
  refine law.write ?_ once (fun m => ?_) (fun m => ?_)
  · show 32 ≤ (r.rings.get k).length ∧ (r.rings.get k).length < 128
    rw [law.rings k]
    omega
  · by_cases same : m = n <;> simp [same, Slot.isFree]
  · split
    · rename_i same
      subst same
      exact iff_of_false (fun ⟨due, hold⟩ => law.not_held notHeld due hold) (by simp)
    · rfl

theorem Lawful.claim (law : r.Lawful) (k : FeederId) (snap : Snapshot) : (r.claim k snap).1.Lawful := by
  cases chosen : r.choose with
  | none => rwa [claim_none chosen]
  | some n => rw [claim_some chosen]; exact law.claimed k snap chosen

theorem Lawful.millisecond (law : r.Lawful) (e : Env) : (r.millisecond e).Lawful where
  once := law.once
  claims n := by rw [millisecond_slots, Slot.capture_isFree]; exact law.claims n
  held n := by simp only [millisecond_slots, Slot.capture_held]; exact law.held n
  slots n := by rw [millisecond_slots]; exact Slot.lawful_capture (law.slots n)
  rings k := by
    have ring := law.rings k
    show ((r.updateRings e).get k).length = 32
    rw [updateRings_get, List.length_append, List.length_drop, List.length_singleton]
    omega

/-! ### The hold (R169 to R171) -/

theorem Lawful.releaseHold (law : r.Lawful) : r.releaseHold.Lawful := by
  cases hold : r.hold with
  | none => rwa [RecordStore.releaseHold, hold]
  | some h =>
    obtain ⟨n, due⟩ := h
    obtain ⟨x, held⟩ := (law.held n).2 ⟨due, hold⟩
    have full := law.slots n
    rw [held] at full
    rw [releaseHold_held hold held]
    refine law.rewrite full (by rw [held]; rfl) rfl fun m => ?_
    split
    · simp
    · rename_i other
      exact iff_of_false (by simp) fun ⟨_, same⟩ => other (congrArg Prod.fst (Option.some.inj (same.symm.trans hold)))

theorem Lawful.releaseOther (law : r.Lawful) (n : SlotId) : (r.releaseOther n).Lawful := by
  unfold RecordStore.releaseOther
  split
  · split
    · exact law
    · exact law.releaseHold
  · exact law

/-- R169: after a hold on another slot has ended, the slot is held or none is. -/
theorem releaseOther_hold (r : RecordStore) (n m : SlotId) (due : Nat)
    (h : (r.releaseOther n).hold = some (m, due)) : m = n := by
  cases hold : r.hold with
  | none =>
    rw [releaseOther_none hold, hold] at h
    cases h
  | some x =>
    obtain ⟨l, d⟩ := x
    by_cases same : l = n
    · subst same
      rw [releaseOther_same hold, hold] at h
      cases h
      rfl
    · rw [releaseOther_other hold same, RecordStore.releaseHold, hold] at h
      cases h

theorem Lawful.readPiece (law : r.Lawful) (e : Env) (n : SlotId) (last : Bool) : (r.readPiece e n last).Lawful := by
  have released := law.releaseOther n
  have full := released.slots n
  have only := releaseOther_hold r n
  rw [readPiece_eq]
  have read {x : FaultRecord} (h : (r.releaseOther n).slots[n] = .complete x ∨ (r.releaseOther n).slots[n] = .held x) :
      ((r.releaseOther n).readHere e n last).Lawful := by
    have length : x.triples.length = 128 := by
      rcases h with h | h <;> rwa [h] at full
    have elsewhere {m : SlotId} (other : m ≠ n) : ¬ ∃ due, (r.releaseOther n).hold = some (m, due) :=
      fun ⟨due, hold⟩ => other (only m due hold)
    rw [readHere_record last h]
    refine released.rewrite (by cases last <;> exact length) (by rcases h with h | h <;> rw [h] <;> rfl)
      (by cases last <;> rfl) fun m => ?_
    by_cases same : m = n
    · subst same
      cases last <;> simp
    · rw [if_neg same]
      refine iff_of_false (fun ⟨due, hold⟩ => same ?_) (elsewhere same)
      cases last with
      | true => cases hold
      | false => exact (congrArg Prod.fst (Option.some.inj hold)).symm
  cases slot : (r.releaseOther n).slots[n] with
  | free => rwa [readHere_noRecord (.inl slot)]
  | filling x => rwa [readHere_noRecord (.inr ⟨x, slot⟩)]
  | complete x => exact read (.inl slot)
  | held x => exact read (.inr slot)

theorem Lawful.freeSlot (law : r.Lawful) (n : SlotId) : (r.freeSlot n).Lawful := by
  rw [freeSlot_eq]
  refine law.write trivial (law.once.filter _) (fun m => ?_) (fun m => ?_)
  · by_cases same : m = n <;> simp [same, Slot.isFree]
  · by_cases own : r.hold.map Prod.fst = some n
    · rw [if_pos own]
      split
      · simp
      · rename_i other
        refine iff_of_false (by simp) fun ⟨due, hold⟩ => other ?_
        rw [hold] at own
        exact Option.some.inj own
    · rw [if_neg own]
      split
      · rename_i same
        subst same
        exact iff_of_false (fun ⟨due, hold⟩ => own (by rw [hold]; rfl)) (by simp)
      · rfl

/-! ### The resets (R173) -/

theorem lawful_reset : RecordStore.reset.Lawful := (State.recordLaw_iff State.reset).1 recordLaw_reset

theorem Lawful.afterReset (law : r.Lawful) : r.afterReset.Lawful where
  once := by
    rw [afterReset_claims]
    exact law.once.filter _
  claims n := by
    rw [afterReset_claims, List.mem_filter, law.claims, afterReset_slots]
    cases r.slots[n] <;> simp [Slot.afterReset, Slot.isFree]
  held n := by
    rw [afterReset_slots]
    refine iff_of_false ?_ nofun
    rintro ⟨x, held⟩
    cases slot : r.slots[n] <;> rw [slot] at held <;> cases held
  slots n := by
    have before := law.slots n
    rw [afterReset_slots]
    cases slot : r.slots[n] with
    | free | filling => trivial
    | complete | held => rwa [slot] at before
  rings k := congrArg List.length (Six.get_all (List.replicate 32 (⟨0, 0, 0⟩ : Triple)) k)

end RecordStore

theorem Plant.joinPending_records (k : FeederId) (p : Plant) : (p.joinPending e k).records = p.records := by
  unfold joinPending retardEntry
  dsimp only
  (repeat' split) <;> rfl

theorem Plant.leavePending_records (k : FeederId) (p : Plant) : (p.leavePending e k).records = p.records := by
  unfold leavePending retardExit
  dsimp only
  (repeat' split) <;> rfl

/-- R166 to R168: of the small changes, the claim and the capture touch the records. -/
theorem kept_recordLaw (e : Env) : Kept e (fun _ p => p.records.Lawful) where
  weaken _ h := h
  post _ _ _ h := h
  raise _ h := h
  latch _ h := h
  claim k snap h := h.claim k snap
  disc _ _ h _ := h
  heat _ _ h := h
  seq _ _ h _ := h
  lock _ _ h _ := h
  join k _ _ h := by rwa [Plant.joinPending_records]
  leave k h _ := by rwa [Plant.leavePending_records]
  item _ _ h _ := h
  itemFails _ _ h := h
  itemUnsensed _ _ h _ _ := h
  rect _ h _ _ := h
  rectTrips _ h _ := h
  rail _ h _ _ := h
  railPermanent _ h _ := h
  frameFault _ h _ := h
  tracker _ h := h
  trackerQuiet _ h _ := h
  capture h := h.millisecond e

/-- The law of the records is a law of the plant. -/
theorem plantLaw_recordLaw : PlantLaw (fun _ p => p.records.Lawful) where
  kept := kept_recordLaw
  unit _ h := h
  records change h := by
    cases change with
    | readPiece n last => exact h.readPiece _ n last
    | freeSlot n => exact h.freeSlot n
    | releaseHold => exact h.releaseHold
  powerOn _ _ := RecordStore.lawful_reset
  warmReset _ _ _ h := h.afterReset

/-- Settles O47: by the principle of the plant, since each operation of the fault record store keeps the law. -/
theorem recordLawIsKept : Obligations.RecordLawIsKept := by
  intro s t law stepped
  rw [State.recordLaw_iff] at law ⊢
  exact plantLaw_recordLaw.step law stepped

end Sys2Proof.Machine
end

section
/-! PROOFS. The claims and the capture of fault records (O44). -/

namespace Sys2Proof.Machine

variable {e : Env} {p : Plant}

/-! ### The millisecond event (R166, R168) -/

namespace Plant

/-- R168: some record becomes COMPLETE at this millisecond event. -/
def completesRecord (e : Env) (p : Plant) : Bool := allSlots.any (fun n => (p.records.slots[n]).completesNow e)

theorem recordMean_eq (e : Env) (p : Plant) : p.recordMean e =
    if p.completesRecord e then Plant.raise e .record { p with records := p.records.millisecond e }
    else { p with records := p.records.millisecond e } := rfl

theorem completesRecord_of_last {n : SlotId} {x : FaultRecord} (filling : p.records.slots[n] = .filling x)
    (last : 127 ≤ x.triples.length) : p.completesRecord e = true := by
  refine List.any_eq_true.2 ⟨n, mem_allSlots n, ?_⟩
  rw [filling, Slot.completesNow_filling, decide_eq_true last]

theorem completesRecord_of_before
    (before : ∀ (n : SlotId) (x : FaultRecord), p.records.slots[n] = .filling x → x.triples.length < 127) :
    p.completesRecord e = false := by
  refine List.any_eq_false.2 fun n _ => ?_
  have rests : (p.records.slots[n]).completesNow e = false := by
    cases slot : p.records.slots[n] with
    | filling x => rw [Slot.completesNow_filling, decide_eq_false (Nat.not_le.2 (before n x slot))]
    | free | complete | held => exact Slot.completesNow_other (by simp)
  exact Bool.eq_false_iff.1 rests

theorem recordMean_records (e : Env) (p : Plant) : (p.recordMean e).records = p.records.millisecond e := by
  rw [recordMean_eq]
  split <;> rfl

/-- R166, R168: the event touches the records and the attention flags alone. -/
theorem recordMean_keeps (e : Env) (p : Plant) : (p.recordMean e).feeders = p.feeders ∧
    (p.recordMean e).items = p.items ∧ (p.recordMean e).rect = p.rect ∧ (p.recordMean e).rail = p.rail := by
  rw [recordMean_eq]
  split <;> exact ⟨rfl, rfl, rfl, rfl⟩

end Plant

/-- Settles O44: the choice and the claim case by case, and the millisecond event slot by slot. -/
theorem claimsTakeFreeSlotsFirst : Obligations.ClaimsTakeFreeSlotsFirst := by
  refine ⟨fun k snap r => ⟨fun n free lower => ?_, fun full => ⟨fun before after n claims complete earlier => ?_,
    fun busy => ?_⟩, fun n taken => ?_⟩, fun e p => ?_⟩
  · rw [RecordStore.claim_slot, RecordStore.choose_free free lower]
  · rw [RecordStore.claim_slot, RecordStore.choose_complete full claims complete earlier]
  · exact RecordStore.claim_none (RecordStore.choose_none full busy)
  · rw [RecordStore.claim_slot] at taken
    rw [RecordStore.claim_some taken]
    refine ⟨?_, fun m other => ?_, ⟨r.claims.filter (· ≠ n), rfl, by simp, by simp⟩, rfl, rfl⟩
    · exact (slots_set ..).trans (if_pos rfl)
    · exact (slots_set ..).trans (if_neg other)
  · intro q triple grown
    have records : q.records = p.records.millisecond e := p.recordMean_records e
    rw [records]
    refine ⟨p.records.updateRings_get e, rfl, rfl, fun n x filling => ⟨?_, fun last => ?_⟩, fun n other => ?_,
      fun before => ?_, p.recordMean_keeps e⟩
    · rw [RecordStore.millisecond_slots, filling]
      exact Slot.capture_filling x
    · have raised : q = Plant.raise e .record { p with records := p.records.millisecond e } :=
        if_pos (Plant.completesRecord_of_last filling last)
      rw [raised]
      exact (JournalUnit.raise_attention p.unit .record .record).trans (if_pos rfl)
    · rw [RecordStore.millisecond_slots, Slot.capture_other other]
    · have quiet : q = { p with records := p.records.millisecond e } :=
        if_neg (Bool.eq_false_iff.1 (Plant.completesRecord_of_before before))
      rw [quiet]

end Sys2Proof.Machine
end

section
/-! PROOFS. Read Record Piece with the hold on a record (O45), and Free Record (O46). -/

namespace Sys2Proof.Machine

/-! ### The operands of the record requests (R169, R171, R213) -/

theorem slotOfByte_number {b : Byte} {n : SlotId} (h : b.toNat = n.val) : slotOfByte b = some n := by
  have named : b.toNat < 4 := h ▸ n.isLt
  rw [slotOfByte, dif_pos named]
  exact congrArg some (Fin.ext h)

theorem slotOfByte_outside {b : Byte} (h : 3 < b.toNat) : slotOfByte b = none := dif_neg (by omega)

theorem leBytes_byte {b : Byte} {n : Nat} (h : b.toNat = n) : leBytes 1 (n : Int) = [b] := by
  simp [leBytes, ← h]

/-- R213: the header of piece 0 has 38 bytes. -/
theorem FaultRecord.header_length (x : FaultRecord) : x.header.length = 38 := by
  unfold header
  cases x.captureStart <;> simp [leBytes_length, flagByte, packFlags]

/-- R213: it begins with the feeder and the cause. -/
theorem FaultRecord.header_take (x : FaultRecord) :
    x.header.take 2 = [BitVec.ofNat 8 x.feeder.number, BitVec.ofNat 8 x.cause.code] := by
  simp [header, leBytes]

/-! ### Read Record Piece (R169, R213) -/

section
variable {s : State} {head : RequestHead} {a b : Byte} {n : SlotId}

theorem exec_readRecordPiece {plant : Plant} {reply : List Byte} (atOnce : s.link.takesAtOnce = true)
    (served : serveReadRecordPiece a b (s.begin head.pins RequestKind.readRecordPiece.code head.tag) =
      ({ s.begin head.pins RequestKind.readRecordPiece.code head.tag with plant := plant }, some reply)) :
    exec (.readRecordPiece head a b) s = .next (s.repliedWith head .readRecordPiece reply plant) :=
  congrArg _ (State.request_repliedWith (time := s.time) atOnce served)

theorem serveReadRecordPiece_badValue (h : 3 < a.toNat ∨ 7 < b.toNat) :
    serveReadRecordPiece a b s = answered (refusal .badValue) s := by
  unfold serveReadRecordPiece
  split
  · rfl
  · rename_i n named
    have slot : ¬ 3 < a.toNat := fun above => by
      rw [slotOfByte_outside above] at named
      cases named
    exact if_pos (h.resolve_left slot)

theorem serveReadRecordPiece_notReady (number : a.toNat = n.val) (piece : b.toNat ≤ 7)
    (h : s.plant.records.slots[n] = .free ∨ ∃ x, s.plant.records.slots[n] = .filling x) :
    serveReadRecordPiece a b s = answered (refusal .notReady) s := by
  unfold serveReadRecordPiece
  rw [slotOfByte_number number]
  refine (if_neg (Nat.not_lt.2 piece)).trans ?_
  rcases h with h | ⟨x, h⟩ <;> simp only [h]

theorem serveReadRecordPiece_record {x : FaultRecord} (number : a.toNat = n.val) (piece : b.toNat ≤ 7)
    (h : s.plant.records.slots[n] = .complete x ∨ s.plant.records.slots[n] = .held x) :
    serveReadRecordPiece a b s = s.readPiece n b.toNat x := by
  unfold serveReadRecordPiece
  rw [slotOfByte_number number]
  refine (if_neg (Nat.not_lt.2 piece)).trans ?_
  rcases h with h | h <;> simp only [h]

/-- R213: the bytes of a piece's reply. -/
theorem pieceReply_eq (number : a.toNat = n.val) (x : FaultRecord) :
    pieceReply n b.toNat (if decide (b.toNat = 7) then .complete x else .held x) x =
      0 :: a :: b :: (if b.toNat = 7 then 2 else 3) ::
        ((if b.toNat = 0 then x.header else []) ++ ((x.piece b.toNat).map Triple.bytes).flatten) := by
  rw [pieceReply, leBytes_byte number, leBytes_byte rfl]
  by_cases last : b.toNat = 7 <;> simp [last, okReply, leBytes, Slot.code, Status.code]

/-- R170: the hold timer has run out. -/
theorem exec_recordHoldExpiry_due {due : Nat} (hold : s.plant.records.hold = some (n, due))
    (runOut : due ≤ s.time.tick) :
    exec .recordHoldExpiry s = .next { s with plant := { s.plant with records := s.plant.records.releaseHold } } := by
  have runs : s.plant.records.holdExpiry = some due := by rw [RecordStore.holdExpiry, hold]; rfl
  exact congrArg _ ((congrArg (fun timer => s.atExpiry timer _) runs).trans (State.atExpiry_due _ runOut))

end

/-- Settles O45: the refusals, the piece that is read with what it does to each slot, and the expiry of the hold. -/
theorem recordPiecesHoldTheRecord : Obligations.RecordPiecesHoldTheRecord := by
  refine ⟨fun head a b s atOnce => ⟨fun outside => ?_, fun n number piece absent => ?_,
    fun n x number piece present => ?_⟩, fun n due x s hold held runOut => ?_⟩
  · exact exec_readRecordPiece atOnce (serveReadRecordPiece_badValue outside)
  · refine exec_readRecordPiece atOnce (serveReadRecordPiece_notReady number piece (absent.imp_left fun none => ?_))
    show s.plant.records.slots[n] = .free
    cases slot : s.plant.records.slots[n] with
    | free => rfl
    | filling | complete | held => rw [slot] at none; cases none
  · intro two triples
    let r := s.plant.records.readPiece s.env n (decide (b.toNat = 7))
    have read : r = _ := RecordStore.readPiece_record (e := s.env) (decide (b.toNat = 7)) present
    have self : r.slots[n] = if decide (b.toNat = 7) then .complete x else .held x := by
      rw [read]
      exact (slots_set ..).trans (if_pos rfl)
    have reply := pieceReply_eq (b := b) number x
    rw [← self] at reply
    refine ⟨if b.toNat = 0 then x.header else [], r, ?_, fun later => if_neg later, fun first => ?_, ?_, ?_,
      fun last => ?_, fun before => ?_, fun m other => ?_⟩
    · refine exec_readRecordPiece atOnce ((serveReadRecordPiece_record
        (s := s.begin head.pins RequestKind.readRecordPiece.code head.tag) number piece present).trans ?_)
      exact congrArg (fun bytes => (_, some bytes)) reply
    · rw [if_pos first]
      exact ⟨rfl, x.header_length, x.header_take⟩
    · rw [read]
      exact RecordStore.releaseOther_claims ..
    · rw [read]
      exact RecordStore.releaseOther_rings ..
    · rw [self, read]
      simp [last]
    · have notLast : b.toNat ≠ 7 := by omega
      rw [self, read]
      simp [notLast, TimeBase.after]
    · rw [read]
      refine (slots_set ..).trans ((if_neg other).trans ((RecordStore.releaseOther_slots ..).trans ?_))
      simp only [other, ne_eq, not_false_eq_true, true_and]
  · rw [exec_recordHoldExpiry_due hold runOut, RecordStore.releaseHold_held hold held]

/-! ### Free Record (R171) -/

section
variable {s : State} {head : RequestHead} {a : Byte} {n : SlotId}

theorem exec_freeRecord {plant : Plant} {reply : List Byte} (atOnce : s.link.takesAtOnce = true)
    (served : serveFreeRecord a (s.begin head.pins RequestKind.freeRecord.code head.tag) =
      ({ s.begin head.pins RequestKind.freeRecord.code head.tag with plant := plant }, some reply)) :
    exec (.freeRecord head a) s = .next (s.repliedWith head .freeRecord reply plant) :=
  congrArg _ (State.request_repliedWith (time := s.time) atOnce served)

theorem serveFreeRecord_badValue (outside : 3 < a.toNat) :
    serveFreeRecord a s = answered (refusal .badValue) s := by
  rw [serveFreeRecord, slotOfByte_outside outside]

theorem serveFreeRecord_filling {x : FaultRecord} (number : a.toNat = n.val)
    (filling : s.plant.records.slots[n] = .filling x) : serveFreeRecord a s = answered (refusal .wrongState) s := by
  simp only [serveFreeRecord, slotOfByte_number number, filling]

theorem serveFreeRecord_free (number : a.toNat = n.val) (free : s.plant.records.slots[n] = .free) :
    serveFreeRecord a s = answered (freeReply n) s := by
  simp only [serveFreeRecord, slotOfByte_number number, free]

theorem serveFreeRecord_record {x : FaultRecord} (number : a.toNat = n.val)
    (h : s.plant.records.slots[n] = .complete x ∨ s.plant.records.slots[n] = .held x) : serveFreeRecord a s =
      (s.onPlant (fun _ p => { p with records := p.records.freeSlot n }), some (freeReply n)) := by
  rcases h with h | h <;> simp only [serveFreeRecord, slotOfByte_number number, h]

theorem freeReply_eq (number : a.toNat = n.val) : freeReply n = [0, a, 0] := by
  rw [freeReply, leBytes_byte number]
  rfl

end

/-- Settles O46: the request by the state of the slot that it names. -/
theorem freeRecordDiscardsAReadRecord : Obligations.FreeRecordDiscardsAReadRecord := by
  refine fun head a s atOnce => ⟨fun outside => ?_, fun n number => ⟨fun x filling => ?_, fun free => ?_,
    fun x present => ?_⟩⟩
  · exact exec_freeRecord atOnce (serveFreeRecord_badValue outside)
  · exact exec_freeRecord atOnce (serveFreeRecord_filling number filling)
  · rw [← freeReply_eq number]
    exact exec_freeRecord atOnce (serveFreeRecord_free number free)
  · rw [← freeReply_eq number, ← RecordStore.freeSlot_eq]
    exact exec_freeRecord atOnce (serveFreeRecord_record number present)

end Sys2Proof.Machine
end

section
/-! PROOFS. The energy unit: one rule for each of its operations, and what a sample instant, the expiries of the pulse
output and Clear Energy make of it (O42, O43). -/

namespace Sys2Proof.Machine

/-! ### Counting (R159, R160) -/

theorem addEnergy_le_top (counter added : Nat) : addEnergy counter added ≤ energyTop := Nat.min_le_left ..

theorem le_addEnergy {counter : Nat} (h : counter ≤ energyTop) (added : Nat) : counter ≤ addEnergy counter added :=
  Nat.le_min.2 ⟨h, Nat.le_add_right ..⟩

namespace Energy

variable {en : Energy} {e : Env} {t : TimeBase} {icreep : Nat} {f : FrontEnd}

theorem accumulate_plus (k : FeederId) : (en.accumulate icreep f).plus.get k =
    addEnergy (en.plus.get k) (energyPlus icreep (f.mean1 .vbus) (f.mean1 (.feederCurrent k))) := by
  rw [accumulate, Six.get_zip]
  cases k <;> rfl

theorem accumulate_minus (k : FeederId) : (en.accumulate icreep f).minus.get k =
    addEnergy (en.minus.get k) (energyMinus icreep (f.mean1 .vbus) (f.mean1 (.feederCurrent k))) := by
  rw [accumulate, Six.get_zip]
  cases k <;> rfl

/-! ### The credit and the pulses (R162, R163) -/

/-- The kWh credit and the pulse output leave the counters alone. -/
structure SameCounters (a b : Energy) : Prop where
  plus : b.plus = a.plus
  minus : b.minus = a.minus
  rectPlus : b.rectPlus = a.rectPlus
  rectMinus : b.rectMinus = a.rectMinus

theorem sameCounters_credit (en : Energy) : en.SameCounters en.credit := by
  unfold credit
  dsimp only
  split <;> exact ⟨rfl, rfl, rfl, rfl⟩

theorem credit_credited (en : Energy) : en.credit.credited = max en.credited (en.rectPlus / mjPerKwh) := by
  unfold credit
  dsimp only
  split
  · rename_i more
    exact (Nat.max_eq_right more.le).symm
  · rename_i noMore
    exact (Nat.max_eq_left (Nat.not_lt.1 noMore)).symm

theorem credit_pulses (en : Energy) : en.credit.pulses =
    if en.credited < en.rectPlus / mjPerKwh then min 65535 (en.pulses + (en.rectPlus / mjPerKwh - en.credited))
    else en.pulses := by
  unfold credit
  dsimp only
  split <;> rfl

theorem credit_output (en : Energy) : en.credit.output = en.output := by
  unfold credit
  dsimp only
  split <;> rfl

theorem startFromIdle_starts (idle : en.output = .idle) (due : 0 < en.pulses) :
    en.startFromIdle t = en.startPulse t := by
  rw [startFromIdle, idle]
  exact if_pos due

theorem startFromIdle_rests (h : en.output ≠ .idle ∨ en.pulses = 0) : en.startFromIdle t = en := by
  unfold startFromIdle
  split
  · rename_i idle
    exact if_neg (Nat.not_lt.2 (h.resolve_left fun busy => busy idle).le)
  all_goals rfl

theorem sameCounters_startFromIdle (t : TimeBase) (en : Energy) : en.SameCounters (en.startFromIdle t) := by
  by_cases starts : en.output = .idle ∧ 0 < en.pulses
  · obtain ⟨idle, due⟩ := starts
    rw [startFromIdle_starts idle due]
    exact ⟨rfl, rfl, rfl, rfl⟩
  · rw [startFromIdle_rests ((not_and_or.1 starts).imp_right Nat.eq_zero_of_not_pos)]
    exact ⟨rfl, rfl, rfl, rfl⟩

theorem sameCounters_pulseEnds (t : TimeBase) (en : Energy) : en.SameCounters (en.pulseEnds t) := ⟨rfl, rfl, rfl, rfl⟩

theorem sameCounters_gapEnds (t : TimeBase) (en : Energy) : en.SameCounters (en.gapEnds t) := by
  unfold gapEnds
  split <;> exact ⟨rfl, rfl, rfl, rfl⟩

/-- R159: of a millisecond event, the counters see the addition alone. -/
theorem millisecond_counters (e : Env) (en : Energy) :
    (en.accumulate e.store.icreep e.front).SameCounters (en.millisecond e) := by
  have credited := sameCounters_credit (en.accumulate e.store.icreep e.front)
  have started := sameCounters_startFromIdle e.time (en.accumulate e.store.icreep e.front).credit
  exact ⟨started.plus.trans credited.plus, started.minus.trans credited.minus,
    started.rectPlus.trans credited.rectPlus, started.rectMinus.trans credited.rectMinus⟩

/-- R163: the output before a pulse is started at a millisecond event. -/
theorem credited_output (e : Env) (en : Energy) :
    (en.accumulate e.store.icreep e.front).credit.output = en.output :=
  credit_output (en.accumulate e.store.icreep e.front)

/-- R163: a pulse starts at the millisecond event that finds the output in IDLE and pulses pending. -/
theorem millisecond_starts (idle : en.output = .idle)
    (due : 0 < (en.accumulate e.store.icreep e.front).credit.pulses) :
    en.millisecond e = (en.accumulate e.store.icreep e.front).credit.startPulse e.time :=
  startFromIdle_starts ((credited_output e en).trans idle) due

theorem millisecond_rests (h : en.output ≠ .idle ∨ (en.accumulate e.store.icreep e.front).credit.pulses = 0) :
    en.millisecond e = (en.accumulate e.store.icreep e.front).credit :=
  startFromIdle_rests (h.imp_left fun busy idle => busy ((credited_output e en).symm.trans idle))

theorem millisecond_credited (e : Env) (en : Energy) : (en.millisecond e).credited =
    max en.credited ((en.accumulate e.store.icreep e.front).rectPlus / mjPerKwh) := by
  refine Eq.trans ?_ (credit_credited (en.accumulate e.store.icreep e.front))
  unfold millisecond startFromIdle
  split
  · split <;> rfl
  all_goals rfl

end Energy

/-! ### The events (R159, R163) -/

/-- R159: the millisecond event of an eighth-7 instant counts with the means just formed. -/
theorem State.sampleInstant_energy (x : SampleInputs) (s : State) (h : (s.sampleInstant x).time.eighth = 7) :
    (s.sampleInstant x).energy =
      s.energy.millisecond ⟨(s.sampleInstant x).time, (s.sampleInstant x).front, s.store⟩ := by
  rw [sampleInstant_time] at h
  rw [sampleInstant_time, sampleInstant_eighth7 h]
  rfl

theorem exec_energyPulseOnExpiry_due {s : State} {x : Nat} (on : s.energy.output = .on x) (due : x ≤ s.time.tick) :
    exec .energyPulseOnExpiry s = .next { s with energy := s.energy.pulseEnds s.time } := by
  have runs : s.energy.output.onExpiry = some x := by rw [on]; rfl
  exact congrArg _ ((congrArg (fun timer => s.atExpiry timer _) runs).trans (State.atExpiry_due _ due))

theorem exec_energyPulseGapExpiry_due {s : State} {x : Nat} (gap : s.energy.output = .gap x) (due : x ≤ s.time.tick) :
    exec .energyPulseGapExpiry s = .next { s with energy := s.energy.gapEnds s.time } := by
  have runs : s.energy.output.gapExpiry = some x := by rw [gap]; rfl
  exact congrArg _ ((congrArg (fun timer => s.atExpiry timer _) runs).trans (State.atExpiry_due _ due))

/-- Settles O42: the counters, the credit and the pulse output by their rules, each from the addition of the
millisecond. -/
theorem energyIsCountedAndPulsed : Obligations.EnergyIsCountedAndPulsed := by
  refine ⟨fun x s => ⟨_, exec_sampleInstant x s, fun other => ?_, fun seven => ?_⟩, fun x s due => ⟨fun on => ?_,
    fun gap more => ?_, fun gap none => ?_⟩⟩
  · obtain ⟨otherEighth, -⟩ := State.sampleInstant_plant x s
    obtain ⟨-, -, energy⟩ := otherEighth other
    exact energy
  · have energy := State.sampleInstant_energy x s seven
    generalize s.sampleInstant x = t at *
    intro c v plus minus top idc whole pulses
    have counted := s.energy.millisecond_counters ⟨t.time, t.front, s.store⟩
    have credited := s.energy.millisecond_credited ⟨t.time, t.front, s.store⟩
    have left : (s.energy.accumulate c t.front).credit.pulses = pulses := Energy.credit_pulses _
    rw [energy]
    refine ⟨fun k => ⟨?_, ?_⟩, counted.rectPlus, counted.rectMinus, credited, fun idle due => ?_, fun rests => ?_⟩
    · rw [counted.plus]
      exact Energy.accumulate_plus k
    · rw [counted.minus]
      exact Energy.accumulate_minus k
    · rw [Energy.millisecond_starts (e := ⟨t.time, t.front, s.store⟩) idle (due.trans_eq left.symm)]
      exact ⟨congrArg (· - 1) left, rfl⟩
    · rw [Energy.millisecond_rests (e := ⟨t.time, t.front, s.store⟩) (rests.imp_right left.trans)]
      exact ⟨left, Energy.credited_output ⟨t.time, t.front, s.store⟩ s.energy⟩
  · exact exec_energyPulseOnExpiry_due on due
  · rw [exec_energyPulseGapExpiry_due gap due, Energy.gapEnds, if_pos more]
    rfl
  · rw [exec_energyPulseGapExpiry_due gap due, Energy.gapEnds, if_neg (by omega)]

/-! ### Clear Energy (R164) -/

theorem exec_clearEnergy_refused {head : RequestHead} {s : State} (atOnce : s.link.takesAtOnce = true)
    (noKey : head.pins.engKey = false) :
    exec (.clearEnergy head) s = .next (s.repliedWith head .clearEnergy [4] s.plant) :=
  congrArg _ (State.request_repliedWith (time := s.time) atOnce (needsKey_inactive noKey))

theorem serveClearEnergy_active {s : State} (key : s.panel.engKey = true) : serveClearEnergy s =
    ({ s with
        energy := s.energy.clear
        plant := s.plant.post s.env .station .energyCleared [((s.energy.rectPlus / mjPerKwh : Nat) : Int)] },
      some [0]) := needsKey_active key

theorem exec_clearEnergy {head : RequestHead} {s : State} (atOnce : s.link.takesAtOnce = true)
    (key : head.pins.engKey = true) :
    exec (.clearEnergy head) s = .next
      { s.repliedWith head .clearEnergy [0]
          (s.plant.post s.env .station .energyCleared [((s.energy.rectPlus / mjPerKwh : Nat) : Int)]) with
        energy := s.energy.clear } := by
  have served := serveClearEnergy_active (s := s.begin head.pins RequestKind.clearEnergy.code head.tag) key
  refine congrArg _ ((State.request_answered atOnce served rfl).trans ?_)
  rw [replyKind_code, State.link_answered atOnce rfl]
  rfl

/-- Settles O43: the request answered at once, with the key or refused, and the values that the clear leaves. -/
theorem clearEnergyZeroesTheCounters : Obligations.ClearEnergyZeroesTheCounters :=
  fun _ _ atOnce => ⟨exec_clearEnergy_refused atOnce,
    fun key => ⟨_, exec_clearEnergy atOnce key, JournalUnit.post_last ..⟩, everyCounter_reset rfl, rfl, rfl⟩

end Sys2Proof.Machine
end

section
/-! PROOFS. The growth of the energy counters, and what serving each request does to the energy unit: Clear Energy alone
changes it. -/

namespace Sys2Proof.Machine

/-! ### Growth (R160) -/

/-- R160: counters that do not exceed their top do not decrease, and do not exceed it afterwards. -/
def Energy.Grows (a b : Energy) : Prop :=
  a.everyCounter (· ≤ energyTop) → b.everyCounter (· ≤ energyTop) ∧ a.noneAbove b

namespace Energy

variable {a b : Energy}

theorem grows_refl (a : Energy) : a.Grows a :=
  fun h => ⟨h, fun _ => le_rfl, fun _ => le_rfl, le_rfl, le_rfl⟩

theorem SameCounters.everyCounter_iff (h : a.SameCounters b) (q : Nat → Prop) :
    b.everyCounter q ↔ a.everyCounter q := by
  rw [everyCounter, h.plus, h.minus, h.rectPlus, h.rectMinus]
  rfl

theorem SameCounters.noneAbove_iff (h : a.SameCounters b) (c : Energy) : c.noneAbove b ↔ c.noneAbove a := by
  rw [noneAbove, h.plus, h.minus, h.rectPlus, h.rectMinus]
  rfl

theorem SameCounters.grows (h : a.SameCounters b) : a.Grows b := by
  unfold Grows
  rw [h.everyCounter_iff, h.noneAbove_iff]
  exact a.grows_refl

/-- R159, R160: an addition to each counter. -/
theorem grows_accumulate (icreep : Nat) (f : FrontEnd) (a : Energy) : a.Grows (a.accumulate icreep f) := by
  rintro ⟨plus, minus, rectPlus, rectMinus⟩
  refine ⟨⟨fun k => ?_, fun k => ?_, addEnergy_le_top .., addEnergy_le_top ..⟩, fun k => ?_, fun k => ?_,
    le_addEnergy rectPlus _, le_addEnergy rectMinus _⟩
  · rw [accumulate_plus]
    exact addEnergy_le_top ..
  · rw [accumulate_minus]
    exact addEnergy_le_top ..
  · rw [accumulate_plus]
    exact le_addEnergy (plus k) _
  · rw [accumulate_minus]
    exact le_addEnergy (minus k) _

theorem grows_millisecond (e : Env) (a : Energy) : a.Grows (a.millisecond e) := by
  have counted := a.millisecond_counters e
  unfold Grows
  rw [counted.everyCounter_iff, counted.noneAbove_iff]
  exact grows_accumulate _ _ a

theorem everyCounter_clear (a : Energy) : a.clear.everyCounter (· = 0) :=
  ⟨fun k => Six.get_all 0 k, fun k => Six.get_all 0 k, rfl, rfl⟩

end Energy

/-- R160, R164: from s to t the counters have grown, or a Clear Energy has zeroed them. -/
def State.Meters (s t : State) : Prop :=
  s.energy.Grows t.energy ∨ t.energy.everyCounter (· = 0) ∧ s.clearedSince t

namespace State

variable {s t : State}

theorem meters_same (h : t.energy = s.energy) : s.Meters t := .inl (h ▸ s.energy.grows_refl)

/-! ### Settings (03) -/

theorem Resolves.energy {ks : List FeederId} (h : Resolves ks s t) : t.energy = s.energy := by
  obtain ⟨-, -, energy⟩ := h.outside
  exact energy

theorem completeSet_energy (n : SetId) (fields readBack : SetFields) (s : State) :
    (s.completeSet n fields readBack).energy = s.energy := by
  unfold completeSet
  dsimp only
  split
  · exact (resolves_cutNaming _ n).energy.trans (resolves_resolveNaming n _).energy
  · exact (resolves_resolveNaming n _).energy

theorem completeStation_energy (fields readBack : StationFields) (s : State) :
    (s.completeStation fields readBack).energy = s.energy := by
  unfold completeStation
  dsimp only
  split <;> rfl

theorem completeEntry_energy (k : FeederId) (f : FeedState) (value readBack : Option SetId) (s : State) :
    (s.completeEntry k f value readBack).energy = s.energy := by
  unfold completeEntry
  dsimp only
  split <;> exact (resolves_resolve k _).energy

theorem applyFeedState_energy (k : FeederId) (f : FeedState) (s : State) :
    (s.applyFeedState k f).energy = s.energy := by
  by_cases same : s.store.feed.get k = f
  · rw [applyFeedState_same same]
  · exact (resolves_applyFeedState same).energy

/-! ### Requests -/

/-- R164: Clear Energy is the one request that changes the energy unit. -/
theorem meters_serveClearEnergy (s : State) : s.Meters (serveClearEnergy s).1 := by
  by_cases key : s.panel.engKey = true
  · rw [serveClearEnergy_active key]
    exact .inr ⟨s.energy.everyCounter_clear, JournalUnit.post_nextIndex .., _, JournalUnit.post_last .., rfl⟩
  · exact meters_same (congrArg (fun r : Served => r.1.energy) (needsKey_inactive (Bool.eq_false_of_not_eq_true key)))

theorem needsRemote_energy {serve : State → Served} (h : (serve s).1.energy = s.energy) :
    (needsRemote serve s).1.energy = s.energy := needsRemote_preserves (Q := fun t => t.energy = s.energy) h rfl

theorem needsKey_energy {serve : State → Served} (h : (serve s).1.energy = s.energy) :
    (needsKey serve s).1.energy = s.energy := needsKey_preserves (Q := fun t => t.energy = s.energy) h rfl

theorem withFeeder_energy {serve : FeederId → State → Served} {b : Byte} (h : ∀ k, (serve k s).1.energy = s.energy) :
    (withFeeder b serve s).1.energy = s.energy := withFeeder_preserves (Q := fun t => t.energy = s.energy) h rfl

theorem serveWriteSet_energy (number : Byte) (fields : SetFields) (s : State) :
    (serveWriteSet number fields s).1.energy = s.energy := by
  refine needsKey_energy ?_
  split
  · rfl
  · split <;> rfl

theorem serveReadSet_energy (number : Byte) (s : State) : (serveReadSet number s).1.energy = s.energy := by
  unfold serveReadSet
  split <;> rfl

theorem serveEraseSet_energy (number : Byte) (s : State) : (serveEraseSet number s).1.energy = s.energy := by
  refine needsKey_energy ?_
  split
  · rfl
  · split
    · rfl
    · exact (resolves_eraseSet _ s).energy

theorem serveWriteMapEntry_energy (feeder feedState value : Byte) (s : State) :
    (serveWriteMapEntry feeder feedState value s).1.energy = s.energy := by
  refine needsKey_energy (withFeeder_energy fun k => ?_)
  split
  · rfl
  · split <;> rfl

theorem serveWriteStationRecord_energy (fields : StationFields) (s : State) :
    (serveWriteStationRecord fields s).1.energy = s.energy := by
  refine needsKey_energy ?_
  split <;> rfl

theorem serveSetFeedState_energy (feeder feedState : Byte) (s : State) :
    (serveSetFeedState feeder feedState s).1.energy = s.energy :=
  withFeeder_energy fun k => s.applyFeedState_energy k _

theorem serveReadFeeder_energy (feeder : Byte) (s : State) : (serveReadFeeder feeder s).1.energy = s.energy :=
  withFeeder_energy fun _ => rfl

theorem serveRestart_energy (s : State) : (serveRestart s).1.energy = s.energy :=
  needsRemote_energy rfl

theorem serveFeederClose_energy (feeder : Byte) (s : State) : (serveFeederClose feeder s).1.energy = s.energy :=
  needsRemote_energy (withFeeder_energy fun _ => by split <;> rfl)

theorem serveFeederOpen_energy (feeder : Byte) (s : State) : (serveFeederOpen feeder s).1.energy = s.energy :=
  needsRemote_energy (withFeeder_energy fun _ => by split <;> rfl)

theorem serveResetLockout_energy (feeder : Byte) (s : State) : (serveResetLockout feeder s).1.energy = s.energy :=
  needsRemote_energy (withFeeder_energy fun _ => by split <;> rfl)

theorem serveClearFeederCounters_energy (feeder : Byte) (s : State) :
    (serveClearFeederCounters feeder s).1.energy = s.energy :=
  needsKey_energy (withFeeder_energy fun _ => rfl)

theorem serveRectifierStart_energy (s : State) : (serveRectifierStart s).1.energy = s.energy := by
  refine needsRemote_energy ?_
  split <;> rfl

theorem serveRectifierStop_energy (s : State) : (serveRectifierStop s).1.energy = s.energy :=
  needsRemote_energy rfl

theorem serveReleaseEarthing_energy (s : State) : (serveReleaseEarthing s).1.energy = s.energy := by
  refine needsRemote_energy ?_
  split <;> rfl

theorem serveClearFrameFault_energy (s : State) : (serveClearFrameFault s).1.energy = s.energy := by
  refine needsRemote_energy (needsKey_energy ?_)
  split <;> rfl

theorem serveReleaseJournal_energy (index : Word16) (s : State) :
    (serveReleaseJournal index s).1.energy = s.energy := by
  unfold serveReleaseJournal
  split <;> rfl

theorem serveReadRecordPiece_energy (slot piece : Byte) (s : State) :
    (serveReadRecordPiece slot piece s).1.energy = s.energy := by
  unfold serveReadRecordPiece
  split
  · rfl
  · split
    · rfl
    · split <;> rfl

theorem serveFreeRecord_energy (slot : Byte) (s : State) : (serveFreeRecord slot s).1.energy = s.energy := by
  unfold serveFreeRecord
  split
  · rfl
  · split <;> rfl

/-- Each request of the catalogue. -/
theorem meters_serveKind (r : RequestKind) (payload : List Byte) (s : State) : s.Meters (serveKind r payload s).1 := by
  cases r with
  | identify | echo | readStatus | readMeasurements | readEnergy | readMap | readStationRecord | readItems
  | readRectifier | readRail | fetchJournal | readAlarms | listRecords | readAttention | noticeMask | setTime
  | setVoltageReference | acknowledgeAlarms => exact meters_same rfl
  | clearEnergy => exact s.meters_serveClearEnergy
  | restart => exact meters_same s.serveRestart_energy
  | readFeeder => exact meters_same (serveReadFeeder_energy ..)
  | writeSet => exact meters_same (serveWriteSet_energy ..)
  | readSet => exact meters_same (serveReadSet_energy ..)
  | eraseSet => exact meters_same (serveEraseSet_energy ..)
  | writeMapEntry => exact meters_same (serveWriteMapEntry_energy ..)
  | writeStationRecord => exact meters_same (serveWriteStationRecord_energy ..)
  | setFeedState => exact meters_same (serveSetFeedState_energy ..)
  | feederClose => exact meters_same (serveFeederClose_energy ..)
  | feederOpen => exact meters_same (serveFeederOpen_energy ..)
  | resetLockout => exact meters_same (serveResetLockout_energy ..)
  | clearFeederCounters => exact meters_same (serveClearFeederCounters_energy ..)
  | rectifierStart => exact meters_same s.serveRectifierStart_energy
  | rectifierStop => exact meters_same s.serveRectifierStop_energy
  | releaseEarthing => exact meters_same s.serveReleaseEarthing_energy
  | clearFrameFault => exact meters_same s.serveClearFrameFault_energy
  | releaseJournal => exact meters_same (serveReleaseJournal_energy ..)
  | readRecordPiece => exact meters_same (serveReadRecordPiece_energy ..)
  | freeRecord => exact meters_same (serveFreeRecord_energy ..)

theorem meters_serveFrame (f : LinkFrame) (s : State) : s.Meters (serveFrame f s).1 := by
  unfold serveFrame
  cases RequestKind.ofByte f.kind with
  | none => exact meters_same rfl
  | some r =>
    show s.Meters ((if r.accepts f.payload.length then serveKind r f.payload else answered _) s).1
    split
    · exact s.meters_serveKind ..
    · exact meters_same rfl

end State

end Sys2Proof.Machine
end

section
/-! PROOFS. The energy counters through every command: they grow or stay, unless a Clear Energy or a power-on reset has
zeroed them (O41). -/

namespace Sys2Proof.Machine

namespace State

variable {s t : State}

/-! ### Frames and transmissions -/

@[simp] theorem finish_energy (r : Served) : (finish r).energy = r.1.energy := by
  unfold finish
  split <;> rfl

/-- R198: an execution meters what serving the request meters; the pins and the link are no part of it. -/
theorem meters_execute {pins : Pins} {kind tag : Byte} {serve : State → Served}
    (h : ∀ s : State, s.Meters (serve s).1) : s.Meters (s.execute pins kind tag serve) := by
  have served : s.Meters (serve (s.begin pins kind tag)).1 := h (s.begin pins kind tag)
  unfold Meters clearedSince execute
  rw [finish_energy, finish_plant]
  exact served

theorem meters_offer {pins : Pins} {f : LinkFrame} {serve : State → Served}
    (h : ∀ s : State, s.Meters (serve s).1) : s.Meters (s.offer pins f serve) := by
  unfold offer
  split
  · exact meters_execute h
  · exact meters_same rfl

/-- A request that leaves the energy unit alone. -/
theorem meters_request {pins : Pins} {f : LinkFrame} {serve : State → Served}
    (h : ∀ s : State, (serve s).1.energy = s.energy) : s.Meters (s.offer pins f serve) :=
  meters_offer fun s => meters_same (h s)

theorem meters_startExecution (pins : Pins) (s : State) : s.Meters (s.startExecution pins) := by
  rcases s.startExecution_cases pins with same | ⟨f, rest, -, -, served⟩
  · exact meters_same (by rw [same])
  · rw [served]
    exact meters_execute (s := { s with link := { s.link with queue := rest } }) (meters_serveFrame f)

theorem meters_transmitStart (s : State) : s.Meters s.transmitStart := by
  rcases s.transmitStart_cases with same | ⟨f, -, -, -, begun⟩ | ⟨n, -, -, -, -, begun⟩
  · exact meters_same (by rw [same])
  · rw [begun]
    exact meters_startExecution s.panel.pins { s with link := s.link.beginReply f }
  · exact meters_same (by rw [begun]; rfl)

theorem meters_frameTransmitEnd (s : State) : ∃ t, exec .frameTransmitEnd s = .next t ∧ s.Meters t := by
  by_cases idle : s.link.transmitter = .idle
  · exact ⟨s, by simp [exec, execFrameTransmitEnd, idle], meters_same rfl⟩
  · exact ⟨_, exec_frameTransmitEnd_sending idle, meters_transmitStart { s with link := s.link.transmitEnd }⟩

theorem meters_receiveByte (pins : Pins) (b : Byte) (s : State) : s.Meters (s.receiveByte pins b) := by
  unfold receiveByte
  split
  · split <;> exact meters_same rfl
  · split <;> exact meters_same rfl
  · split <;> exact meters_same rfl
  · exact meters_same rfl
  · unfold checkFrame
    dsimp only
    split
    · exact meters_offer (s := { s with link := s.link.setAssembly .hunt }) (meters_serveFrame _)
    · exact meters_same rfl
  · exact meters_same rfl

theorem linkBreak_energy (s : State) : s.linkBreak.energy = s.energy := by
  unfold linkBreak
  split <;> rfl

/-! ### Expiries and completions -/

/-- An expiry that leaves the energy unit alone, wherever the grid stands. -/
theorem meters_expiry {expiry : Option Nat} {act : State → State}
    (h : ∀ s : State, (act s).energy = s.energy) : s.Meters (s.atExpiry expiry act) :=
  meters_same (atExpiry_preserves (Q := fun t => t.energy = s.energy) (fun time => h { s with time := time }) rfl)

/-- The expiries of the pulse output leave the counters alone (R163). -/
theorem meters_pulseExpiry {expiry : Option Nat} {act : TimeBase → Energy → Energy}
    (h : ∀ time en, Energy.SameCounters en (act time en)) :
    s.Meters (s.atExpiry expiry (fun s => { s with energy := act s.time s.energy })) :=
  atExpiry_preserves (Q := s.Meters) (fun _ => .inl (h _ _).grows) (meters_same rfl)

theorem meters_setWriteCompletion (readBack : SetFields) (s : State) :
    ∃ t, exec (.setWriteCompletion readBack) s = .next t ∧ s.Meters t := by
  refine ⟨_, rfl, ?_⟩
  split
  · exact meters_expiry fun s => s.completeSet_energy ..
  all_goals exact meters_same rfl

theorem meters_stationRecordWriteCompletion (readBack : StationFields) (s : State) :
    ∃ t, exec (.stationRecordWriteCompletion readBack) s = .next t ∧ s.Meters t := by
  refine ⟨_, rfl, ?_⟩
  split
  · exact meters_expiry fun s => s.completeStation_energy ..
  all_goals exact meters_same rfl

theorem meters_mapEntryWriteCompletion (readBack : Option SetId) (s : State) :
    ∃ t, exec (.mapEntryWriteCompletion readBack) s = .next t ∧ s.Meters t := by
  refine ⟨_, rfl, ?_⟩
  split
  · exact meters_expiry fun s => s.completeEntry_energy ..
  all_goals exact meters_same rfl

/-! ### Events of the other blocks -/

theorem meters_sampleInstant (x : SampleInputs) (s : State) : s.Meters (s.sampleInstant x) := by
  by_cases seven : (s.sampleInstant x).time.eighth = 7
  · exact .inl (s.sampleInstant_energy x seven ▸ s.energy.grows_millisecond _)
  · obtain ⟨other, -⟩ := s.sampleInstant_plant x
    obtain ⟨-, -, energy⟩ := other seven
    exact meters_same energy

theorem meters_crystalFailure (s : State) : ∃ t, exec .crystalFailure s = .next t ∧ s.Meters t := by
  cases source : s.time.source with
  | crystal => exact ⟨_, exec_crystalFailure source, meters_same rfl⟩
  | fallback => exact ⟨s, by simp [exec, execCrystalFailure, source], meters_same rfl⟩

theorem meters_crystalReturn (s : State) : ∃ t, exec .crystalReturn s = .next t ∧ s.Meters t := by
  refine ⟨_, rfl, ?_⟩
  split
  · exact meters_same rfl
  · split <;> exact meters_same rfl

theorem meters_pulseInstant (gate : GateId) (s : State) :
    ∃ t, exec (.pulseInstant gate) s = .next t ∧ s.Meters t := by
  refine ⟨_, rfl, ?_⟩
  split
  · exact meters_same rfl
  · split <;> exact meters_same rfl

theorem meters_burstEnd (gate : GateId) (s : State) : ∃ t, exec (.burstEnd gate) s = .next t ∧ s.Meters t := by
  refine ⟨_, rfl, ?_⟩
  split
  · exact meters_same rfl
  · split <;> exact meters_same rfl

/-- R165: a pin reset and Restart keep the counters. -/
theorem meters_warmReset (x : ResetInputs) (cause : ResetCause) (s : State) : s.Meters (s.warmReset x cause) := by
  have counters : s.energy.SameCounters s.energy.afterReset := ⟨rfl, rfl, rfl, rfl⟩
  refine .inl ?_
  rw [warmReset, resetWith_energy]
  exact counters.grows

theorem meters_restartReset (x : ResetInputs) (s : State) :
    ∃ t, exec (.restartReset x) s = .next t ∧ s.Meters t := by
  refine ⟨_, rfl, ?_⟩
  split
  · exact s.meters_warmReset x _
  · exact meters_same rfl

/-- R165: a power-on reset zeroes the counters. -/
theorem powerOn_energy (x : ResetInputs) (s : State) : (s.powerOn x).energy = Energy.reset := by
  rw [powerOn, resetWith_energy]

end State

/-! ### Every command -/

/-- Every command but a power-on reset lets the counters grow, or zeroes them as Clear Energy does. -/
theorem exec_meters (c : Instr) (s : State) (stays : ∀ x, c ≠ .powerOnReset x) :
    ∃ t, exec c s = .next t ∧ s.Meters t := by
  cases c with
  | powerOnReset x => exact absurd rfl (stays x)
  | pinReset x => exact ⟨_, rfl, s.meters_warmReset x _⟩
  | restartReset x => exact s.meters_restartReset x
  | crystalFailure => exact s.meters_crystalFailure
  | crystalReturn => exact s.meters_crystalReturn
  | sampleInstant x => exact ⟨_, rfl, s.meters_sampleInstant x⟩
  | noCrossingExpiry | coilPulseEnd | limitTimerExpiry | deadTimeExpiry | settleExpiry | serviceTimerExpiry
  | railHoldExpiry | recordHoldExpiry | noticeHoldoffExpiry => exact ⟨_, rfl, State.meters_expiry fun _ => rfl⟩
  | pulseInstant gate => exact s.meters_pulseInstant gate
  | burstEnd gate => exact s.meters_burstEnd gate
  | energyPulseOnExpiry => exact ⟨_, rfl, State.meters_pulseExpiry Energy.sameCounters_pulseEnds⟩
  | energyPulseGapExpiry => exact ⟨_, rfl, State.meters_pulseExpiry Energy.sameCounters_gapEnds⟩
  | scanVisit found => exact ⟨_, rfl, State.meters_expiry fun s => (s.visited found).energy⟩
  | setWriteCompletion readBack => exact s.meters_setWriteCompletion readBack
  | stationRecordWriteCompletion readBack => exact s.meters_stationRecordWriteCompletion readBack
  | mapEntryWriteCompletion readBack => exact s.meters_mapEntryWriteCompletion readBack
  | receivedCharacter char pins =>
    cases char with
    | byte b => exact ⟨_, rfl, s.meters_receiveByte pins b⟩
    | framingError => exact ⟨_, rfl, State.meters_same rfl⟩
  | gapTimerExpiry | linkBreakEnd => exact ⟨_, rfl, State.meters_same rfl⟩
  | linkBreak => exact ⟨_, rfl, State.meters_same s.linkBreak_energy⟩
  | requestExecutionStart pins => exact ⟨_, rfl, State.meters_startExecution pins (s.setPins pins)⟩
  | unknownKind => exact ⟨_, rfl, State.meters_offer (State.meters_serveFrame _)⟩
  | frameTransmitStart => exact ⟨_, rfl, s.meters_transmitStart⟩
  | frameTransmitEnd => exact s.meters_frameTransmitEnd
  | clearEnergy => exact ⟨_, rfl, State.meters_offer State.meters_serveClearEnergy⟩
  | identify | echo | readStatus | readMeasurements | readEnergy | readMap | readStationRecord | readItems
  | readRectifier | readRail | fetchJournal | readAlarms | listRecords | readAttention | noticeMask | setTime
  | setVoltageReference | acknowledgeAlarms => exact ⟨_, rfl, State.meters_request fun _ => rfl⟩
  | restart => exact ⟨_, rfl, State.meters_request State.serveRestart_energy⟩
  | readFeeder => exact ⟨_, rfl, State.meters_request (State.serveReadFeeder_energy _)⟩
  | writeSet => exact ⟨_, rfl, State.meters_request (State.serveWriteSet_energy _ _)⟩
  | readSet => exact ⟨_, rfl, State.meters_request (State.serveReadSet_energy _)⟩
  | eraseSet => exact ⟨_, rfl, State.meters_request (State.serveEraseSet_energy _)⟩
  | writeMapEntry => exact ⟨_, rfl, State.meters_request (State.serveWriteMapEntry_energy _ _ _)⟩
  | writeStationRecord => exact ⟨_, rfl, State.meters_request (State.serveWriteStationRecord_energy _)⟩
  | setFeedState => exact ⟨_, rfl, State.meters_request (State.serveSetFeedState_energy _ _)⟩
  | feederClose => exact ⟨_, rfl, State.meters_request (State.serveFeederClose_energy _)⟩
  | feederOpen => exact ⟨_, rfl, State.meters_request (State.serveFeederOpen_energy _)⟩
  | resetLockout => exact ⟨_, rfl, State.meters_request (State.serveResetLockout_energy _)⟩
  | clearFeederCounters => exact ⟨_, rfl, State.meters_request (State.serveClearFeederCounters_energy _)⟩
  | rectifierStart => exact ⟨_, rfl, State.meters_request State.serveRectifierStart_energy⟩
  | rectifierStop => exact ⟨_, rfl, State.meters_request State.serveRectifierStop_energy⟩
  | releaseEarthing => exact ⟨_, rfl, State.meters_request State.serveReleaseEarthing_energy⟩
  | clearFrameFault => exact ⟨_, rfl, State.meters_request State.serveClearFrameFault_energy⟩
  | releaseJournal => exact ⟨_, rfl, State.meters_request (State.serveReleaseJournal_energy _)⟩
  | readRecordPiece => exact ⟨_, rfl, State.meters_request (State.serveReadRecordPiece_energy _ _)⟩
  | freeRecord => exact ⟨_, rfl, State.meters_request (State.serveFreeRecord_energy _)⟩

/-- What a step does: as a power-on reset it zeroes the counters, and otherwise it meters. -/
theorem step_meters {s t : State} (h : step s = .next t) :
    (∃ x rest, s.pending = .powerOnReset x :: rest) ∧ t.energy = Energy.reset ∨ s.Meters t := by
  unfold step at h
  split at h
  · cases h
    exact .inr (State.meters_same rfl)
  · rename_i c rest pending
    by_cases powerOn : ∃ x, c = .powerOnReset x
    · obtain ⟨x, rfl⟩ := powerOn
      cases h
      exact .inl ⟨⟨x, rest, pending⟩, State.powerOn_energy x _⟩
    · obtain ⟨u, executed, meters⟩ := exec_meters c { s with pending := rest } (not_exists.1 powerOn)
      rw [executed] at h
      cases h
      exact .inr meters

/-- Settles O41: every command lets the counters grow, but for the two that zero them. -/
theorem energyCountersNeverDecrease : Obligations.EnergyCountersNeverDecrease := by
  refine ⟨fun s t below stepped => ?_, fun counter added above => Nat.min_eq_left above.le,
    fun counter added fits => Nat.min_eq_right fits⟩
  have zeroed (zero : t.energy.everyCounter (· = 0)) : t.energy.everyCounter (· ≤ 2 ^ 64 - 1) := by
    obtain ⟨plus, minus, rectPlus, rectMinus⟩ := zero
    exact ⟨fun k => (plus k).trans_le (Nat.zero_le _), fun k => (minus k).trans_le (Nat.zero_le _),
      rectPlus.trans_le (Nat.zero_le _), rectMinus.trans_le (Nat.zero_le _)⟩
  rcases step_meters stepped with ⟨powerOn, reset⟩ | grows | ⟨zero, cleared⟩
  · have zero : t.energy.everyCounter (· = 0) := reset ▸ everyCounter_reset rfl
    exact ⟨zeroed zero, .inr ⟨zero, .inl powerOn⟩⟩
  · obtain ⟨top, noneAbove⟩ := grows below
    exact ⟨top, .inl noneAbove⟩
  · exact ⟨zeroed zero, .inr ⟨zero, .inr cleared⟩⟩

end Sys2Proof.Machine
end

section
/-! PROOFS. One rule for each operation of the journal and alarm unit: the append as one change of the journal that a
latch and a raise follow, the forming of a notice, and the alarm flags as a set (O48 to O51, O55). -/

namespace Sys2Proof.Machine

variable {e : Env}

/-! ### The alarm flags -/

theorem Six.any_iff (v : Six Bool) : v.toList.any id = true ↔ ∃ k, v.get k = true := by
  simp only [Six.toList, List.any_cons, List.any_nil, Bool.or_false, Bool.or_eq_true, id]
  constructor
  · rintro (h | h | h | h | h | h)
    exacts [⟨.f1, h⟩, ⟨.f2, h⟩, ⟨.f3, h⟩, ⟨.f4, h⟩, ⟨.f5, h⟩, ⟨.f6, h⟩]
  · rintro ⟨k, h⟩
    cases k <;> simp only [Six.get] at h <;> simp only [h, true_or, or_true]

theorem PerItem.any_iff (v : PerItem Bool) : v.toList.any id = true ↔ ∃ i, v.get i = true := by
  simp only [PerItem.toList, List.any_append, Bool.or_eq_true, Six.any_iff, List.any_cons, List.any_nil, Bool.or_false, id]
  constructor
  · rintro ((⟨k, h⟩ | ⟨k, h⟩) | h | h)
    exacts [⟨.fb k, h⟩, ⟨.tc k, h⟩, ⟨.re, h⟩, ⟨.acb, h⟩]
  · rintro ⟨i, h⟩
    cases i with
    | fb k => exact .inl (.inl ⟨k, h⟩)
    | tc k => exact .inl (.inr ⟨k, h⟩)
    | re => exact .inr (.inl h)
    | acb => exact .inr (.inr h)

namespace AlarmFlags

@[simp] theorem get_clear (a : Alarm) : AlarmFlags.clear.get a = false := by
  cases a with
  | bindingFault | lockedOut | thermalAlarm => exact Six.get_all false _
  | itemFail | unsensed | discrepant => exact PerItem.get_all false _
  | _ => rfl

/-- R181: the list in alarm-number order holds a set flag exactly when an alarm's flag is set. -/
theorem any_iff (l : AlarmFlags) : l.any = true ↔ ∃ a, l.get a = true := by
  simp only [any, toList, List.any_append, Bool.or_eq_true, Six.any_iff, PerItem.any_iff, List.any_cons, List.any_nil,
    Bool.or_false, id]
  constructor
  · rintro (((((((h | h | h | h | h | h | h | h) | ⟨k, h⟩) | ⟨k, h⟩) | ⟨k, h⟩) | ⟨i, h⟩) | ⟨i, h⟩) | ⟨i, h⟩)
    exacts [⟨.supplyLost, h⟩, ⟨.clockFallback, h⟩, ⟨.timeUnsync, h⟩, ⟨.rectTripped, h⟩, ⟨.settingsInvalid, h⟩,
      ⟨.railPermanent, h⟩, ⟨.frameFault, h⟩, ⟨.journalOverflow, h⟩, ⟨.bindingFault k, h⟩, ⟨.lockedOut k, h⟩,
      ⟨.thermalAlarm k, h⟩, ⟨.itemFail i, h⟩, ⟨.unsensed i, h⟩, ⟨.discrepant i, h⟩]
  · rintro ⟨a, h⟩
    cases a with
    | bindingFault k => exact .inl (.inl (.inl (.inl (.inl (.inr ⟨k, h⟩)))))
    | lockedOut k => exact .inl (.inl (.inl (.inl (.inr ⟨k, h⟩))))
    | thermalAlarm k => exact .inl (.inl (.inl (.inr ⟨k, h⟩)))
    | itemFail i => exact .inl (.inl (.inr ⟨i, h⟩))
    | unsensed i => exact .inl (.inr ⟨i, h⟩)
    | discrepant i => exact .inr ⟨i, h⟩
    | _ =>
      simp only [get] at h
      simp only [h, true_or, or_true]

theorem get_inter (l m : AlarmFlags) (a : Alarm) : (l.inter m).get a = (l.get a && m.get a) := by
  cases a with
  | bindingFault k | lockedOut k | thermalAlarm k => exact Six.get_zip and _ _ k
  | itemFail i | unsensed i | discrepant i =>
    cases i with
    | fb k | tc k => exact Six.get_zip and _ _ k
    | re | acb => rfl
  | _ => rfl

end AlarmFlags

theorem FlagSet.get_inter (s t : FlagSet) (f : AttentionFlag) : (s.inter t).get f = (s.get f && t.get f) := by
  cases f <;> rfl

theorem FlagSet.any_eq_false {s : FlagSet} (h : ∀ f, s.get f = false) : s.any = false :=
  Bool.eq_false_iff.2 fun any => by
    obtain ⟨f, set⟩ := s.any_iff.1 any
    exact Bool.false_ne_true ((h f).symm.trans set)

namespace JournalUnit

variable {u : JournalUnit}

/-! ### Notices (R188) -/

/-- R188: the notice that the unit forms from its pending set. -/
def newNotice (u : JournalUnit) : Notice := ⟨u.pendingFlags, u.attention, u.journal.length, u.newestIndex⟩

theorem tryNotice_forms (due : ∃ f, u.pendingFlags.get f = true) (stopped : u.holdoff = none)
    (free : u.notice = none) : u.tryNotice e =
      { u with notice := some u.newNotice, pendingFlags := FlagSet.empty, holdoff := some (e.time.tick + 800) } := by
  rw [tryNotice, u.pendingFlags.any_iff.2 due, stopped, free]
  rfl

theorem tryNotice_waits (h : u.holdoff.isSome ∨ u.notice.isSome ∨ ∀ f, u.pendingFlags.get f = false) :
    u.tryNotice e = u := by
  refine if_neg ?_
  rw [Bool.and_eq_true, Bool.and_eq_true, Option.isNone_iff_eq_none, Option.isNone_iff_eq_none]
  rintro ⟨⟨any, stopped⟩, free⟩
  rcases h with runs | waits | none
  · rw [stopped] at runs
    cases runs
  · rw [free] at waits
    cases waits
  · rw [FlagSet.any_eq_false none] at any
    cases any

/-- A notice is formed, or everything stays. -/
theorem tryNotice_cases (e : Env) (u : JournalUnit) : u.tryNotice e = u ∧
      ((∃ f, u.pendingFlags.get f = true) → u.holdoff.isSome ∨ u.notice.isSome) ∨
    u.tryNotice e =
      { u with notice := some u.newNotice, pendingFlags := FlagSet.empty, holdoff := some (e.time.tick + 800) } := by
  by_cases forms : (∃ f, u.pendingFlags.get f = true) ∧ u.holdoff = none ∧ u.notice = none
  · obtain ⟨due, stopped, free⟩ := forms
    exact .inr (tryNotice_forms due stopped free)
  · have waits : (∃ f, u.pendingFlags.get f = true) → u.holdoff.isSome ∨ u.notice.isSome := fun due => by
      rw [Option.isSome_iff_ne_none, Option.isSome_iff_ne_none, ← not_and_or]
      exact fun idle => forms ⟨due, idle⟩
    refine .inl ⟨tryNotice_waits ?_, waits⟩
    by_cases due : ∃ f, u.pendingFlags.get f = true
    · exact (waits due).imp_right .inl
    · exact .inr (.inr fun f => Bool.eq_false_of_not_eq_true fun set => due ⟨f, set⟩)

/-! ### Attention flags and alarms (R180, R185, R187) -/

theorem raise_set {f : AttentionFlag} (set : u.attention.get f = true) : u.raise e f = u := if_pos set

theorem raise_disabled {f : AttentionFlag} (clear : u.attention.get f = false) (disabled : u.mask.get f = false) :
    u.raise e f = { u with attention := u.attention.set f } := by
  simp only [raise, clear, disabled, Bool.false_eq_true, if_false]

theorem raise_enabled {f : AttentionFlag} (clear : u.attention.get f = false) (enabled : u.mask.get f = true) :
    u.raise e f =
      JournalUnit.tryNotice e { u with attention := u.attention.set f, pendingFlags := u.pendingFlags.set f } := by
  simp only [raise, clear, enabled, Bool.false_eq_true, if_false, if_true]

theorem latch_set {a : Alarm} (set : u.latched.get a = true) : u.latch e a = u := if_pos set

theorem latch_clear {a : Alarm} (clear : u.latched.get a = false) :
    u.latch e a = JournalUnit.raise e .alarm { u with latched := u.latched.set a, contact := true } := by
  rw [latch, clear]
  rfl

theorem latchIfNew_new (a : Alarm) (u : JournalUnit) : u.latchIfNew e a false true = u.latch e a := rfl

/-- R180: a condition that is live afterwards has its flag set, if it was latched while it was live before. -/
theorem latchIfNew_latched {a : Alarm} {before now : Bool} (h : before = true → u.latched.get a = true)
    (live : now = true) : (u.latchIfNew e a before now).latched.get a = true := by
  subst live
  cases before with
  | true => exact h rfl
  | false => rw [latchIfNew_new, latch_latched, if_pos rfl]

/-! ### The append (R175, R176) -/

/-- R176: what an append leaves of the journal before it: a full one loses its oldest entry. -/
def kept (u : JournalUnit) : List Entry :=
  if 256 ≤ u.journal.length then u.journal.drop (u.journal.length + 1 - 256) else u.journal

theorem kept_eq_drop (u : JournalUnit) : ∃ n, u.kept = u.journal.drop n := by
  unfold kept
  split
  · exact ⟨_, rfl⟩
  · exact ⟨0, rfl⟩

theorem kept_few (u : JournalUnit) : u.kept.length < 256 := by
  unfold kept
  split
  · rw [List.length_drop]
    omega
  · omega

/-- R175, R176: the unit with one entry more; the alarm and the flag that come with it are still to follow. -/
def appended (e : Env) (s : Source) (k : Kind) (d : List Int) (u : JournalUnit) : JournalUnit :=
  { u with journal := u.kept ++ [⟨u.nextIndex, e.time.stamp, s, k, d⟩], nextIndex := u.nextIndex + 1 }

/-- R176: JOURNAL_OVERFLOW where an entry was lost. -/
def overflowed (e : Env) (full : Prop) [Decidable full] (u : JournalUnit) : JournalUnit :=
  if full then u.latch e .journalOverflow else u

theorem post_eq (s : Source) (k : Kind) (d : List Int) (u : JournalUnit) : JournalUnit.post e s k d u =
    if u.journal = [] ∨ 192 ≤ (u.appended e s k d).journal.length then
      ((u.appended e s k d).overflowed e (256 ≤ u.journal.length)).raise e .journal
    else (u.appended e s k d).overflowed e (256 ≤ u.journal.length) := by
  have flag : (u.journal.isEmpty || decide (192 ≤ (u.appended e s k d).journal.length)) = true ↔
      u.journal = [] ∨ 192 ≤ (u.appended e s k d).journal.length := by
    rw [Bool.or_eq_true, List.isEmpty_iff, decide_eq_true_eq]
  exact if_congr flag rfl rfl

/-- R175, R176, R185: what an append, a latch of an alarm and a raise of a flag keep, a post keeps. -/
theorem post_keeps {Q : JournalUnit → Prop} (latch : ∀ {v} a, Q v → Q (JournalUnit.latch e a v))
    (raise : ∀ {v} f, Q v → Q (JournalUnit.raise e f v)) {s : Source} {k : Kind} {d : List Int}
    (h : Q (u.appended e s k d)) : Q (JournalUnit.post e s k d u) := by
  have overflow : Q ((u.appended e s k d).overflowed e (256 ≤ u.journal.length)) := by
    unfold overflowed
    split
    · exact latch _ h
    · exact h
  rw [post_eq]
  split
  · exact raise _ overflow
  · exact overflow

end JournalUnit

end Sys2Proof.Machine
end

section
/-! PROOFS. The laws of the journal, of the ALARM contact and of the notices: each is a law of the unit, and so one of
the plant (O51). -/

namespace Sys2Proof.Machine

variable {e : Env}

namespace JournalUnit

variable {u v : JournalUnit}

/-- A property of the unit that everything the part does to its unit keeps. -/
structure UnitLaw (Q : JournalUnit → Prop) : Prop where
  append : ∀ {e u} (s : Source) (k : Kind) (d : List Int), Q u → Q (u.appended e s k d)
  raise : ∀ {e u} (f : AttentionFlag), Q u → Q (JournalUnit.raise e f u)
  latch : ∀ {e u} (a : Alarm), Q u → Q (JournalUnit.latch e a u)
  changes : ∀ {e u v}, u.Changes e v → Q u → Q v
  reset : Q JournalUnit.reset
  afterReset : ∀ {u}, Q u → Q u.afterReset

/-- A law of the unit is a law of the plant. -/
theorem UnitLaw.plantLaw {Q : JournalUnit → Prop} (law : UnitLaw Q) : PlantLaw (fun _ p => Q p.unit) where
  kept _ := .ofUnit Q (fun _ s k d h => post_keeps law.latch law.raise (law.append s k d h))
    (fun _ f h => law.raise f h) (fun _ a h => law.latch a h)
  unit change h := law.changes change h
  records _ h := h
  powerOn _ _ := law.reset
  warmReset _ _ _ h := law.afterReset h

/-! ### The journal (R175, R176) -/

/-- R175, R176: at most 256 entries with consecutive indices, the newest one below the next index. -/
def Numbered (u : JournalUnit) : Prop :=
  u.journal.length ≤ 256 ∧ ∀ (n : Nat) (x : Entry), u.journal[n]? = some x →
    x.index = u.nextIndex - BitVec.ofNat 16 (u.journal.length - n)

theorem Numbered.same (h : u.Numbered) (journal : v.journal = u.journal) (next : v.nextIndex = u.nextIndex) :
    v.Numbered := by
  unfold Numbered
  rw [journal, next]
  exact h

/-- R179: without its oldest entries a journal stays numbered. -/
theorem Numbered.drop (h : u.Numbered) (n : Nat) : Numbered { u with journal := u.journal.drop n } := by
  obtain ⟨few, indices⟩ := h
  refine ⟨(List.length_drop ▸ Nat.sub_le ..).trans few, fun m x stands => ?_⟩
  rw [List.getElem?_drop] at stands
  rw [indices _ x stands, List.length_drop, Nat.sub_sub]

/-- R175: the entry appended takes the next index. -/
theorem Numbered.concat (h : u.Numbered) (few : u.journal.length < 256) (y : Entry) (index : y.index = u.nextIndex) :
    Numbered { u with journal := u.journal ++ [y], nextIndex := u.nextIndex + 1 } := by
  obtain ⟨-, indices⟩ := h
  have length : (u.journal ++ [y]).length = u.journal.length + 1 := List.length_append
  refine ⟨length.trans_le few, fun n x stands => ?_⟩
  rw [length]
  have older : x.index = u.nextIndex - BitVec.ofNat 16 (u.journal.length - n) ∧ n ≤ u.journal.length := by
    rw [List.getElem?_append] at stands
    split at stands
    · rename_i older
      exact ⟨indices n x stands, older.le⟩
    · rename_i newest
      rw [List.getElem?_singleton] at stands
      split at stands
      · cases stands
        rw [index, show u.journal.length - n = 0 by omega]
        exact ⟨(BitVec.sub_zero _).symm, by omega⟩
      · cases stands
  obtain ⟨index, le⟩ := older
  rw [index, show u.journal.length + 1 - n = u.journal.length - n + 1 by omega, BitVec.ofNat_add]
  exact (add_sub_add_right_eq_sub ..).symm

/-- R175, R176: a full journal loses its oldest entry to the one appended. -/
theorem Numbered.append (h : u.Numbered) (s : Source) (k : Kind) (d : List Int) : (u.appended e s k d).Numbered := by
  obtain ⟨n, kept⟩ := u.kept_eq_drop
  have numbered := h.drop n
  rw [← kept] at numbered
  exact numbered.concat u.kept_few ⟨u.nextIndex, e.time.stamp, s, k, d⟩ rfl

theorem unitLaw_numbered : UnitLaw Numbered where
  append s k d h := h.append s k d
  raise _ h := h.same (raise_journal ..) (raise_nextIndex ..)
  latch _ h := h.same (latch_journal ..) (latch_nextIndex ..)
  changes change h := by
    cases change with
    | clearAttention | setMask | acknowledge => exact h.same rfl rfl
    | release n => exact h.drop n
    | holdoffExpires | beginNotice => exact h.same (tryNotice_journal ..) (tryNotice_nextIndex ..)
  reset := ⟨Nat.zero_le _, nofun⟩
  afterReset h := h.same rfl rfl

/-! ### The ALARM contact (R181) -/

/-- R181: the ALARM contact is energised exactly while a flag is set. -/
def ContactShows (u : JournalUnit) : Prop := u.contact = true ↔ ∃ a, u.latched.get a = true

theorem ContactShows.same (h : u.ContactShows) (latched : v.latched = u.latched) (contact : v.contact = u.contact) :
    v.ContactShows := by
  unfold ContactShows
  rw [latched, contact]
  exact h

theorem ContactShows.latch (h : u.ContactShows) (a : Alarm) : (u.latch e a).ContactShows := by
  cases flag : u.latched.get a with
  | true => rwa [latch_set flag]
  | false =>
    refine iff_of_true ?_ ⟨a, by rw [latch_latched, if_pos rfl]⟩
    rw [latch_contact, flag, Bool.not_false, Bool.or_true]

theorem unitLaw_contactShows : UnitLaw ContactShows where
  append _ _ _ h := h
  raise _ h := h.same (raise_latched ..) (raise_contact ..)
  latch a h := h.latch a
  changes change h := by
    cases change with
    | clearAttention | setMask | release => exact h.same rfl rfl
    | acknowledge live => exact AlarmFlags.any_iff _
    | holdoffExpires | beginNotice => exact h.same (tryNotice_latched ..) (tryNotice_contact ..)
  reset := iff_of_false Bool.false_ne_true fun ⟨a, set⟩ =>
    Bool.false_ne_true ((AlarmFlags.get_clear a).symm.trans set)
  afterReset _ := iff_of_false Bool.false_ne_true fun ⟨a, set⟩ =>
    Bool.false_ne_true ((AlarmFlags.get_clear a).symm.trans set)

/-! ### The notices (R187 to R189) -/

/-- R187: only enabled flags are pending. -/
def PendingEnabled (u : JournalUnit) : Prop := ∀ f, u.pendingFlags.get f = true → u.mask.get f = true

/-- R188: while a flag is pending, the holdoff timer runs or a notice waits. -/
def PendingWaits (u : JournalUnit) : Prop := (∃ f, u.pendingFlags.get f = true) → u.holdoff.isSome ∨ u.notice.isSome

/-- R188: after the attempt to form a notice no pending flag is overlooked. -/
theorem tryNotice_pendingWaits (e : Env) (u : JournalUnit) : (u.tryNotice e).PendingWaits := by
  rcases tryNotice_cases e u with ⟨same, waits⟩ | formed
  · rwa [same]
  · rw [formed]
    exact fun _ => .inl rfl

theorem PendingEnabled.tryNotice (h : u.PendingEnabled) : (u.tryNotice e).PendingEnabled := by
  rcases tryNotice_cases e u with ⟨same, -⟩ | formed
  · rwa [same]
  · rw [formed]
    exact fun f pending => absurd ((FlagSet.get_empty f).symm.trans pending) Bool.false_ne_true

/-- R187 to R189. -/
def NoticesDue (u : JournalUnit) : Prop := u.PendingEnabled ∧ u.PendingWaits

theorem NoticesDue.raise (h : u.NoticesDue) (f : AttentionFlag) : (u.raise e f).NoticesDue := by
  cases flag : u.attention.get f with
  | true => rwa [raise_set flag]
  | false =>
    cases enabled : u.mask.get f with
    | false => rwa [raise_disabled flag enabled]
    | true =>
      rw [raise_enabled flag enabled]
      refine ⟨PendingEnabled.tryNotice fun g pending => ?_, tryNotice_pendingWaits _ _⟩
      rw [FlagSet.get_set] at pending
      split at pending
      · rename_i same
        exact same ▸ enabled
      · exact h.1 g pending

/-- R189: flags that the mask disables leave the pending set. -/
theorem NoticesDue.setMask (h : u.NoticesDue) (m : FlagSet) : (u.setMask m).NoticesDue := by
  obtain ⟨-, waits⟩ := h
  have both (f : AttentionFlag) (pending : (u.setMask m).pendingFlags.get f = true) :
      u.pendingFlags.get f = true ∧ m.get f = true := by
    rwa [JournalUnit.setMask, FlagSet.get_inter, Bool.and_eq_true] at pending
  exact ⟨fun f pending => (both f pending).2, fun ⟨f, pending⟩ => waits ⟨f, (both f pending).1⟩⟩

theorem noticesDue_clean (pending : u.pendingFlags = FlagSet.empty) : u.NoticesDue := by
  unfold NoticesDue PendingEnabled PendingWaits
  rw [pending]
  exact ⟨fun f set => absurd ((FlagSet.get_empty f).symm.trans set) Bool.false_ne_true,
    fun ⟨f, set⟩ => absurd ((FlagSet.get_empty f).symm.trans set) Bool.false_ne_true⟩

theorem unitLaw_noticesDue : UnitLaw NoticesDue where
  append _ _ _ h := h
  raise f h := h.raise f
  latch {e u} a h := by
    cases flag : u.latched.get a with
    | true => rwa [latch_set flag]
    | false =>
      rw [latch_clear flag]
      exact NoticesDue.raise (u := { u with latched := u.latched.set a, contact := true }) h .alarm
  changes change h := by
    obtain ⟨enabled, waits⟩ := h
    cases change with
    | clearAttention | release | acknowledge => exact ⟨enabled, waits⟩
    | setMask m => exact NoticesDue.setMask ⟨enabled, waits⟩ m
    | holdoffExpires | beginNotice => exact ⟨PendingEnabled.tryNotice enabled, tryNotice_pendingWaits _ _⟩
  reset := noticesDue_clean rfl
  afterReset _ := noticesDue_clean rfl

end JournalUnit

theorem journalLaw_step {s t : State} (law : s.journalLaw) (stepped : step s = .next t) : t.journalLaw :=
  JournalUnit.unitLaw_numbered.plantLaw.step law stepped

theorem noticeLaw_step {s t : State} (law : s.noticeLaw) (stepped : step s = .next t) : t.noticeLaw :=
  JournalUnit.unitLaw_noticesDue.plantLaw.step law stepped

theorem contactShows_step {s t : State} (law : s.plant.unit.ContactShows) (stepped : step s = .next t) :
    t.plant.unit.ContactShows :=
  JournalUnit.unitLaw_contactShows.plantLaw.step law stepped

end Sys2Proof.Machine
end

section
/-! PROOFS. The law that every live condition is latched, through the blocks' small changes and the events of the
settings store. A change of a record makes SETTINGS_INVALID live before the alarm latches, so the law speaks of that
condition as of a value of its own, which is the store's again once the alarm has followed (O51). -/

namespace Sys2Proof.Machine

variable {e : Env} {b : Bool}

/-! ### Conditions (R180) -/

/-- R180: the live condition of each alarm, with a value for SETTINGS_INVALID. -/
def Plant.condition (settings : Bool) (e : Env) (p : Plant) : Alarm → Bool
  | .supplyLost => p.tracker.supplyLost
  | .clockFallback => decide (e.time.source = .fallback)
  | .timeUnsync => e.time.unsync
  | .rectTripped => p.rect.trippedLive
  | .settingsInvalid => settings
  | .railPermanent => p.rail.permanentLive
  | .frameFault => p.rail.frameFault
  | .journalOverflow => false
  | .bindingFault k => (e.store.binding.get k).faultLive
  | .lockedOut k => (p.feeder k).lockedOutLive
  | .thermalAlarm k => (p.disc k).alarm
  | .itemFail i => (p.item i).failLive
  | .unsensed i => (p.item i).unsensedLive
  | .discrepant _ => false

theorem Plant.live_get (e : Env) (p : Plant) (a : Alarm) :
    (p.live e).get a = p.condition e.store.settingsInvalid e a := by
  cases a with
  | bindingFault k => exact Six.get_map Binding.faultLive _ k
  | lockedOut k => exact Six.get_map Sequencer.lockedOutLive _ k
  | thermalAlarm k => exact Six.get_map Discriminator.alarm _ k
  | itemFail i => exact PerItem.get_map Item.failLive _ i
  | unsensed i => exact PerItem.get_map Item.unsensedLive _ i
  | discrepant i => exact PerItem.get_all false i
  | _ => rfl

/-- R180: every live condition has its latched flag set. -/
def Plant.Latches (settings : Bool) (e : Env) (p : Plant) : Prop :=
  ∀ a, p.condition settings e a = true → p.unit.latched.get a = true

/-! ### The small changes of the blocks -/

namespace Plant

variable {p q : Plant} {k : FeederId} {i : ItemId}

/-- Flags stay set, and a condition that was not live before is latched. -/
theorem Latches.change {before after : Bool} {e' : Env} (h : p.Latches before e)
    (latched : ∀ a, p.unit.latched.get a = true → q.unit.latched.get a = true)
    (live : ∀ a, q.condition after e' a = true → p.condition before e a = true ∨ q.unit.latched.get a = true) :
    q.Latches after e' :=
  fun a isLive => (live a isLive).elim (fun was => latched a (h a was)) id

/-- A change of the unit alone that clears no flag. -/
theorem Latches.logs {l : List Entry} {u : JournalUnit} (h : p.Latches b e) (logs : JournalUnit.Logs l p.unit u) :
    ({ p with unit := u } : Plant).Latches b e :=
  h.change logs.latched fun _ isLive => .inl isLive

theorem Latches.post (h : p.Latches b e) (s : Source) (kd : Kind) (d : List Int) : (p.post e s kd d).Latches b e :=
  h.logs (JournalUnit.logs_post ..)

theorem Latches.disc {d : Discriminator} (h : p.Latches b e) (same : d.alarm = (p.disc k).alarm) :
    (p.setDisc k d).Latches b e := by
  refine h.change (fun _ => id) fun a isLive => .inl ?_
  cases a with
  | thermalAlarm j =>
    simp only [condition, disc_setDisc] at isLive
    split at isLive
    · rename_i here
      rw [condition, here, ← same, isLive]
    · exact isLive
  | _ => exact isLive

theorem Latches.seq {f : Sequencer} (h : p.Latches b e)
    (locked : f.lockedOutLive = true → (p.feeder k).lockedOutLive = true) : (p.setFeeder k f).Latches b e := by
  refine h.change (fun _ => id) fun a isLive => .inl ?_
  cases a with
  | lockedOut j =>
    simp only [condition, feeder_setFeeder] at isLive
    split at isLive
    · rename_i here
      rw [condition, here, locked isLive]
    · exact isLive
  | _ => exact isLive

theorem Latches.item {it : Item} (h : p.Latches b e) (fails : it.failLive = true → (p.item i).failLive = true)
    (unsensed : it.unsensedLive = true → (p.item i).unsensedLive = true) : (p.setItem i it).Latches b e := by
  refine h.change (fun _ => id) fun a isLive => .inl ?_
  cases a with
  | itemFail j =>
    simp only [condition, item_setItem] at isLive
    split at isLive
    · rename_i here
      rw [condition, here, fails isLive]
    · exact isLive
  | unsensed j =>
    simp only [condition, item_setItem] at isLive
    split at isLive
    · rename_i here
      rw [condition, here, unsensed isLive]
    · exact isLive
  | _ => exact isLive

/-- R180: a change after which only the condition of `c` may be newly live, and is then latched. -/
theorem Latches.latchIfNew {c : Alarm} {now : Bool} (h : p.Latches b e) (unit : q.unit = p.unit)
    (others : ∀ a, a ≠ c → q.condition b e a = true → p.condition b e a = true)
    (live : q.condition b e c = true → now = true) :
    (q.latchIfNew e c (p.condition b e c) now).Latches b e := by
  have logs : JournalUnit.Logs [] p.unit (q.latchIfNew e c (p.condition b e c) now).unit :=
    unit ▸ JournalUnit.logs_latchIfNew ..
  refine h.change logs.latched fun a isLive => ?_
  by_cases same : a = c
  · subst same
    exact .inr (JournalUnit.latchIfNew_latched (fun was => unit ▸ h a was) (live isLive))
  · exact .inl (others a same isLive)

/-- R180: a change after which only the condition of `c` may be newly live, with `c` latched. -/
theorem Latches.latch {c : Alarm} (h : p.Latches b e) (unit : q.unit = p.unit)
    (others : ∀ a, a ≠ c → q.condition b e a = true → p.condition b e a = true) : (q.latch e c).Latches b e := by
  have logs : JournalUnit.Logs [] p.unit (q.latch e c).unit := unit ▸ JournalUnit.logs_latch ..
  refine h.change logs.latched fun a isLive => ?_
  by_cases same : a = c
  · subst same
    exact .inr ((JournalUnit.latch_latched ..).trans (if_pos rfl))
  · exact .inl (others a same isLive)

theorem Latches.rect {r : Rectifier} {l : List FeederId} (h : p.Latches b e)
    (trips : r.trippedLive = true → p.rect.trippedLive = true) :
    ({ p with pendingOpen := l, rect := r } : Plant).Latches b e := by
  refine h.change (fun _ => id) fun a isLive => .inl ?_
  cases a with
  | rectTripped => exact trips isLive
  | _ => exact isLive

/-- R135: the entry into RETARD trips nothing. -/
theorem Latches.join (h : p.Latches b e) : (p.joinPending e k).Latches b e := by
  have joined : ({ p with pendingOpen := pendingWith k p.pendingOpen } : Plant).Latches b e := h
  unfold joinPending retardEntry
  dsimp only
  split
  · split
    case h_4 => exact joined
    all_goals
      refine Latches.post (Latches.rect h ?_) _ _ _
      exact id
  · exact joined

/-- R136: nor does the exit from it. -/
theorem Latches.leave (h : p.Latches b e) : (p.leavePending e k).Latches b e := by
  have left : ({ p with pendingOpen := p.pendingOpen.filter (· ≠ k) } : Plant).Latches b e := h
  unfold leavePending retardExit
  dsimp only
  split
  · split
    · refine Latches.post (Latches.rect h ?_) _ _ _
      exact id
    · exact left
  · exact left

end Plant

/-- R180: each small change that makes a condition live latches its alarm. -/
theorem kept_latches (b : Bool) (e : Env) : Kept e (fun _ p => p.Latches b e) where
  weaken _ h := h
  post s k d h := h.post s k d
  raise _ h := h.logs (JournalUnit.logs_raise ..)
  latch _ h := h.logs (JournalUnit.logs_latch ..)
  claim _ _ h := h
  disc _ _ h same := h.disc same
  heat {x p} k d h := by
    refine Plant.Latches.latchIfNew (c := .thermalAlarm k) h rfl (fun a other isLive => ?_) fun isLive => ?_
    · cases a with
      | thermalAlarm j =>
        have elsewhere : j ≠ k := fun same => other (congrArg Alarm.thermalAlarm same)
        rwa [Plant.condition, Plant.disc_setDisc, if_neg elsewhere] at isLive
      | _ => exact isLive
    · rwa [Plant.condition, Plant.disc_setDisc, if_pos rfl] at isLive
  seq _ _ h quiet := by
    obtain ⟨-, -, locked, -⟩ := quiet
    refine h.seq fun isLive => ?_
    exact decide_eq_true (locked (of_decide_eq_true isLive))
  lock {x p} k c h _ := by
    refine Plant.Latches.latchIfNew (c := .lockedOut k) h rfl (fun a other isLive => ?_) fun _ => rfl
    cases a with
    | lockedOut j =>
      have elsewhere : j ≠ k := fun same => other (congrArg Alarm.lockedOut same)
      rwa [Plant.condition, Plant.feeder_onFeeder, if_neg elsewhere] at isLive
    | _ => exact isLive
  join {p} k reclose exit h := by
    have calm : (Sequencer.enterTripping reclose exit (p.feeder k)).lockedOutLive = false := rfl
    exact (h.seq fun isLive => absurd (calm.symm.trans isLive) Bool.false_ne_true).join
  leave _ h _ := h.leave
  item _ _ h quiet := h.item quiet.2.1 quiet.2.2
  itemFails {x p} i op h := by
    have sensed : ((p.item i).failOperation op).unsensedLive = (p.item i).unsensedLive := rfl
    refine Plant.Latches.latchIfNew (c := .itemFail i) h rfl (fun a other isLive => ?_) fun _ => rfl
    cases a with
    | itemFail j =>
      have elsewhere : j ≠ i := fun same => other (congrArg Alarm.itemFail same)
      rwa [Plant.condition, Plant.item_setItem, if_neg elsewhere] at isLive
    | unsensed j =>
      rw [Plant.condition, Plant.item_setItem] at isLive
      split at isLive
      · rename_i here
        rwa [Plant.condition, here, ← sensed]
      · exact isLive
    | _ => exact isLive
  itemUnsensed {x p} i it h _ fails := by
    refine Plant.Latches.latch (c := .unsensed i) h rfl fun a other isLive => ?_
    cases a with
    | unsensed j =>
      have elsewhere : j ≠ i := fun same => other (congrArg Alarm.unsensed same)
      rwa [Plant.condition, Plant.item_setItem, if_neg elsewhere] at isLive
    | itemFail j =>
      rw [Plant.condition, Plant.item_setItem] at isLive
      split at isLive
      · rename_i here
        rw [Plant.condition, here, fails isLive]
      · exact isLive
    | _ => exact isLive
  rect r h trips _ := h.rect trips
  rectTrips r h _ := by
    refine h.latch (c := .rectTripped) rfl fun a other isLive => ?_
    cases a with
    | rectTripped => exact absurd rfl other
    | _ => exact isLive
  rail r h fault permanent := by
    refine h.change (fun _ => id) fun a isLive => .inl ?_
    cases a with
    | railPermanent => exact decide_eq_true (permanent (of_decide_eq_true isLive))
    | frameFault => exact fault isLive
    | _ => exact isLive
  railPermanent r h fault := by
    refine h.latchIfNew (c := .railPermanent) rfl (fun a other isLive => ?_) fun _ => rfl
    cases a with
    | railPermanent => exact absurd rfl other
    | frameFault => exact fault isLive
    | _ => exact isLive
  frameFault r h permanent := by
    refine h.latchIfNew (c := .frameFault) rfl (fun a other isLive => ?_) fun _ => rfl
    cases a with
    | frameFault => exact absurd rfl other
    | railPermanent => exact decide_eq_true (permanent (of_decide_eq_true isLive))
    | _ => exact isLive
  tracker t h := by
    refine h.latchIfNew (c := .supplyLost) rfl (fun a other isLive => ?_) id
    cases a with
    | supplyLost => exact absurd rfl other
    | _ => exact isLive
  trackerQuiet t h lost := by
    refine h.change (fun _ => id) fun a isLive => .inl ?_
    cases a with
    | supplyLost => exact lost isLive
    | _ => exact isLive
  capture h := h

end Sys2Proof.Machine
end

section
/-! PROOFS. The latched conditions through the events of the settings store and the resets (O51). -/

namespace Sys2Proof.Machine

namespace Store

variable {a b : Store} {n : SetId}

/-- R48: SETTINGS_INVALID is read off what the records present. -/
theorem settingsInvalid_congr (sets : ∀ n : SetId, (b.sets[n]).isInvalid = (a.sets[n]).isInvalid)
    (station : b.station.isInvalid = a.station.isInvalid) : b.settingsInvalid = a.settingsInvalid := by
  unfold settingsInvalid
  rw [station, funext sets]

/-- R52: a record that is programmed presents what it presented. -/
theorem settingsInvalid_program (st : Store) (n : SetId) (write : Option WriteInProgress) :
    Store.settingsInvalid { st.setRecord n (st.sets[n]).program with write := write } = st.settingsInvalid :=
  settingsInvalid_congr (fun m => st.setRecord_program n m StoredRecord.isInvalid rfl) rfl

end Store

namespace State

variable {s t : State} {b : Bool} {k : FeederId} {n : SetId}

/-- R180: every live condition is latched, with a value for SETTINGS_INVALID. -/
def Latches (settings : Bool) (s : State) : Prop := s.plant.Latches settings s.env

/-- R180: every live condition is latched. -/
def AlarmsLatched (s : State) : Prop := s.Latches s.store.settingsInvalid

theorem alarmLaw_iff (s : State) : s.alarmLaw ↔ s.AlarmsLatched ∧ s.plant.unit.ContactShows :=
  and_congr_left' (forall_congr' fun a => by rw [Plant.live_get]; rfl)

/-- An event of the plant's blocks. -/
theorem Latches.event {f : Env → Plant → Plant} (h : s.Latches b)
    (event : ∀ {P : Option FeederId → Plant → Prop}, Kept s.env P → P none s.plant → P none (f s.env s.plant)) :
    (s.onPlant f).Latches b := event (kept_latches b s.env) h

theorem Latches.post (h : s.Latches b) (source : Source) (kind : Kind) (details : List Int) :
    (s.onPlant (fun e p => p.post e source kind details)).Latches b := h.event fun K => K.post _ _ _

/-! ### The settings store -/

/-- R65: a binding that is replaced, with BINDING_FAULT latched where it is newly at fault. -/
theorem Latches.rebind {before : Bool} {new : Binding} (h : s.Latches b)
    (was : before = true → s.plant.unit.latched.get (.bindingFault k) = true) :
    (State.onPlant { s with store := s.store.replaceBinding k new }
      (fun e p => (p.postBinding e k new).latchIfNew e (.bindingFault k) before new.faultLive)).Latches b := by
  have logs : JournalUnit.Logs _ s.plant.unit
      (JournalUnit.latchIfNew ⟨s.time, s.front, s.store.replaceBinding k new⟩ (.bindingFault k) before new.faultLive
        (JournalUnit.post ⟨s.time, s.front, s.store.replaceBinding k new⟩ (.feeder k)
          (if new.faultLive then .bindingFault else .bindingChanged)
          [new.feed.code, bindingCode new.set, new.fault.code] s.plant.unit)) :=
    (JournalUnit.logs_post ..).trans (JournalUnit.logs_latchIfNew ..)
  refine Plant.Latches.change h logs.latched fun a isLive => ?_
  cases a with
  | bindingFault j =>
    by_cases here : j = k
    · subst here
      refine .inr (JournalUnit.latchIfNew_latched (fun live => ?_) ?_)
      · exact (JournalUnit.logs_post ..).latched _ (was live)
      · simpa [Plant.condition, State.env, Store.replaceBinding] using isLive
    · exact .inl (by simpa [Plant.condition, State.env, Store.replaceBinding, here] using isLive)
  | _ => exact .inl isLive

theorem Latches.resolve (h : s.Latches b) (k : FeederId) : (s.resolve k).Latches b := by
  unfold State.resolve
  dsimp only
  split
  · exact h
  · exact Latches.event (h.rebind (new := s.store.resolved k) fun live => h (.bindingFault k) live)
      (f := fun e p => p.cutAttempts e k) fun K => K.cutAttempts k

theorem Latches.resolveNaming (h : s.Latches b) (n : SetId) : (s.resolveNaming n).Latches b :=
  List.foldlRecOn (motive := fun s : State => s.Latches b) _ _ h fun _ h k _ => h.resolve k

theorem Latches.cutNaming (h : s.Latches b) (n : SetId) : (s.cutNaming n).Latches b := by
  refine h.event fun {P} K q => List.foldlRecOn (motive := P none) FeederId.all _ q fun p q k _ => ?_
  split
  · exact K.cutAttempts k q
  · exact q

/-- R48, R180: the alarm follows the condition. -/
theorem Latches.settingsCondition {before : Bool} (h : s.Latches before) :
    (s.settingsCondition before).AlarmsLatched := by
  have logs : JournalUnit.Logs [] s.plant.unit
      (JournalUnit.latchIfNew s.env .settingsInvalid before s.store.settingsInvalid s.plant.unit) :=
    JournalUnit.logs_latchIfNew ..
  refine Plant.Latches.change h logs.latched fun a isLive => ?_
  cases a with
  | settingsInvalid => exact .inr (JournalUnit.latchIfNew_latched (fun live => h .settingsInvalid live) isLive)
  | _ => exact .inl isLive

theorem Latches.presentStation (h : s.Latches b) : s.presentStation.Latches b := by
  refine h.event fun K q => ?_
  have supplied := K.supplySettings q
  dsimp only
  split
  · exact K.rectNewSettings _ supplied
  · exact K.rectSettingsLost supplied

theorem Resolves.settingsInvalid {ks : List FeederId} (h : Resolves ks s t) :
    t.store.settingsInvalid = s.store.settingsInvalid :=
  Store.settingsInvalid_congr (fun n => by rw [h.sets]) (by rw [h.station])

theorem AlarmsLatched.resolveNaming (h : s.AlarmsLatched) (n : SetId) : (s.resolveNaming n).AlarmsLatched := by
  unfold AlarmsLatched
  rw [(resolves_resolveNaming n s).settingsInvalid]
  exact Latches.resolveNaming h n

theorem AlarmsLatched.resolve (h : s.AlarmsLatched) (k : FeederId) : (s.resolve k).AlarmsLatched := by
  unfold AlarmsLatched
  rw [(resolves_resolve k s).settingsInvalid]
  exact Latches.resolve h k

theorem AlarmsLatched.presentStation (h : s.AlarmsLatched) : s.presentStation.AlarmsLatched :=
  Latches.presentStation h

theorem AlarmsLatched.reply (h : s.AlarmsLatched) (payload : List Byte) : (s.reply payload).AlarmsLatched := h

/-- A change of the store that leaves the bindings alone: SETTINGS_INVALID is still to follow. -/
theorem AlarmsLatched.withStore {st : Store} (h : s.AlarmsLatched) (binding : st.binding = s.store.binding) :
    ({ s with store := st } : State).Latches s.store.settingsInvalid := by
  refine Plant.Latches.change h (fun _ => id) fun a isLive => .inl ?_
  unfold Plant.condition State.env at isLive ⊢
  rwa [binding] at isLive

theorem AlarmsLatched.completeSet (h : s.AlarmsLatched) (n : SetId) (fields readBack : SetFields) :
    (s.completeSet n fields readBack).AlarmsLatched := by
  unfold State.completeSet
  dsimp only
  split
  · refine AlarmsLatched.reply (Latches.settingsCondition (Latches.cutNaming (Latches.resolveNaming ?_ n) n)) _
    exact Latches.post (h.withStore (by rfl)) _ _ _
  · refine AlarmsLatched.reply (Latches.settingsCondition (Latches.resolveNaming ?_ n)) _
    exact Latches.post (h.withStore (by rfl)) _ _ _

theorem AlarmsLatched.completeStation (h : s.AlarmsLatched) (fields readBack : StationFields) :
    (s.completeStation fields readBack).AlarmsLatched := by
  unfold State.completeStation
  dsimp only
  split
  all_goals
    refine AlarmsLatched.reply (AlarmsLatched.presentStation (Latches.settingsCondition ?_)) _
    exact Latches.post (h.withStore (by rfl)) _ _ _

theorem AlarmsLatched.completeEntry (h : s.AlarmsLatched) (k : FeederId) (f : FeedState)
    (value readBack : Option SetId) : (s.completeEntry k f value readBack).AlarmsLatched := by
  unfold State.completeEntry
  dsimp only
  split
  all_goals
    refine AlarmsLatched.reply (AlarmsLatched.resolve ?_ k) _
    exact Latches.post (h.withStore (by rfl)) _ _ _

theorem AlarmsLatched.visit (h : s.AlarmsLatched) (found : Option FoundRecord) : (s.visit found).AlarmsLatched := by
  rcases s.scan_cases with ⟨n, set⟩ | station
  · rw [State.visit_set set, State.visitSet]
    split
    · dsimp only
      split
      · exact h
      · refine AlarmsLatched.resolveNaming (Latches.settingsCondition ?_) n
        exact Latches.post (h.withStore (by rfl)) _ _ _
    · exact h
  · rw [State.visit_station station, State.visitStation]
    split
    · dsimp only
      split
      · exact h
      · refine AlarmsLatched.presentStation (Latches.settingsCondition ?_)
        exact Latches.post (h.withStore (by rfl)) _ _ _
    · exact h

theorem AlarmsLatched.eraseSet (h : s.AlarmsLatched) (n : SetId) : (s.eraseSet n).AlarmsLatched := by
  refine AlarmsLatched.resolveNaming (Latches.settingsCondition ?_) n
  exact Latches.post (h.withStore (by rfl)) _ _ _

theorem AlarmsLatched.applyFeedState (h : s.AlarmsLatched) (k : FeederId) (f : FeedState) :
    (s.applyFeedState k f).AlarmsLatched := by
  unfold State.applyFeedState
  dsimp only
  split
  · exact h
  · refine AlarmsLatched.resolve ?_ k
    exact Latches.post (h.withStore (by rfl)) _ _ _

/-! ### The resets (R49, R184) -/

/-- An event of the start-up that leaves the bindings alone. -/
theorem Latches.startsUp {l : List Entry} (h : s.Latches b) (starts : StartsUp l s t) (store : t.store = s.store) :
    t.Latches b := by
  obtain ⟨unit, binding, inUse, rfl⟩ := starts.frame
  refine Plant.Latches.change h starts.logs.latched fun a isLive => .inl ?_
  unfold Plant.condition State.env at isLive ⊢
  rw [store] at isLive
  exact isLive

/-- R49 step 4: the first resolution of a binding. -/
theorem AlarmsLatched.bindAtStart (h : s.AlarmsLatched) (k : FeederId) : (s.bindAtStart k).AlarmsLatched :=
  Latches.rebind (before := false) h nofun

/-- R184: at the first instant after a reset, three conditions may be live. -/
theorem condition_atFirstInstant {x : ResetInputs} {cause : ResetCause} {time : TimeBase} {records : RecordStore}
    {unit : JournalUnit} {energy : Energy} {a : Alarm}
    (live : (s.atFirstInstant x cause time records unit energy).plant.condition false
      (s.atFirstInstant x cause time records unit energy).env a = true) :
    a = .supplyLost ∨ a = .timeUnsync ∨ a = .clockFallback := by
  cases a with
  | supplyLost | timeUnsync | clockFallback => simp
  | bindingFault k | lockedOut k | thermalAlarm k => cases k <;> cases live
  | itemFail i | unsensed i =>
    cases i with
    | fb k | tc k => cases k <;> cases live
    | re | acb => cases live
  | _ => cases live

/-- R184: each of the conditions of the first instant is latched. -/
theorem latches_startConditions
    (start : ∀ a, s.plant.condition false s.env a = true → a = .supplyLost ∨ a = .timeUnsync ∨ a = .clockFallback) :
    s.startConditions.Latches false := by
  intro a live
  have latches (c : Alarm) (now : Bool) (u : JournalUnit) (isLive : now = true) :
      (JournalUnit.latchIfNew s.env c false now u).latched.get c = true :=
    JournalUnit.latchIfNew_latched nofun isLive
  have later (c d : Alarm) (now : Bool) (u : JournalUnit) (set : u.latched.get d = true) :
      (JournalUnit.latchIfNew s.env c false now u).latched.get d = true :=
    (JournalUnit.logs_latchIfNew ..).latched d set
  rcases start a live with rfl | rfl | rfl
  · exact later _ _ _ _ (later _ _ _ _ (latches _ _ _ live))
  · exact later _ _ _ _ (latches _ _ _ live)
  · exact latches _ _ _ live

theorem alarmsLatched_resetWith (x : ResetInputs) (cause : ResetCause) (time : TimeBase) (records : RecordStore)
    (unit : JournalUnit) (energy : Energy) (s : State) :
    (s.resetWith x cause time records unit energy).AlarmsLatched := by
  rw [resetWith_eq_startUp]
  have conditions : (s.atFirstInstant x cause time records unit energy).postStartUp.startConditions.Latches false :=
    latches_startConditions fun a live => condition_atFirstInstant live
  obtain ⟨_, -, fallback⟩ := startsUp_postStartFallback
    (s.atFirstInstant x cause time records unit energy).postStartUp.startConditions
  have posted := conditions.startsUp fallback (postStartFallback_store _)
  obtain ⟨_, -, sets⟩ := startsUp_postInvalidSets
    (s.atFirstInstant x cause time records unit energy).postStartUp.startConditions.postStartFallback
  have named := posted.startsUp sets (postInvalidSets_store _)
  obtain ⟨_, -, rest, -⟩ := startsUp_postInvalidRest s.store.cutEntry
    (s.atFirstInstant x cause time records unit energy).postStartUp.startConditions.postStartFallback.postInvalidSets
  have settled := Latches.settingsCondition (named.startsUp rest (postInvalidRest_store _ _))
  exact List.foldlRecOn (motive := AlarmsLatched) _ _ settled fun _ h k _ => h.bindAtStart k

end State

end Sys2Proof.Machine
end

section
/-! PROOFS. The walk through the commands for the latched conditions, and the laws of the journal, the alarms and the
notices together (O51). -/

namespace Sys2Proof.Machine

namespace State.AlarmsLatched

variable {s : State} (h : s.AlarmsLatched)
include h

/-- A change of the time base that brings neither FALLBACK nor UNSYNC. -/
theorem withTime {time : TimeBase} (fallback : time.source = .fallback → s.time.source = .fallback)
    (unsync : time.unsync = true → s.time.unsync = true) : AlarmsLatched { s with time := time } := by
  refine Plant.Latches.change h (fun _ => id) fun a isLive => .inl ?_
  cases a with
  | clockFallback => exact decide_eq_true (fallback (of_decide_eq_true isLive))
  | timeUnsync => exact unsync isLive
  | _ => exact isLive

/-- A change of the unit that keeps the flags. -/
theorem withUnit {u : JournalUnit} (latched : u.latched = s.plant.unit.latched) :
    AlarmsLatched { s with plant := { s.plant with unit := u } } :=
  Plant.Latches.change h (fun _ set => latched ▸ set) fun _ isLive => .inl isLive

/-- A change of the store that leaves SETTINGS_INVALID and the bindings alone. -/
theorem withSameStore {st : Store} (settings : st.settingsInvalid = s.store.settingsInvalid)
    (binding : st.binding = s.store.binding) : AlarmsLatched { s with store := st } := by
  unfold AlarmsLatched
  rw [settings]
  exact h.withStore binding

/-- An event of the plant's blocks. -/
theorem event {f : Env → Plant → Plant}
    (event : ∀ {P : Option FeederId → Plant → Prop}, Kept s.env P → P none s.plant → P none (f s.env s.plant)) :
    (s.onPlant f).AlarmsLatched := Latches.event h event

/-! ### The settings requests -/

theorem serveWriteSet (number : Byte) (fields : SetFields) : (serveWriteSet number fields s).1.AlarmsLatched := by
  refine needsKey_preserves ?_ h
  split
  · exact h
  · split
    · exact h
    · exact h.withSameStore (s.store.settingsInvalid_program _ _) rfl

theorem serveReadSet (number : Byte) : (serveReadSet number s).1.AlarmsLatched := by
  unfold Machine.serveReadSet
  split <;> exact h

theorem serveEraseSet (number : Byte) : (serveEraseSet number s).1.AlarmsLatched := by
  refine needsKey_preserves ?_ h
  split
  · exact h
  · split
    · exact h
    · exact h.eraseSet _

theorem serveWriteMapEntry (feeder feedState value : Byte) :
    (serveWriteMapEntry feeder feedState value s).1.AlarmsLatched := by
  refine needsKey_preserves (withFeeder_preserves (fun k => ?_) h) h
  split
  · exact h
  · split
    · exact h
    · exact h.withSameStore rfl rfl

theorem serveWriteStationRecord (fields : StationFields) : (serveWriteStationRecord fields s).1.AlarmsLatched := by
  refine needsKey_preserves ?_ h
  split
  · exact h
  · exact h.withSameStore (Store.settingsInvalid_congr (fun _ => rfl) rfl) rfl

theorem serveSetFeedState (feeder feedState : Byte) : (serveSetFeedState feeder feedState s).1.AlarmsLatched :=
  withFeeder_preserves (fun k => h.applyFeedState k _) h

/-! ### The station requests -/

theorem serveSetTime (count : Millis) : (serveSetTime count s).1.AlarmsLatched :=
  (h.withTime (time := s.time.load count) id nofun).event fun K => K.post _ _ _

theorem serveRestart : (serveRestart s).1.AlarmsLatched := needsRemote_preserves h h

theorem serveClearEnergy : (serveClearEnergy s).1.AlarmsLatched :=
  needsKey_preserves (event (s := { s with energy := s.energy.clear }) h fun K => K.post _ _ _) h

/-! ### The requests of the plant's blocks -/

theorem serveReadFeeder (feeder : Byte) : (serveReadFeeder feeder s).1.AlarmsLatched :=
  withFeeder_preserves (fun _ => h) h

theorem serveFeederClose (feeder : Byte) : (serveFeederClose feeder s).1.AlarmsLatched := by
  refine needsRemote_preserves (withFeeder_preserves (fun k => ?_) h) h
  split
  · rename_i may
    exact h.event fun K => K.manualClose k may
  · exact h

theorem serveFeederOpen (feeder : Byte) : (serveFeederOpen feeder s).1.AlarmsLatched := by
  refine needsRemote_preserves (withFeeder_preserves (fun k => ?_) h) h
  split
  · exact h.event fun K => K.manualOpen k
  · exact h

theorem serveResetLockout (feeder : Byte) : (serveResetLockout feeder s).1.AlarmsLatched := by
  refine needsRemote_preserves (withFeeder_preserves (fun k => ?_) h) h
  split
  · rename_i may
    simp only [Plant.mayReset, Bool.and_eq_true, decide_eq_true_eq] at may
    obtain ⟨⟨lockedOut, -⟩, -⟩ := may
    exact h.event fun K => K.resetLockout k lockedOut
  · exact h

theorem serveClearFeederCounters (feeder : Byte) : (serveClearFeederCounters feeder s).1.AlarmsLatched :=
  needsKey_preserves (withFeeder_preserves (fun k => h.event fun K => K.clearCounters k) h) h

theorem serveRectifierStart : (serveRectifierStart s).1.AlarmsLatched := by
  refine needsRemote_preserves ?_ h
  split
  · exact h
  · rename_i taken
    obtain ⟨record, atRest⟩ := State.startRefusal_none taken
    exact h.event fun K => K.rectStart record atRest

theorem serveRectifierStop : (serveRectifierStop s).1.AlarmsLatched :=
  needsRemote_preserves (h.event fun K => K.requestStop) h

theorem serveSetVoltageReference (voltage : Word16) : (serveSetVoltageReference voltage s).1.AlarmsLatched :=
  h.event fun K q => K.rect _ q id id

theorem serveReleaseEarthing : (serveReleaseEarthing s).1.AlarmsLatched := by
  refine needsRemote_preserves ?_ h
  split
  · exact h.event fun K => K.releaseEarthing
  · exact h

theorem serveClearFrameFault : (serveClearFrameFault s).1.AlarmsLatched := by
  refine needsRemote_preserves (needsKey_preserves ?_ h) h
  split
  · exact h.event fun K => K.clearFrameFault
  · exact h

/-! ### The journal, alarm and record requests -/

theorem serveReleaseJournal (index : Word16) : (serveReleaseJournal index s).1.AlarmsLatched := by
  unfold Machine.serveReleaseJournal
  split
  · exact h
  · exact h.withUnit rfl

/-- R182: the acknowledgement keeps the flags whose conditions are live. -/
theorem serveAcknowledgeAlarms : (serveAcknowledgeAlarms s).1.AlarmsLatched := by
  have acknowledged : AlarmsLatched
      { s with plant := { s.plant with unit := s.plant.unit.acknowledge (s.plant.live s.env) } } := by
    intro a live
    refine (AlarmFlags.get_inter ..).trans ?_
    rw [h a live, Plant.live_get]
    exact live
  exact Latches.post acknowledged _ _ _

theorem serveReadRecordPiece (slot piece : Byte) : (serveReadRecordPiece slot piece s).1.AlarmsLatched := by
  unfold Machine.serveReadRecordPiece
  split
  · exact h
  · split
    · exact h
    · split <;> exact h

theorem serveFreeRecord (slot : Byte) : (serveFreeRecord slot s).1.AlarmsLatched := by
  unfold Machine.serveFreeRecord
  split
  · exact h
  · split <;> exact h

theorem serveKind (r : RequestKind) (payload : List Byte) : (serveKind r payload s).1.AlarmsLatched := by
  cases r with
  | identify | echo | readStatus | readMeasurements | readEnergy | readMap | readStationRecord | readItems
  | readRectifier | readRail | fetchJournal | readAlarms | listRecords => exact h
  | readAttention | noticeMask => exact h.withUnit rfl
  | setTime => exact h.serveSetTime _
  | restart => exact h.serveRestart
  | clearEnergy => exact h.serveClearEnergy
  | writeSet => exact h.serveWriteSet _ _
  | readSet => exact h.serveReadSet _
  | eraseSet => exact h.serveEraseSet _
  | writeMapEntry => exact h.serveWriteMapEntry _ _ _
  | writeStationRecord => exact h.serveWriteStationRecord _
  | setFeedState => exact h.serveSetFeedState _ _
  | readFeeder => exact h.serveReadFeeder _
  | feederClose => exact h.serveFeederClose _
  | feederOpen => exact h.serveFeederOpen _
  | resetLockout => exact h.serveResetLockout _
  | clearFeederCounters => exact h.serveClearFeederCounters _
  | rectifierStart => exact h.serveRectifierStart
  | rectifierStop => exact h.serveRectifierStop
  | setVoltageReference => exact h.serveSetVoltageReference _
  | releaseEarthing => exact h.serveReleaseEarthing
  | clearFrameFault => exact h.serveClearFrameFault
  | releaseJournal => exact h.serveReleaseJournal _
  | acknowledgeAlarms => exact h.serveAcknowledgeAlarms
  | readRecordPiece => exact h.serveReadRecordPiece _ _
  | freeRecord => exact h.serveFreeRecord _

/-! ### Frames and transmissions -/

theorem serveFrame (f : LinkFrame) : (serveFrame f s).1.AlarmsLatched := by
  unfold Machine.serveFrame
  cases RequestKind.ofByte f.kind with
  | none => exact h
  | some r =>
    show ((if r.accepts f.payload.length then Machine.serveKind r f.payload else answered _) s).1.AlarmsLatched
    split
    · exact h.serveKind _ _
    · exact h

omit h in
theorem finish {r : Served} (served : r.1.AlarmsLatched) : (State.finish r).AlarmsLatched := by
  unfold State.finish
  split
  · exact served.reply _
  · exact served

theorem offer {pins : Pins} {f : LinkFrame} {serve : State → Served}
    (served : ∀ {s : State}, s.AlarmsLatched → (serve s).1.AlarmsLatched) : (s.offer pins f serve).AlarmsLatched := by
  unfold State.offer
  split
  · exact finish (served (s := s.begin pins f.kind f.tag) h)
  · exact h

theorem startExecution (pins : Pins) : (s.startExecution pins).AlarmsLatched := by
  rcases s.startExecution_cases pins with same | ⟨f, rest, -, -, served⟩
  · rwa [same]
  · rw [served]
    exact finish (serveFrame (s := ({ s with link := { s.link with queue := rest } } : State).begin pins f.kind f.tag) h f)

theorem transmitStart : s.transmitStart.AlarmsLatched := by
  rcases s.transmitStart_cases with same | ⟨f, -, -, -, begun⟩ | ⟨n, -, -, -, -, begun⟩
  · rwa [same]
  · rw [begun]
    exact startExecution (s := { s with link := s.link.beginReply f }) h _
  · rw [begun]
    exact h.withUnit (JournalUnit.tryNotice_latched ..)

theorem frameTransmitEnd : ∃ t, Machine.exec .frameTransmitEnd s = .next t ∧ t.AlarmsLatched := by
  by_cases idle : s.link.transmitter = .idle
  · exact ⟨s, by simp [Machine.exec, execFrameTransmitEnd, idle], h⟩
  · exact ⟨_, exec_frameTransmitEnd_sending idle, transmitStart (s := { s with link := s.link.transmitEnd }) h⟩

theorem receiveByte (pins : Pins) (b : Byte) : (s.receiveByte pins b).AlarmsLatched := by
  unfold State.receiveByte
  split
  · split <;> exact h
  · split <;> exact h
  · split <;> exact h
  · exact h
  · unfold State.checkFrame
    dsimp only
    split
    · exact offer (s := { s with link := s.link.setAssembly .hunt }) h (fun h => h.serveFrame _)
    · exact h
  · exact h

theorem linkBreak : s.linkBreak.AlarmsLatched := by
  unfold State.linkBreak
  split
  · exact h
  · exact event (s := { s with link := s.link.takeBreak }) h fun K => K.post _ _ _

/-! ### Expiries and completions -/

/-- An expiry acts with the grid where it stands, or at the next instant. -/
theorem expires {expiry : Option Nat} {act : State → State}
    (acts : ∀ {s : State}, s.AlarmsLatched → (act s).AlarmsLatched) : (s.atExpiry expiry act).AlarmsLatched := by
  rcases s.atExpiry_cases expiry act with same | now | next
  · rwa [same]
  · rw [now]
    exact acts h
  · rw [next]
    exact acts (h.withTime (by rw [TimeBase.begin_source]; exact id) (by rw [TimeBase.begin_unsync]; exact id))

/-- The expiry of a timer of the plant. -/
theorem expiresEvent {expiry : Option Nat} {f : Env → Plant → Plant}
    (acts : ∀ {e : Env} {P : Option FeederId → Plant → Prop} {p : Plant}, Kept e P → P none p → P none (f e p)) :
    (s.atExpiry expiry (fun s => s.onPlant f)).AlarmsLatched := h.expires fun h => h.event fun K => acts K

theorem setWriteCompletion (readBack : SetFields) :
    ∃ t, Machine.exec (.setWriteCompletion readBack) s = .next t ∧ t.AlarmsLatched := by
  refine ⟨_, rfl, ?_⟩
  split
  · exact h.expires fun h => h.completeSet _ _ _
  all_goals exact h

theorem stationRecordWriteCompletion (readBack : StationFields) :
    ∃ t, Machine.exec (.stationRecordWriteCompletion readBack) s = .next t ∧ t.AlarmsLatched := by
  refine ⟨_, rfl, ?_⟩
  split
  · exact h.expires fun h => h.completeStation _ _
  all_goals exact h

theorem mapEntryWriteCompletion (readBack : Option SetId) :
    ∃ t, Machine.exec (.mapEntryWriteCompletion readBack) s = .next t ∧ t.AlarmsLatched := by
  refine ⟨_, rfl, ?_⟩
  split
  · exact h.expires fun h => h.completeEntry _ _ _ _
  all_goals exact h

theorem scanVisit (found : Option FoundRecord) :
    ∃ t, Machine.exec (.scanVisit found) s = .next t ∧ t.AlarmsLatched :=
  ⟨_, rfl, h.expires fun h => (h.visit found).withSameStore rfl rfl⟩

/-! ### Events of the other blocks -/

/-- R8: an instant brings neither FALLBACK nor UNSYNC. -/
theorem sampleInstant (x : SampleInputs) : (s.sampleInstant x).AlarmsLatched := by
  obtain ⟨-, unsync, source, -⟩ := State.sampleInstant_grid x s
  rw [State.sampleInstant_time] at unsync source
  have instant : AlarmsLatched { s with time := s.time.present.qualify x.crystal, front := s.front.take x.conversions } :=
    h.withTime (source ▸ id) (unsync ▸ id)
  have sampled : (s.sampled x).AlarmsLatched := instant.event fun K => K.sampleEvents x
  rw [State.sampleInstant_eq]
  split
  · exact event (s := { s.sampled x with front := (s.sampled x).front.closeMillisecond }) sampled
      fun K => K.millisecondEvents x
  · exact sampled

/-- R12: a failure of the crystal latches CLOCK_FALLBACK. -/
theorem crystalFailure : ∃ t, Machine.exec .crystalFailure s = .next t ∧ t.AlarmsLatched := by
  cases source : s.time.source with
  | fallback => exact ⟨s, by simp [Machine.exec, execCrystalFailure, source], h⟩
  | crystal =>
    have fails : (State.onPlant { s with time := s.time.fail } (fun e p => p.latch e .clockFallback)).AlarmsLatched := by
      refine Plant.Latches.change h (fun a set => (JournalUnit.logs_latch ..).latched a set) fun a isLive => ?_
      cases a with
      | clockFallback => exact .inr ((JournalUnit.latch_latched ..).trans (if_pos rfl))
      | timeUnsync => exact .inl (s.time.begin_unsync.symm.trans isLive)
      | _ => exact .inl isLive
    exact ⟨_, exec_crystalFailure source, Latches.post fails .station .clockFallback [1]⟩

theorem crystalReturn : ∃ t, Machine.exec .crystalReturn s = .next t ∧ t.AlarmsLatched := by
  refine ⟨_, rfl, ?_⟩
  split
  · exact h
  · split
    · have recovered : AlarmsLatched { s with time := s.time.recover } :=
        h.withTime nofun fun unsync => s.time.begin_unsync ▸ unsync
      exact recovered.event fun K => K.post _ _ _
    · exact h

theorem pulseInstant (gate : GateId) : ∃ t, Machine.exec (.pulseInstant gate) s = .next t ∧ t.AlarmsLatched := by
  refine ⟨_, rfl, ?_⟩
  split
  · exact h
  · split
    · rename_i fires
      rw [Bool.and_eq_true] at fires
      exact h.event fun K => K.firePulse gate fires.1
    · exact h

theorem burstEnd (gate : GateId) : ∃ t, Machine.exec (.burstEnd gate) s = .next t ∧ t.AlarmsLatched := by
  refine ⟨_, rfl, ?_⟩
  split
  · exact h
  · split
    · exact h.event fun K => K.endBurst gate
    · exact h

theorem restartReset (x : ResetInputs) : ∃ t, Machine.exec (.restartReset x) s = .next t ∧ t.AlarmsLatched := by
  refine ⟨_, rfl, ?_⟩
  split
  · exact alarmsLatched_resetWith _ _ _ _ _ _ _
  · exact h

/-- Every command keeps the conditions latched. -/
theorem exec (c : Instr) : ∃ t, Machine.exec c s = .next t ∧ t.AlarmsLatched := by
  cases c with
  | powerOnReset | pinReset => exact ⟨_, rfl, alarmsLatched_resetWith _ _ _ _ _ _ _⟩
  | restartReset => exact h.restartReset _
  | crystalFailure => exact h.crystalFailure
  | crystalReturn => exact h.crystalReturn
  | sampleInstant => exact ⟨_, rfl, h.sampleInstant _⟩
  | noCrossingExpiry => exact ⟨_, rfl, h.expiresEvent fun K => K.noCrossing⟩
  | coilPulseEnd => exact ⟨_, rfl, h.expiresEvent fun K => K.pulseEnds _⟩
  | limitTimerExpiry => exact ⟨_, rfl, h.expiresEvent fun K => K.limitEnds _⟩
  | deadTimeExpiry => exact ⟨_, rfl, h.expiresEvent fun K => K.deadTimeExpires _⟩
  | settleExpiry => exact ⟨_, rfl, h.expiresEvent fun K => K.settleExpires_stopped _⟩
  | serviceTimerExpiry => exact ⟨_, rfl, h.expiresEvent fun K => K.serviceExpires _⟩
  | pulseInstant => exact h.pulseInstant _
  | burstEnd => exact h.burstEnd _
  | railHoldExpiry => exact ⟨_, rfl, h.expiresEvent fun K q => K.holdExpires (K.onRail q id id)⟩
  | energyPulseOnExpiry | energyPulseGapExpiry | recordHoldExpiry => exact ⟨_, rfl, h.expires id⟩
  | noticeHoldoffExpiry => exact ⟨_, rfl, h.expires fun h => h.withUnit (JournalUnit.tryNotice_latched ..)⟩
  | scanVisit => exact h.scanVisit _
  | setWriteCompletion => exact h.setWriteCompletion _
  | stationRecordWriteCompletion => exact h.stationRecordWriteCompletion _
  | mapEntryWriteCompletion => exact h.mapEntryWriteCompletion _
  | receivedCharacter char pins =>
    cases char with
    | byte b => exact ⟨_, rfl, h.receiveByte pins b⟩
    | framingError => exact ⟨_, rfl, h⟩
  | gapTimerExpiry | linkBreakEnd => exact ⟨_, rfl, h⟩
  | linkBreak => exact ⟨_, rfl, h.linkBreak⟩
  | requestExecutionStart pins => exact ⟨_, rfl, startExecution (s := s.setPins pins) h pins⟩
  | unknownKind => exact ⟨_, rfl, h.offer fun h => h.serveFrame _⟩
  | frameTransmitStart => exact ⟨_, rfl, h.transmitStart⟩
  | frameTransmitEnd => exact h.frameTransmitEnd
  | identify | echo | readStatus | readMeasurements | readEnergy | readMap | readStationRecord | readItems
  | readRectifier | readRail | fetchJournal | readAlarms | listRecords => exact ⟨_, rfl, h.offer id⟩
  | readAttention | noticeMask => exact ⟨_, rfl, h.offer fun h => h.withUnit rfl⟩
  | setTime => exact ⟨_, rfl, h.offer fun h => h.serveSetTime _⟩
  | restart => exact ⟨_, rfl, h.offer fun h => h.serveRestart⟩
  | clearEnergy => exact ⟨_, rfl, h.offer fun h => h.serveClearEnergy⟩
  | writeSet => exact ⟨_, rfl, h.offer fun h => h.serveWriteSet _ _⟩
  | readSet => exact ⟨_, rfl, h.offer fun h => h.serveReadSet _⟩
  | eraseSet => exact ⟨_, rfl, h.offer fun h => h.serveEraseSet _⟩
  | writeMapEntry => exact ⟨_, rfl, h.offer fun h => h.serveWriteMapEntry _ _ _⟩
  | writeStationRecord => exact ⟨_, rfl, h.offer fun h => h.serveWriteStationRecord _⟩
  | setFeedState => exact ⟨_, rfl, h.offer fun h => h.serveSetFeedState _ _⟩
  | readFeeder => exact ⟨_, rfl, h.offer fun h => h.serveReadFeeder _⟩
  | feederClose => exact ⟨_, rfl, h.offer fun h => h.serveFeederClose _⟩
  | feederOpen => exact ⟨_, rfl, h.offer fun h => h.serveFeederOpen _⟩
  | resetLockout => exact ⟨_, rfl, h.offer fun h => h.serveResetLockout _⟩
  | clearFeederCounters => exact ⟨_, rfl, h.offer fun h => h.serveClearFeederCounters _⟩
  | rectifierStart => exact ⟨_, rfl, h.offer fun h => h.serveRectifierStart⟩
  | rectifierStop => exact ⟨_, rfl, h.offer fun h => h.serveRectifierStop⟩
  | setVoltageReference => exact ⟨_, rfl, h.offer fun h => h.serveSetVoltageReference _⟩
  | releaseEarthing => exact ⟨_, rfl, h.offer fun h => h.serveReleaseEarthing⟩
  | clearFrameFault => exact ⟨_, rfl, h.offer fun h => h.serveClearFrameFault⟩
  | releaseJournal => exact ⟨_, rfl, h.offer fun h => h.serveReleaseJournal _⟩
  | acknowledgeAlarms => exact ⟨_, rfl, h.offer fun h => h.serveAcknowledgeAlarms⟩
  | readRecordPiece => exact ⟨_, rfl, h.offer fun h => h.serveReadRecordPiece _ _⟩
  | freeRecord => exact ⟨_, rfl, h.offer fun h => h.serveFreeRecord _⟩

/-- Every step keeps the conditions latched. -/
theorem step {t : State} (stepped : Machine.step s = .next t) : t.AlarmsLatched := by
  unfold Machine.step at stepped
  split at stepped
  · cases stepped
    exact h
  · rename_i c rest _
    obtain ⟨u, executed, latched⟩ := exec (s := { s with pending := rest }) h c
    rw [executed] at stepped
    cases stepped
    exact latched

end State.AlarmsLatched

/-- Settles O51: the laws of the journal, the contact and the notices are laws of the unit, and the conditions stay
latched through every command. -/
theorem journalAndAlarmLawsAreKept : Obligations.JournalAndAlarmLawsAreKept := by
  refine fun s t stepped => ⟨fun law => journalLaw_step law stepped, fun law => ?_, fun law => noticeLaw_step law stepped⟩
  rw [State.alarmLaw_iff] at law ⊢
  obtain ⟨latched, contact⟩ := law
  exact ⟨latched.step stepped, contactShows_step contact stepped⟩

end Sys2Proof.Machine
end

section
/-! PROOFS. What the operations of the journal and alarm unit do, flag by flag (O48). -/

namespace Sys2Proof.Machine

theorem FlagSet.get_set_or (s : FlagSet) (f g : AttentionFlag) : (s.set f).get g = (decide (g = f) || s.get g) := by
  rw [FlagSet.get_set]
  by_cases same : g = f
  · rw [if_pos same, decide_eq_true same, Bool.true_or]
  · rw [if_neg same, decide_eq_false same, Bool.false_or]

namespace JournalUnit

variable {e : Env} {u : JournalUnit} {a : Alarm} {f : AttentionFlag} {s : Source} {k : Kind} {d : List Int}

/-! ### Latching and raising (R180, R181, R185, R187, R188) -/

theorem latch_attention (clear : u.latched.get a = false) : (u.latch e a).attention.alarm = true := by
  rw [latch_clear clear]
  exact raise_raised .alarm _

theorem latch_energises (clear : u.latched.get a = false) : (u.latch e a).contact = true := by
  rw [latch_contact, clear, Bool.not_false, Bool.or_true]

/-- R188, log 20: with the timer stopped and no notice waiting, the flag's notice is formed with it. -/
theorem raise_forms (clear : u.attention.get f = false) (enabled : u.mask.get f = true) (stopped : u.holdoff = none)
    (free : u.notice = none) : u.raise e f =
      { u with
        attention := u.attention.set f
        pendingFlags := FlagSet.empty
        holdoff := some (e.time.tick + 800)
        notice := some
          (newNotice { u with attention := u.attention.set f, pendingFlags := u.pendingFlags.set f }) } := by
  rw [raise_enabled clear enabled]
  exact tryNotice_forms ⟨f, by rw [FlagSet.get_set, if_pos rfl]⟩ stopped free

/-- R188: while the timer runs or a notice waits, the flag joins the pending set. -/
theorem raise_joins (clear : u.attention.get f = false) (enabled : u.mask.get f = true)
    (busy : u.holdoff.isSome ∨ u.notice.isSome) :
    u.raise e f = { u with attention := u.attention.set f, pendingFlags := u.pendingFlags.set f } := by
  rw [raise_enabled clear enabled]
  exact tryNotice_waits (busy.imp_right .inl)

/-! ### Appending (R175, R176, R185) -/

theorem kept_room (room : u.journal.length < 256) : u.kept = u.journal := if_neg (Nat.not_le.2 room)

theorem kept_full (full : u.journal.length = 256) : u.kept = u.journal.drop 1 := by
  rw [kept, full]
  rfl

theorem post_journal_kept : (JournalUnit.post e s k d u).journal =
    u.kept ++ [⟨u.nextIndex, e.time.stamp, s, k, d⟩] := post_journal ..

/-- R175: an append that pushes no entry out touches no alarm. -/
theorem post_room (room : u.journal.length < 256) :
    (JournalUnit.post e s k d u).latched = u.latched ∧ (JournalUnit.post e s k d u).contact = u.contact := by
  rw [post_eq, overflowed, if_neg (Nat.not_le.2 room)]
  split
  · rw [raise_latched, raise_contact]
    exact ⟨rfl, rfl⟩
  · exact ⟨rfl, rfl⟩

theorem latch_journalOverflow :
    (u.latch e .journalOverflow).latched = { u.latched with journalOverflow := true } := by
  cases flag : u.latched.get .journalOverflow with
  | true =>
    have set : u.latched.journalOverflow = true := flag
    rw [latch_set flag, ← set]
  | false =>
    rw [latch_clear flag, raise_latched]
    rfl

/-- R176: an append that pushes an entry out latches JOURNAL_OVERFLOW. -/
theorem post_full (full : u.journal.length = 256) :
    (JournalUnit.post e s k d u).latched = { u.latched with journalOverflow := true } ∧
      (u.latched.journalOverflow = false → (JournalUnit.post e s k d u).contact = true ∧
        (JournalUnit.post e s k d u).attention.alarm = true) := by
  have long : 192 ≤ (u.appended e s k d).journal.length := by
    show 192 ≤ (u.kept ++ [_]).length
    rw [kept_full full, List.length_append, List.length_drop, List.length_singleton, full]
    decide
  rw [post_eq, overflowed, if_pos full.ge, if_pos (.inr long), raise_latched, raise_contact]
  refine ⟨latch_journalOverflow, fun clear => ⟨latch_energises clear, ?_⟩⟩
  refine (raise_attention _ .journal .alarm).trans ?_
  rw [if_neg nofun]
  exact latch_attention (u := u.appended e s k d) clear

/-- R185: an append to an empty journal, or one that leaves 192 entries or more, sets the flag JOURNAL. -/
theorem post_attention (h : u.journal = [] ∨ 191 ≤ u.journal.length) (few : u.journal.length ≤ 256) :
    (JournalUnit.post e s k d u).attention.journal = true := by
  have high : u.journal = [] ∨ 192 ≤ (u.appended e s k d).journal.length := by
    refine h.imp_right fun high => ?_
    show 192 ≤ (u.kept ++ [_]).length
    rw [List.length_append, kept, List.length_singleton]
    split
    · rw [List.length_drop]
      omega
    · omega
  rw [post_eq, if_pos high]
  exact raise_raised .journal _

end JournalUnit

/-- Settles O48: the append by whether the journal is full, the latch by its flag, and the raise by its flag, the mask
and whether a notice can be formed. -/
theorem postsAppendAndLatch : Obligations.PostsAppendAndLatch := by
  refine fun e u => ⟨fun src kind details few => ⟨JournalUnit.post_nextIndex .., JournalUnit.post_mask ..,
      fun room => ⟨?_, JournalUnit.post_room room⟩, fun full => ⟨?_, JournalUnit.post_full full⟩,
      fun h => JournalUnit.post_attention h few⟩,
    fun a => ⟨JournalUnit.latch_set, fun clear => ⟨JournalUnit.latch_latched u a, JournalUnit.latch_energises clear,
      JournalUnit.latch_attention clear, JournalUnit.latch_journal ..⟩⟩,
    fun f => ⟨JournalUnit.raise_set, fun clear => ⟨JournalUnit.raise_attention u f, fun disabled => ?_,
      fun enabled stopped free => ?_, fun enabled busy => ?_⟩⟩⟩
  · exact JournalUnit.post_journal_kept.trans (by rw [JournalUnit.kept_room room])
  · exact JournalUnit.post_journal_kept.trans (by rw [JournalUnit.kept_full full])
  · rw [JournalUnit.raise_disabled clear disabled]
    exact ⟨rfl, rfl, rfl⟩
  · rw [JournalUnit.raise_forms clear enabled stopped free]
    exact ⟨FlagSet.get_empty, rfl, _, rfl, rfl, rfl, FlagSet.get_set_or u.pendingFlags f⟩
  · rw [JournalUnit.raise_joins clear enabled busy]
    exact ⟨rfl, rfl, FlagSet.get_set_or u.pendingFlags f⟩

end Sys2Proof.Machine
end

section
/-! PROOFS. Read Attention and Notice Mask (O50), and the journal and alarm requests (O49): each served at once, with
the bytes of its reply. -/

namespace Sys2Proof.Machine

/-! ### Packed flags (R204) -/

theorem flagsValue_append (l m : List Bool) : flagsValue (l ++ m) = flagsValue l + 2 ^ l.length * flagsValue m := by
  induction l with
  | nil => simp [flagsValue]
  | cons b l ih =>
    rw [List.cons_append, flagsValue, flagsValue, ih, List.length_cons]
    ring

theorem toNat_ofBoolListLE (l : List Bool) : (BitVec.ofBoolListLE l).toNat = flagsValue l := by
  induction l with
  | nil => rfl
  | cons b l ih =>
    rw [BitVec.ofBoolListLE, BitVec.toNat_concat, ih, flagsValue]
    cases b <;> simp [Nat.mul_comm, Nat.add_comm]

theorem leBytes_two_split {x y : Nat} (low : x < 256) :
    leBytes 2 ((x + 256 * y : Nat) : Int) = [BitVec.ofNat 8 x, BitVec.ofNat 8 y] := by
  have split : (x + 256 * y) % 256 = x ∧ (x + 256 * y) / 256 = y := by omega
  rw [leBytes_two, split.2]
  congr 1
  refine BitVec.eq_of_toNat_eq ?_
  rw [BitVec.toNat_ofNat, BitVec.toNat_ofNat, show 2 ^ 8 = 256 from rfl, split.1, Nat.mod_eq_of_lt low]

/-- R204, R186: nine flags are two bytes, the ninth alone in the second. -/
theorem packFlags_nine (a b c d e f g h i : Bool) : packFlags [a, b, c, d, e, f, g, h, i] =
    [BitVec.ofBoolListLE [a, b, c, d, e, f, g, h], if i then 1 else 0] := by
  have value : flagsValue [a, b, c, d, e, f, g, h, i] = flagsValue [a, b, c, d, e, f, g, h] + 256 * flagsValue [i] := by
    rw [show 256 = 2 ^ 8 from rfl]
    exact flagsValue_append [a, b, c, d, e, f, g, h] [i]
  have low : flagsValue [a, b, c, d, e, f, g, h] < 256 := by
    rw [← toNat_ofBoolListLE, show 256 = 2 ^ 8 from rfl]
    exact BitVec.isLt (BitVec.ofBoolListLE [a, b, c, d, e, f, g, h])
  have bytes : packFlags [a, b, c, d, e, f, g, h, i] =
      [BitVec.ofNat 8 (flagsValue [a, b, c, d, e, f, g, h]), BitVec.ofNat 8 (flagsValue [i])] := by
    rw [← leBytes_two_split low, ← value, packFlags]
    simp only [List.length_cons, List.length_nil, Nat.reduceAdd, Nat.reduceDiv]
  have first : BitVec.ofNat 8 (flagsValue [a, b, c, d, e, f, g, h]) = BitVec.ofBoolListLE [a, b, c, d, e, f, g, h] := by
    rw [← toNat_ofBoolListLE]
    exact (BitVec.ofNat_toNat ..).trans (BitVec.setWidth_eq _)
  rw [bytes, first]
  cases i <;> rfl

/-- R189: the eight low flags of a mask are its low byte. -/
theorem ofBoolListLE_lowByte (m : Word16) : BitVec.ofBoolListLE [m.getLsbD 0, m.getLsbD 1, m.getLsbD 2, m.getLsbD 3,
    m.getLsbD 4, m.getLsbD 5, m.getLsbD 6, m.getLsbD 7] = m.setWidth 8 := by
  refine BitVec.eq_of_getLsbD_eq fun i below => ?_
  rw [BitVec.getLsbD_ofBoolListLE]
  have bit : i < 8 := below
  interval_cases i <;> simp

/-! ### Read Attention, Notice Mask (R186, R189) -/

section
variable {head : RequestHead} {s : State} (atOnce : s.link.takesAtOnce = true)
include atOnce

theorem exec_readAttention : exec (.readAttention head) s =
    .next (s.repliedWith head .readAttention (okReply (packFlags s.plant.unit.attention.toList))
      { s.plant with unit := s.plant.unit.clearAttention }) :=
  congrArg _ (State.request_repliedWith (time := s.time) atOnce rfl)

theorem exec_noticeMask (m : Word16) : exec (.noticeMask head m) s =
    .next (s.repliedWith head .noticeMask (okReply (packFlags (FlagSet.ofMask m).toList))
      { s.plant with unit := s.plant.unit.setMask (FlagSet.ofMask m) }) :=
  congrArg _ (State.request_repliedWith (time := s.time) atOnce rfl)

end

/-- Settles O50: the two requests served at once, with the flags packed in two bytes. -/
theorem attentionIsReadAndMasked : Obligations.AttentionIsReadAndMasked := by
  refine fun head s atOnce => ⟨?_, FlagSet.get_empty, fun m => ⟨_, _, ?_, rfl, FlagSet.get_inter _ _⟩⟩
  · refine (exec_readAttention atOnce).trans ?_
    rw [FlagSet.toList, packFlags_nine]
    rfl
  · refine (exec_noticeMask atOnce m).trans ?_
    rw [FlagSet.toList, packFlags_nine]
    simp only [FlagSet.ofMask, ofBoolListLE_lowByte]
    rfl

/-! ### Release Journal (R179) -/

theorem leBytes_one (n : Nat) : leBytes 1 (n : Int) = [BitVec.ofNat 8 n] := by
  show [BitVec.ofInt 8 (n : Int)] = _
  rw [BitVec.ofInt_natCast]

/-- R179: an entry is released with all older ones. -/
theorem releaseCount_found {before after : List Entry} {y : Entry} (others : ∀ z ∈ before, z.index ≠ y.index) :
    releaseCount y.index (before ++ y :: after) = some (before.length + 1) := by
  have none : before.findIdx? (fun z => decide (z.index = y.index)) = none :=
    List.findIdx?_eq_none_iff.2 fun z older => decide_eq_false (others z older)
  simp [releaseCount, List.findIdx?_append, none, List.findIdx?_cons]

theorem releaseCount_missing {x : Word16} {journal : List Entry} (others : ∀ z ∈ journal, z.index ≠ x) :
    releaseCount x journal = none := by
  have none : journal.findIdx? (fun z => decide (z.index = x)) = none :=
    List.findIdx?_eq_none_iff.2 fun z stands => decide_eq_false (others z stands)
  rw [releaseCount, none]
  rfl

section
variable {head : RequestHead} {s : State} (atOnce : s.link.takesAtOnce = true)
include atOnce

theorem exec_releaseJournal_found {x : Word16} {n : Nat} (found : releaseCount x s.plant.unit.journal = some n) :
    exec (.releaseJournal head x) s =
      .next (s.repliedWith head .releaseJournal
        (okReply (leBytes 2 n ++ leBytes 1 ((s.plant.unit.journal.length - n : Nat))))
        { s.plant with unit := s.plant.unit.release n }) := by
  refine congrArg _ (State.request_repliedWith (time := s.time) atOnce ?_)
  rw [serveReleaseJournal, State.begin_plant, found]
  rfl

theorem exec_releaseJournal_missing {x : Word16} (missing : releaseCount x s.plant.unit.journal = none) :
    exec (.releaseJournal head x) s = .next (s.repliedWith head .releaseJournal [7] s.plant) := by
  refine congrArg _ (State.request_repliedWith (time := s.time) atOnce ?_)
  rw [serveReleaseJournal, State.begin_plant, missing]
  rfl

/-! ### Acknowledge Alarms (R182) -/

theorem exec_acknowledgeAlarms : exec (.acknowledgeAlarms head) s =
    .next (s.repliedWith head .acknowledgeAlarms
      (acknowledgeReply (s.plant.acknowledge s.env).unit.latched) (s.plant.acknowledge s.env)) :=
  congrArg _ (State.request_repliedWith (time := s.time) atOnce rfl)

/-! ### Fetch Journal (R178) -/

theorem exec_fetchJournal (n : Byte) : exec (.fetchJournal head n) s =
    .next (s.repliedWith head .fetchJournal (replyFetchJournal n s) s.plant) :=
  congrArg _ (State.request_repliedWith (time := s.time) atOnce rfl)

end

theorem replyFetchJournal_eq (n : Byte) (s : State) :
    (let u := s.plant.unit
    replyFetchJournal n s =
      0 :: BitVec.ofNat 8 u.journal.length :: BitVec.ofNat 8 (u.journal.length / 256) ::
        BitVec.ofNat 8 u.nextIndex.toNat :: BitVec.ofNat 8 (u.nextIndex.toNat / 256) ::
        BitVec.ofNat 8 (min u.journal.length (clampCount n)) ::
        ((u.journal.take (clampCount n)).map Entry.bytes).flatten) := by
  simp only [replyFetchJournal, okReply, Status.code, leBytes_two, leBytes_one, List.length_take,
    Nat.min_comm (clampCount n)]
  rfl

theorem flatten_leBytes_one (l : List Nat) :
    (l.map (fun n => leBytes 1 n)).flatten = l.map (BitVec.ofNat 8) := by
  rw [List.bind_eq_flatMap, ← List.flatMap_def, List.flatMap_assoc]
  simp [leBytes_one, ← List.map_eq_flatMap]

theorem acknowledgeReply_eq (l : AlarmFlags) : acknowledgeReply l =
    0 :: BitVec.ofNat 8 l.numbers.length :: l.numbers.map (BitVec.ofNat 8) := by
  refine congrArg (0 :: ·) ?_
  rw [leBytes_one, List.singleton_append]
  exact congrArg _ (flatten_leBytes_one l.numbers)

theorem length_filter_zipWith_and (l m : List Bool) :
    ((List.zipWith and l m).filter id).length ≤ (l.filter id).length := by
  induction l generalizing m with
  | nil => exact Nat.le_refl _
  | cons a l ih =>
    cases m with
    | nil => exact Nat.zero_le _
    | cons b m =>
      have rest := ih m
      cases a with
      | false => exact rest
      | true => cases b with
        | false => exact rest.trans (Nat.le_succ _)
        | true => exact Nat.succ_le_succ rest

/-- R182: an acknowledgement adds no flag. -/
theorem AlarmFlags.count_inter_le (l m : AlarmFlags) : (l.inter m).count ≤ l.count := by
  have flags : (l.inter m).toList = List.zipWith and l.toList m.toList := rfl
  rw [count, flags]
  exact length_filter_zipWith_and ..

/-- R182: the unit after an acknowledgement, with its journal not full before. -/
theorem Plant.acknowledge_unit (e : Env) (p : Plant) (room : p.unit.journal.length < 256) :
    (let v := (p.acknowledge e).unit
    v.latched = p.unit.latched.inter (p.live e) ∧ (v.contact = true ↔ ∃ a, v.latched.get a = true) ∧
    v.journal = p.unit.journal ++ [⟨p.unit.nextIndex, e.time.stamp, .station, .alarmsAcked,
      [(p.unit.latched.count : Int) - v.latched.count, v.latched.count]⟩]) := by
  intro v
  obtain ⟨latched, contact⟩ := JournalUnit.post_room (e := e) (s := .station) (k := .alarmsAcked)
    (d := [((p.unit.latched.count - (p.unit.latched.inter (p.live e)).count : Nat) : Int),
      ((p.unit.latched.inter (p.live e)).count : Int)])
    (u := p.unit.acknowledge (p.live e)) room
  have kept : v.latched = p.unit.latched.inter (p.live e) := latched
  have shows : v.contact = (p.unit.latched.inter (p.live e)).any := contact
  have journal : v.journal = (p.unit.acknowledge (p.live e)).kept ++ _ := JournalUnit.post_journal_kept
  refine ⟨kept, ?_, ?_⟩
  · rw [kept, shows]
    exact AlarmFlags.any_iff _
  · rw [journal, JournalUnit.kept_room (u := p.unit.acknowledge (p.live e)) room, kept,
      ← Int.ofNat_sub (AlarmFlags.count_inter_le ..)]
    rfl

/-- Settles O49: each request served at once, by whether the entry is found, and by what the acknowledgement leaves. -/
theorem journalIsReleasedAndAlarmsAcknowledged : Obligations.JournalIsReleasedAndAlarmsAcknowledged := by
  refine fun head s atOnce => ⟨fun x before after y journal index others => ?_, fun x others => ?_, fun room => ?_,
    fun n => ⟨_, ?_, rfl⟩⟩
  · subst index
    have found := releaseCount_found (after := after) others
    rw [← journal] at found
    rw [exec_releaseJournal_found atOnce found, leBytes_two, leBytes_one, JournalUnit.release, journal]
    have left : (before ++ y :: after).length - (before.length + 1) = after.length := by
      rw [List.length_append, List.length_cons]
      omega
    have rest : (before ++ y :: after).drop (before.length + 1) = after := by
      simp
    rw [left, rest]
    rfl
  · exact exec_releaseJournal_missing atOnce (releaseCount_missing others)
  · obtain ⟨latched, contact, appended⟩ := s.plant.acknowledge_unit s.env room
    refine ⟨_, (exec_acknowledgeAlarms atOnce).trans (by rw [acknowledgeReply_eq]; rfl), fun a => ?_, contact, appended⟩
    rw [latched]
    exact AlarmFlags.get_inter ..
  · exact (exec_fetchJournal atOnce n).trans (by rw [replyFetchJournal_eq]; rfl)

end Sys2Proof.Machine
end

section
/-! PROOFS. The queue, the execution of a queued frame, the transmitter and the notice holdoff (O55): one equation for
each thing that a step of the link can find. -/

namespace Sys2Proof.Machine

/-! ### Frames that are answered without a change (R198, R199) -/

theorem RequestKind.code_of_ofByte {b : Byte} {r : RequestKind} (found : RequestKind.ofByte b = some r) :
    r.code = b := by
  have same := List.find?_some found
  exact of_decide_eq_true same

theorem serveFrame_unknown {f : LinkFrame} (unknown : RequestKind.ofByte f.kind = none) :
    serveFrame f = answered [1, f.kind] := by
  rw [serveFrame, unknown]
  rfl

theorem serveFrame_badLength {f : LinkFrame} {r : RequestKind} (known : RequestKind.ofByte f.kind = some r)
    (length : r.accepts f.payload.length = false) : serveFrame f = answered [2] := by
  rw [serveFrame, known]
  exact if_neg (Bool.eq_false_iff.1 length)

/-- R197, R198: what is answered with a payload alone leaves the levels read and the reply. -/
theorem State.execute_answered {pins : Pins} {kind tag : Byte} {payload : List Byte} {s : State}
    (idle : s.link.executing = none) : s.execute pins kind tag (answered payload) =
      { s.setPins pins with link := { s.link with slot := some ⟨replyKind kind, tag, payload⟩ } } :=
  congrArg (fun x => { s.setPins pins with
    link := { s.link with slot := some ⟨replyKind kind, tag, payload⟩, executing := x } }) idle.symm

/-! ### The queue (R197) -/

theorem State.offer_atOnce {pins : Pins} {f : LinkFrame} {serve : State → Served} {s : State}
    (atOnce : s.link.takesAtOnce = true) : s.offer pins f serve = s.execute pins f.kind f.tag serve := if_pos atOnce

theorem State.offer_waits {pins : Pins} {f : LinkFrame} {serve : State → Served} {s : State}
    (waits : s.link.takesAtOnce = false) : s.offer pins f serve = { s with link := s.link.enqueue f } :=
  if_neg (Bool.eq_false_iff.1 waits)

namespace Link

variable {l : Link}

theorem free_iff : l.free = true ↔ l.executing = none ∧ l.slot = none ∧ l.restart = .none := by
  simp only [free, Bool.and_eq_true, Option.isNone_iff_eq_none, decide_eq_true_eq, and_assoc]

/-! ### The transmitter (R201, R207) -/

theorem beginReply_eq (f : LinkFrame) (h : l.restart = .none) :
    l.beginReply f = { l with slot := none, transmitter := .sendingReply f.bytes } := by
  cases l
  cases h
  rfl

theorem transmitEnd_eq (h : l.restart ≠ .replySending) : l.transmitEnd = { l with transmitter := .idle } := by
  obtain ⟨_, _, _, _, _, _, _, restart⟩ := l
  cases restart with
  | replySending => exact absurd rfl h
  | none | taken | replySent => rfl

end Link

namespace State

variable {s : State} {pins : Pins}

/-! ### The execution of a queued frame (R198) -/

theorem startExecution_takes {f : LinkFrame} {rest : List LinkFrame} (free : s.link.free = true)
    (queue : s.link.queue = f :: rest) : s.startExecution pins =
      State.execute pins f.kind f.tag (serveFrame f) { s with link := { s.link with queue := rest } } := by
  rw [startExecution, if_pos free, queue]

theorem startExecution_none (h : s.link.free = false ∨ s.link.queue = []) : s.startExecution pins = s := by
  rcases h with busy | empty
  · exact if_neg (Bool.eq_false_iff.1 busy)
  · rw [startExecution, empty]
    exact ite_self s

/-! ### The start of a transmission (R201) -/

theorem transmitStart_reply {f : LinkFrame} (idle : s.link.transmitter = .idle) (restart : s.link.restart = .none)
    (slot : s.link.slot = some f) : s.transmitStart = State.startExecution s.panel.pins
      { s with link := { s.link with slot := none, transmitter := .sendingReply f.bytes } } := by
  rw [transmitStart, idle, restart, slot, ← Link.beginReply_eq f restart]
  rfl

theorem transmitStart_notice {n : Notice} (idle : s.link.transmitter = .idle) (restart : s.link.restart = .none)
    (slot : s.link.slot = none) (waits : s.plant.unit.notice = some n) : s.transmitStart = s.beginNotice n := by
  rw [transmitStart, idle, restart, slot, waits]
  rfl

theorem transmitStart_nothing (slot : s.link.slot = none) (waits : s.plant.unit.notice = none) :
    s.transmitStart = s := by
  rcases s.transmitStart_cases with same | ⟨f, -, -, due, -⟩ | ⟨n, -, -, -, due, -⟩
  · exact same
  · cases slot.symm.trans due
  · cases waits.symm.trans due

/-- R198, R201: with no frame queued, or while another request is under execution, the reply begins alone. -/
theorem transmitStart_reply_alone {f : LinkFrame} (idle : s.link.transmitter = .idle) (restart : s.link.restart = .none)
    (slot : s.link.slot = some f) (alone : s.link.queue = [] ∨ s.link.executing.isSome) : s.transmitStart =
      { s with link := { s.link with slot := none, transmitter := .sendingReply f.bytes } } := by
  rw [transmitStart_reply idle restart slot]
  refine startExecution_none ?_
  rcases alone with empty | under
  · exact .inr empty
  · refine .inl (Bool.eq_false_iff.2 fun free => ?_)
    have none : s.link.executing = none := (Link.free_iff.1 free).1
    rw [none] at under
    cases under

/-- R198, R201: with no request under execution, the start of the reply takes the oldest queued frame. -/
theorem transmitStart_reply_takes {f g : LinkFrame} {rest : List LinkFrame} (idle : s.link.transmitter = .idle)
    (restart : s.link.restart = .none) (slot : s.link.slot = some f) (queue : s.link.queue = g :: rest)
    (free : s.link.executing = none) : s.transmitStart =
      State.execute s.panel.pins g.kind g.tag (serveFrame g)
        { s with link := { s.link with slot := none, transmitter := .sendingReply f.bytes, queue := rest } } := by
  rw [transmitStart_reply idle restart slot]
  exact startExecution_takes (Link.free_iff.2 ⟨free, rfl, restart⟩) queue

end State

/-! ### The notice, the end of a transmission, the holdoff (R188, R201) -/

section
variable {s : State}

/-- R188, R201: the waiting notice begins, and the unit is left as `u`, where the next has been tried. -/
theorem exec_frameTransmitStart_notice {n : Notice} {u : JournalUnit} (idle : s.link.transmitter = .idle)
    (restart : s.link.restart = .none) (slot : s.link.slot = none) (waits : s.plant.unit.notice = some n)
    (left : JournalUnit.tryNotice s.env { s.plant.unit with notice := none } = u) : exec .frameTransmitStart s =
      .next { s with
        link := { s.link with transmitter := .sendingNotice n.frame.bytes }
        plant := { s.plant with unit := u } } := by
  subst left
  exact congrArg _ (State.transmitStart_notice idle restart slot waits)

theorem exec_frameTransmitEnd_starts (sending : s.link.transmitter ≠ .idle) (restart : s.link.restart ≠ .replySending) :
    exec .frameTransmitEnd s = .next (State.transmitStart { s with link := { s.link with transmitter := .idle } }) := by
  rw [exec_frameTransmitEnd_sending sending, Link.transmitEnd_eq restart]

theorem exec_noticeHoldoffExpiry_due {x : Nat} {u : JournalUnit} (runs : s.plant.unit.holdoff = some x)
    (due : x ≤ s.time.tick) (left : JournalUnit.tryNotice s.env { s.plant.unit with holdoff := none } = u) :
    exec .noticeHoldoffExpiry s = .next { s with plant := { s.plant with unit := u } } := by
  subst left
  exact congrArg _ ((congrArg (fun timer => s.atExpiry timer _) runs).trans (State.atExpiry_due _ due))

end

/-- Settles O55: each event of the link by what it finds in the queue, the slot and the waiting notice. -/
theorem framesWaitAndAreSent : Obligations.FramesWaitAndAreSent := by
  intro s l
  refine ⟨fun head kind payload unknown =>
      ⟨fun atOnce => ?unknownKind, fun waits => congrArg _ (State.offer_waits waits)⟩,
    fun pins f rest free queue => congrArg _ (State.startExecution_takes (s := s.setPins pins) free queue),
    fun pins f r rest free queue known length => ?badLength,
    fun pins idle => congrArg _ (State.startExecution_none (s := s.setPins pins) idle),
    fun f idle slot restart => ⟨fun alone => congrArg _ (State.transmitStart_reply_alone idle restart slot alone),
      fun g rest queue free => congrArg _ (State.transmitStart_reply_takes idle restart slot queue free)⟩,
    fun n idle slot restart waits => ⟨fun stays => ?noticeAlone, fun f stopped pending => ?noticeAgain⟩,
    fun sending => ⟨exec_frameTransmitEnd_starts sending, fun goesOn slot waits => ?nothingDue,
      fun f restart slot queue => ?replyDue, fun last => exec_frameTransmitEnd_restart last sending⟩,
    fun x runs due none => exec_noticeHoldoffExpiry_due runs due (JournalUnit.tryNotice_waits (.inr (.inr none))),
    fun x f runs due pending free => ⟨s.plant.unit.newNotice,
      exec_noticeHoldoffExpiry_due runs due (JournalUnit.tryNotice_forms ⟨f, pending⟩ rfl free), rfl, rfl⟩⟩
  case unknownKind =>
    refine congrArg _ ((State.offer_atOnce atOnce).trans ?_)
    rw [serveFrame_unknown unknown]
    exact State.execute_answered (Link.executing_of_takesAtOnce atOnce)
  case badLength =>
    obtain ⟨idle, -, -⟩ := Link.free_iff.1 free
    refine congrArg _ ((State.startExecution_takes (s := s.setPins pins) free queue).trans ?_)
    rw [serveFrame_badLength known length, ← RequestKind.code_of_ofByte known, ← replyKind_code]
    exact State.execute_answered idle
  case noticeAlone =>
    exact exec_frameTransmitStart_notice idle restart slot waits (JournalUnit.tryNotice_waits (stays.imp_right .inr))
  case noticeAgain =>
    exact ⟨s.plant.unit.newNotice, exec_frameTransmitStart_notice idle restart slot waits
      (JournalUnit.tryNotice_forms ⟨f, pending⟩ stopped rfl), rfl, rfl⟩
  case nothingDue =>
    exact (exec_frameTransmitEnd_starts sending goesOn).trans (congrArg _ (State.transmitStart_nothing slot waits))
  case replyDue =>
    have goesOn : s.link.restart ≠ .replySending := fun last => nomatch restart.symm.trans last
    exact (exec_frameTransmitEnd_starts sending goesOn).trans
      (congrArg _ (State.transmitStart_reply_alone rfl restart slot (.inl queue)))

end Sys2Proof.Machine
end

section
/-! PROOFS. The receive assembly: one equation for each thing that a character, a gap or a break finds there (O54). -/

namespace Sys2Proof.Machine

/-! ### Received bytes (R194, R195) -/

section
variable {s : State} {pins : Pins} {b : Byte}

theorem State.receiveByte_hunt (hunt : s.link.assembly = .hunt) : s.receiveByte pins b =
    if b = 0xA5 then { s with link := { s.link with assembly := .length } } else s := by
  rw [receiveByte, hunt]
  rfl

theorem State.receiveByte_length_in (length : s.link.assembly = .length) (range : 2 ≤ b.toNat ∧ b.toNat ≤ 240) :
    s.receiveByte pins b = { s with link := { s.link with assembly := .body b.toNat [] } } := by
  rw [receiveByte, length]
  exact if_pos range

theorem State.receiveByte_length_out (length : s.link.assembly = .length)
    (range : ¬ (2 ≤ b.toNat ∧ b.toNat ≤ 240)) : s.receiveByte pins b =
      { s with link := { s.link with assembly := .hunt, counters := s.link.counters.countLength } } := by
  rw [receiveByte, length]
  exact if_neg range

theorem State.receiveByte_body_more {n : Nat} {body : List Byte} (assembly : s.link.assembly = .body n body)
    (more : body.length + 1 < n) :
    s.receiveByte pins b = { s with link := { s.link with assembly := .body n (body ++ [b]) } } := by
  rw [receiveByte, assembly]
  exact if_neg (Nat.not_le.2 more)

theorem State.receiveByte_body_last {n : Nat} {body : List Byte} (assembly : s.link.assembly = .body n body)
    (last : n ≤ body.length + 1) :
    s.receiveByte pins b = { s with link := { s.link with assembly := .check n (body ++ [b]) [] } } := by
  rw [receiveByte, assembly]
  exact if_pos last

theorem State.receiveByte_check_first {n : Nat} {body : List Byte} (assembly : s.link.assembly = .check n body []) :
    s.receiveByte pins b = { s with link := { s.link with assembly := .check n body [b] } } := by
  rw [receiveByte, assembly]
  rfl

theorem State.receiveByte_check_second {n : Nat} {body : List Byte} {c : Byte}
    (assembly : s.link.assembly = .check n body [c]) : s.receiveByte pins b = s.checkFrame pins n body [c, b] := by
  rw [receiveByte, assembly]

/-- R195, R204: two bytes, the low one first. -/
theorem leValue_two (c b : Byte) : leValue [c, b] = c.toNat + 256 * b.toNat := by
  simp only [leValue, Nat.mul_zero, Nat.add_zero]

theorem crcMatches_iff {n : Nat} {body : List Byte} {c : Byte} :
    crcMatches n body [c, b] = true ↔ c.toNat + 256 * b.toNat = (crc (BitVec.ofNat 8 n :: body)).toNat := by
  rw [crcMatches, leValue_two, decide_eq_true_eq]

theorem State.checkFrame_discards {n : Nat} {body : List Byte} {c : Byte}
    (wrong : (crc (BitVec.ofNat 8 n :: body)).toNat ≠ c.toNat + 256 * b.toNat) : s.checkFrame pins n body [c, b] =
      { s with link := { s.link with assembly := .hunt, counters := s.link.counters.countCrc } } :=
  if_neg fun same => wrong (crcMatches_iff.1 same).symm

/-- R195, R197: a frame whose check is right is offered. -/
theorem State.checkFrame_offers {n : Nat} {body : List Byte} {c : Byte}
    (right : (crc (BitVec.ofNat 8 n :: body)).toNat = c.toNat + 256 * b.toNat) : s.checkFrame pins n body [c, b] =
      State.offer pins (bodyFrame body) (serveFrame (bodyFrame body))
        { s with link := { s.link with assembly := .hunt } } :=
  if_pos (crcMatches_iff.2 right.symm)

end

/-! ### Framing errors, gaps and breaks (R192, R194, R196) -/

section
variable {l : Link}

/-- R194, R196: a frame is being assembled except in HUNT and in BREAK. -/
theorem Assembly.partly_iff {a : Assembly} : a.partly = true ↔ a ≠ .hunt ∧ a ≠ .lineBreak := by
  cases a <;> simp [partly]

theorem Link.framingError_eq (h : l.assembly ≠ .lineBreak) :
    l.framingError = { l with assembly := .hunt, counters := l.counters.countFraming } := by
  unfold framingError
  split
  · contradiction
  all_goals rfl

theorem Link.gapExpires_eq (h : l.assembly ≠ .hunt ∧ l.assembly ≠ .lineBreak) :
    l.gapExpires = { l with assembly := .hunt, counters := l.counters.countGap } :=
  if_pos (Assembly.partly_iff.2 h)

theorem Link.breakEnds_eq (h : l.assembly = .lineBreak) : l.breakEnds = { l with assembly := .hunt } := by
  rw [breakEnds, h]
  rfl

theorem State.linkBreak_eq {s : State} (h : s.link.assembly ≠ .lineBreak) : s.linkBreak =
    { s with
      link := s.link.takeBreak
      plant := s.plant.post s.env .link .linkReset
        [(s.link.queue.length : Int), if s.link.assembly.partly then 1 else 0] } := if_neg h

end

/-! ### A notice that waits (R188, R196) -/

namespace JournalUnit

variable {e : Env} {u : JournalUnit} {n : Notice}

theorem tryNotice_waitingNotice (waits : u.notice = some n) : (u.tryNotice e).notice = some n := by
  rwa [tryNotice_waits (.inr (.inl (Option.isSome_iff_exists.2 ⟨n, waits⟩)))]

theorem raise_waitingNotice (f : AttentionFlag) (waits : u.notice = some n) :
    (JournalUnit.raise e f u).notice = some n := by
  cases set : u.attention.get f with
  | true => rwa [raise_set set]
  | false =>
    cases enabled : u.mask.get f with
    | false => rwa [raise_disabled set enabled]
    | true =>
      rw [raise_enabled set enabled]
      exact tryNotice_waitingNotice waits

theorem latch_waitingNotice (a : Alarm) (waits : u.notice = some n) :
    (JournalUnit.latch e a u).notice = some n := by
  cases set : u.latched.get a with
  | true => rwa [latch_set set]
  | false =>
    rw [latch_clear set]
    exact raise_waitingNotice .alarm waits

/-- R188: what is posted while a notice waits leaves that notice. -/
theorem post_waitingNotice {s : Source} {k : Kind} {d : List Int} (waits : u.notice = some n) :
    (JournalUnit.post e s k d u).notice = some n :=
  post_keeps (Q := fun u => u.notice = some n) latch_waitingNotice raise_waitingNotice waits

end JournalUnit

/-- Settles O54: each event of the line by the state of the receive assembly that it finds. -/
theorem lineEventsResetTheAssembly : Obligations.LineEventsResetTheAssembly := by
  intro s pins l up partly
  refine ⟨fun b hunt => congrArg _ (State.receiveByte_hunt hunt), fun b length => ?length,
    fun heard => congrArg _ (congrArg (fun l => { s with link := l }) (Link.framingError_eq heard)),
    fun assembling => congrArg _ (congrArg (fun l => { s with link := l }) (Link.gapExpires_eq assembling)),
    fun heard => ?lineBreak, fun n body c b check wrong => ?crc,
    fun broken => congrArg _ (congrArg (fun l => { s with link := l }) (Link.breakEnds_eq broken))⟩
  case length =>
    by_cases range : 2 ≤ b.toNat ∧ b.toNat ≤ 240
    · rw [if_pos range]
      exact congrArg _ (State.receiveByte_length_in length range)
    · rw [if_neg range]
      exact congrArg _ (State.receiveByte_length_out length range)
  case lineBreak =>
    refine ⟨_, congrArg _ (State.linkBreak_eq heard), if l.assembly.partly then 1 else 0, ?_,
      JournalUnit.post_last .., fun n waits => JournalUnit.post_waitingNotice waits⟩
    by_cases part : l.assembly.partly = true
    · exact .inl ⟨if_pos part, Assembly.partly_iff.1 part⟩
    · exact .inr ⟨if_neg part, fun assembling => part (Assembly.partly_iff.2 assembling)⟩
  case crc =>
    exact congrArg _ ((State.receiveByte_check_second check).trans (State.checkFrame_discards wrong))

end Sys2Proof.Machine
end

section
/-! PROOFS. A received frame, byte by byte, up to its offer, and the levels of its characters on the line (O52). -/

namespace Sys2Proof.Machine

/-! ### Bytes sent low byte first (R204) -/

theorem leBytes_succ (width n : Nat) :
    leBytes (width + 1) (n : Int) = BitVec.ofNat 8 n :: leBytes width ((n / 256 : Nat) : Int) := by
  rw [leBytes, BitVec.ofInt_natCast]
  rfl

theorem leValue_leBytes (width n : Nat) : leValue (leBytes width (n : Int)) = n % 256 ^ width := by
  induction width generalizing n with
  | zero => simp [leBytes, leValue, Nat.mod_one]
  | succ width ih =>
    have split : n % 256 ^ (width + 1) = n % 256 + 256 * (n / 256 % 256 ^ width) := by
      rw [Nat.pow_succ', Nat.mod_mul]
    rw [leBytes_succ, leValue, ih, BitVec.toNat_ofNat, split]

/-! ### One byte after another (R193 to R195) -/

/-- Bytes received on the line one after another. -/
def State.receiveBytes (pins : Pins) (l : List Byte) (s : State) : State :=
  l.foldl (fun s b => s.receiveByte pins b) s

theorem execAll_receivedCharacters (pins : Pins) (l : List Byte) (s : State) :
    execAll (l.map (fun b => .receivedCharacter (.byte b) pins)) s = .next (s.receiveBytes pins l) := by
  induction l generalizing s with
  | nil => rfl
  | cons b l ih => exact ih (s.receiveByte pins b)

section
variable {s : State} {pins : Pins}

theorem State.receiveBytes_cons (b : Byte) (l : List Byte) :
    s.receiveBytes pins (b :: l) = (s.receiveByte pins b).receiveBytes pins l := rfl

theorem State.receiveBytes_one (b : Byte) : s.receiveBytes pins [b] = s.receiveByte pins b := rfl

theorem State.receiveBytes_append (l m : List Byte) :
    s.receiveBytes pins (l ++ m) = (s.receiveBytes pins l).receiveBytes pins m := List.foldl_append ..

/-- R193, R194: the lead byte and a length in range begin a body. -/
theorem State.receiveBytes_start {length : Byte} (hunt : s.link.assembly = .hunt)
    (range : 2 ≤ length.toNat ∧ length.toNat ≤ 240) : s.receiveBytes pins [0xA5, length] =
      { s with link := { s.link with assembly := .body length.toNat [] } } := by
  rw [receiveBytes_cons, receiveByte_hunt hunt, if_pos rfl, receiveBytes_one]
  exact receiveByte_length_in rfl range

/-- R194: the bytes that complete a body. -/
theorem State.receiveBytes_body {n : Nat} {body : List Byte} {b : Byte} {l : List Byte}
    (assembly : s.link.assembly = .body n body) (length : body.length + (b :: l).length = n) :
    s.receiveBytes pins (b :: l) =
      { s with link := { s.link with assembly := .check n (body ++ b :: l) [] } } := by
  induction l generalizing s body b with
  | nil => exact receiveByte_body_last assembly (Nat.le_of_eq length.symm)
  | cons c l ih =>
    rw [List.length_cons, List.length_cons] at length
    have added : (body ++ [b]).length + (c :: l).length = n := by
      rw [List.length_append, List.length_singleton, List.length_cons]
      omega
    rw [receiveBytes_cons, receiveByte_body_more assembly (by omega)]
    refine (ih rfl added).trans ?_
    rw [List.append_assoc, List.singleton_append]

/-- R195: the two bytes of the check, where they are right. -/
theorem State.receiveBytes_check {n : Nat} {body : List Byte} (assembly : s.link.assembly = .check n body []) :
    s.receiveBytes pins (leBytes 2 (crc (BitVec.ofNat 8 n :: body)).toNat) =
      State.offer pins (bodyFrame body) (serveFrame (bodyFrame body))
        { s with link := { s.link with assembly := .hunt } } := by
  have value : leValue (leBytes 2 (crc (BitVec.ofNat 8 n :: body)).toNat) = (crc (BitVec.ofNat 8 n :: body)).toNat :=
    (leValue_leBytes ..).trans (Nat.mod_eq_of_lt (crc _).isLt)
  rw [leBytes_two, leValue_two] at value
  rw [leBytes_two, receiveBytes_cons, receiveByte_check_first assembly, receiveBytes_one]
  exact (receiveByte_check_second rfl).trans (checkFrame_offers value.symm)

/-- R193 to R195, R197: in HUNT, a frame's bytes end in its offer. -/
theorem State.receiveBytes_frame {f : LinkFrame} (size : f.payload.length ≤ 238) (hunt : s.link.assembly = .hunt) :
    s.receiveBytes pins f.bytes = s.offer pins f (serveFrame f) := by
  have length : (BitVec.ofNat 8 (f.payload.length + 2)).toNat = f.payload.length + 2 := by
    rw [BitVec.toNat_ofNat]
    omega
  have same : { s with link := { s.link with assembly := .hunt } } = s := by
    rw [← hunt]
  have parts : f.bytes = [0xA5, BitVec.ofNat 8 (f.payload.length + 2)] ++ (f.kind :: f.tag :: f.payload) ++
      leBytes 2 (crc (BitVec.ofNat 8 (f.payload.length + 2) :: f.kind :: f.tag :: f.payload)).toNat := rfl
  rw [parts, receiveBytes_append, receiveBytes_append, receiveBytes_start hunt (by omega), length,
    receiveBytes_body rfl (Nat.zero_add _)]
  refine (receiveBytes_check rfl).trans ?_
  exact congrArg (State.offer pins f (serveFrame f)) same

end

/-! ### Characters on the line (R191, R192) -/

theorem bit_ofBit (b : Bool) : (LineLevel.ofBit b).bit = b := by cases b <;> rfl

/-- R192: the receiver reads off the data bits the value of the flags that they stand for. -/
theorem sampledByte_ofBit (flags : List Bool) :
    sampledByte (flags.map LineLevel.ofBit) = BitVec.ofNat 8 (flagsValue flags) := by
  have value : (flags.map LineLevel.ofBit).foldr (fun l n => 2 * n + l.bit.toNat) 0 = flagsValue flags := by
    induction flags with
    | nil => rfl
    | cons b flags ih =>
      rw [List.map_cons, List.foldr_cons, ih, bit_ofBit, flagsValue]
      cases b <;> simp [Nat.add_comm]
  rw [sampledByte, value]

theorem sampledByte_characterBits (b : Byte) :
    sampledByte ((List.range 8).map (fun i => LineLevel.ofBit (b.getLsbD i))) = b := by
  have bits : (List.range 8).map (fun i => LineLevel.ofBit (b.getLsbD i)) =
      ((List.range 8).map b.getLsbD).map LineLevel.ofBit := by
    rw [List.map_map]
    rfl
  rw [bits, sampledByte_ofBit, ← toNat_ofBoolListLE]
  refine BitVec.eq_of_getLsbD_eq fun i below => ?_
  have bit : ((List.range 8).map b.getLsbD)[i]? = some (b.getLsbD i) := by
    rw [List.getElem?_map, List.getElem?_range below]
    rfl
  rw [BitVec.getLsbD_ofNat, BitVec.testBit_toNat, BitVec.getLsbD_ofBoolListLE, List.getD_eq_getElem?_getD, bit,
    decide_eq_true below]
  rfl

theorem sampledCharacter_characterLevels (b : Byte) : sampledCharacter (characterLevels b) = some (.byte b) :=
  congrArg (fun x => some (LineCharacter.byte x)) (sampledByte_characterBits b)

/-- R191, R203: the characters of a frame stand back to back, ten bit times each. -/
theorem frameLevels_getElem? (bytes : List Byte) (bits : Nat) : ((bytes.map characterLevels).flatten)[bits]? =
    bytes[bits / 10]?.bind (fun b => (characterLevels b)[bits % 10]?) := by
  induction bytes generalizing bits with
  | nil => rfl
  | cons b bytes ih =>
    rw [List.map_cons, List.flatten_cons]
    by_cases first : bits < 10
    · rw [List.getElem?_append_left (by rwa [characterLevels_length]), Nat.div_eq_of_lt first,
        Nat.mod_eq_of_lt first]
      rfl
    · obtain ⟨later, rfl⟩ := Nat.exists_eq_add_of_le' (Nat.not_lt.1 first)
      rw [List.getElem?_append_right (by rw [characterLevels_length]; omega), characterLevels_length,
        Nat.add_sub_cancel, ih, Nat.add_div_right _ (by decide), Nat.add_mod_right]
      rfl

/-- Settles O52: the bytes of a frame in the order of R193, and the levels of its characters in that of R191. -/
theorem receivedFramesAreOffered : Obligations.ReceivedFramesAreOffered := by
  refine ⟨fun f pins s size hunt => ?received, fun b => ⟨rfl, sampledCharacter_characterLevels b, rfl⟩,
    fun bytes bits => ⟨rfl, fun after => ?after, fun b stands => ?within⟩, rfl, rfl, rfl, rfl⟩
  case received =>
    rw [execAll_receivedCharacters, State.receiveBytes_frame size hunt]
  case after =>
    have mark : ((bytes.map characterLevels).flatten).getD bits .mark = .mark := by
      rw [List.getD_eq_getElem?_getD, frameLevels_getElem?, List.getElem?_eq_none (by omega)]
      rfl
    exact ⟨mark, mark⟩
  case within =>
    have level : some (((bytes.map characterLevels).flatten).getD bits .mark) = (characterLevels b)[bits % 10]? := by
      have inside : bits % 10 < (characterLevels b).length := by
        rw [characterLevels_length]
        exact Nat.mod_lt _ (by decide)
      rw [List.getD_eq_getElem?_getD, frameLevels_getElem?, stands, Option.bind_some,
        List.getElem?_eq_getElem inside]
      rfl
    exact ⟨level, level⟩

end Sys2Proof.Machine
end

section
/-! PROOFS. A request command and the completion of its frame: the operands come out of the payload as they went in
(O53). -/

namespace Sys2Proof.Machine

open Laws

/-! ### Operands in a payload (R204, R213) -/

/-- R204: a word that has as many bits as its bytes comes out of them as it went in. -/
theorem ofNat_leValue_leBytes {bits : Nat} (width : Nat) (v : BitVec bits) (fits : 2 ^ bits ≤ 256 ^ width) :
    BitVec.ofNat bits (leValue (leBytes width v.toNat)) = v := by
  rw [leValue_leBytes, Nat.mod_eq_of_lt (v.isLt.trans_le fits), BitVec.ofNat_toNat, BitVec.setWidth_eq]

theorem leBytes_natCast (width n : Nat) :
    leBytes width (n : Int) = (List.range width).map (fun i => BitVec.ofNat 8 (n / 256 ^ i)) := by
  induction width generalizing n with
  | zero => rfl
  | succ width ih =>
    rw [leBytes_succ, ih, List.range_succ_eq_map, List.map_cons, List.map_map, Nat.pow_zero,
      Nat.div_one]
    simp only [Function.comp_def, Nat.pow_succ', Nat.div_div_eq_div_mul]

/-- R204: the bytes of a word are its shifts by whole bytes. -/
theorem leBytes_toNat {bits : Nat} (width : Nat) (v : BitVec bits) :
    leBytes width v.toNat = (List.range width).map (fun i => (v >>> (8 * i)).setWidth 8) := by
  have byte (i : Nat) : BitVec.ofNat 8 (v.toNat / 256 ^ i) = (v >>> (8 * i)).setWidth 8 := by
    refine BitVec.eq_of_toNat_eq ?_
    rw [BitVec.toNat_ofNat, BitVec.toNat_setWidth, BitVec.toNat_ushiftRight, Nat.shiftRight_eq_div_pow, pow_mul]
    rfl
  simp only [leBytes_natCast, byte]

theorem leBytes_word (v : Word16) : leBytes 2 v.toNat = [v.setWidth 8, (v >>> 8).setWidth 8] := leBytes_toNat 2 v

theorem leBytes_count (c : Millis) : leBytes 6 c.toNat =
    [c.setWidth 8, (c >>> 8).setWidth 8, (c >>> 16).setWidth 8, (c >>> 24).setWidth 8, (c >>> 32).setWidth 8,
      (c >>> 40).setWidth 8] := leBytes_toNat 6 c

theorem blockBytes_cons (w : Word16) (l : List Word16) :
    blockBytes (w :: l) = BitVec.ofNat 8 w.toNat :: BitVec.ofNat 8 (w.toNat / 256) :: blockBytes l := by
  rw [blockBytes, List.map_cons, List.flatten_cons, leBytes_two]
  rfl

/-- R213: a block gives at each position the field that it was formed from. -/
theorem blockField_blockBytes (l : List Word16) (n : Nat) : blockField (blockBytes l) (n + 1) = l.getD n 0 := by
  induction l generalizing n with
  | nil => rfl
  | cons w l ih =>
    rw [blockBytes_cons]
    cases n with
    | zero =>
      have value : leValue (leBytes 2 w.toNat) = w.toNat := (leValue_leBytes ..).trans (Nat.mod_eq_of_lt w.isLt)
      rw [leBytes_two, leValue_two] at value
      exact (congrArg (BitVec.ofNat 16) value).trans ((BitVec.ofNat_toNat ..).trans (BitVec.setWidth_eq w))
    | succ n => exact ih n

theorem ofBlock_setFields (f : SetFields) : SetFields.ofBlock f.block = f := by
  rw [SetFields.ofBlock, SetFields.block, SetFields.ofPositions]
  simp only [blockField_blockBytes]
  rfl

theorem ofBlock_stationFields (f : StationFields) : StationFields.ofBlock f.block = f := by
  rw [StationFields.ofBlock, StationFields.block, StationFields.ofPositions]
  simp only [blockField_blockBytes]
  rfl

theorem blockBytes_words (l : List Word16) :
    blockBytes l = (l.map (fun v : Word16 => [v.setWidth 8, (v >>> 8).setWidth 8])).flatten := by
  simp only [blockBytes, leBytes_word]

/-! ### The frame of a request (R198) -/

/-- R198, R204: a frame of the catalogue with a payload of an accepted length is served as its kind. -/
theorem serveFrame_accepted {r : RequestKind} {tag : Byte} {payload : List Byte}
    (accepted : r.accepts payload.length = true) : serveFrame ⟨r.code, tag, payload⟩ = serveKind r payload := by
  rw [serveFrame, RequestKind.ofByte_code]
  exact if_pos accepted

/-- R197, R198: a well-formed command that is the request of a frame, and is served as that frame's kind serves its
payload, does what the completion of the frame does. -/
theorem exec_carried (r : RequestKind) {i : Instr} {head : RequestHead} {s : State} {payload : List Byte}
    {serve : State → Served} (law : AcceptedLength.Statement i) (wellFormed : i.wellFormed = true)
    (frame : AcceptedLength.frame i = some (r, payload)) (runs : exec i s = .next (s.request head r payload serve))
    (served : serveKind r payload = serve) :
    exec i s = .next (s.offer head.pins ⟨r.code, head.tag, payload⟩ (serveFrame ⟨r.code, head.tag, payload⟩)) := by
  obtain ⟨accepted, -⟩ := law wellFormed
  rw [serveFrame_accepted (accepted r payload frame), served]
  exact runs

/-- Settles O53: each request by its kind and its payload, out of which the operands come as they are. -/
theorem requestsAreTheirFrames : Obligations.RequestsAreTheirFrames := by
  intro head s carried word
  have wordBytes (v : Word16) : word v = leBytes 2 v.toNat := (leBytes_word v).symm
  have fits : 2 ^ 16 ≤ 256 ^ 2 := Nat.le_refl _
  refine ⟨fun p short => exec_carried .echo (AcceptedLength.echo head p) (decide_eq_true short) rfl rfl rfl,
    exec_carried .identify (AcceptedLength.identify head) rfl rfl rfl rfl,
    exec_carried .readStatus (AcceptedLength.readStatus head) rfl rfl rfl rfl,
    exec_carried .readAttention (AcceptedLength.readAttention head) rfl rfl rfl rfl,
    fun m => ?noticeMask,
    fun c => ?setTime,
    exec_carried .restart (AcceptedLength.restart head) rfl rfl rfl rfl,
    exec_carried .readMeasurements (AcceptedLength.readMeasurements head) rfl rfl rfl rfl,
    exec_carried .readEnergy (AcceptedLength.readEnergy head) rfl rfl rfl rfl,
    exec_carried .clearEnergy (AcceptedLength.clearEnergy head) rfl rfl rfl rfl,
    fun n f => ?writeSet,
    fun n => exec_carried .readSet (AcceptedLength.readSet head n) rfl rfl rfl rfl,
    fun n => exec_carried .eraseSet (AcceptedLength.eraseSet head n) rfl rfl rfl rfl,
    fun a b c => exec_carried .writeMapEntry (AcceptedLength.writeMapEntry head a b c) rfl rfl rfl rfl,
    exec_carried .readMap (AcceptedLength.readMap head) rfl rfl rfl rfl,
    fun f => ?writeStationRecord,
    exec_carried .readStationRecord (AcceptedLength.readStationRecord head) rfl rfl rfl rfl,
    fun a b => exec_carried .setFeedState (AcceptedLength.setFeedState head a b) rfl rfl rfl rfl,
    fun k => exec_carried .readFeeder (AcceptedLength.readFeeder head k) rfl rfl rfl rfl,
    fun k => exec_carried .feederClose (AcceptedLength.feederClose head k) rfl rfl rfl rfl,
    fun k => exec_carried .feederOpen (AcceptedLength.feederOpen head k) rfl rfl rfl rfl,
    fun k => exec_carried .resetLockout (AcceptedLength.resetLockout head k) rfl rfl rfl rfl,
    fun k => exec_carried .clearFeederCounters (AcceptedLength.clearFeederCounters head k) rfl rfl rfl rfl,
    exec_carried .readItems (AcceptedLength.readItems head) rfl rfl rfl rfl,
    exec_carried .rectifierStart (AcceptedLength.rectifierStart head) rfl rfl rfl rfl,
    exec_carried .rectifierStop (AcceptedLength.rectifierStop head) rfl rfl rfl rfl,
    fun v => ?setVoltageReference,
    exec_carried .readRectifier (AcceptedLength.readRectifier head) rfl rfl rfl rfl,
    exec_carried .readRail (AcceptedLength.readRail head) rfl rfl rfl rfl,
    exec_carried .releaseEarthing (AcceptedLength.releaseEarthing head) rfl rfl rfl rfl,
    exec_carried .clearFrameFault (AcceptedLength.clearFrameFault head) rfl rfl rfl rfl,
    fun n => exec_carried .fetchJournal (AcceptedLength.fetchJournal head n) rfl rfl rfl rfl,
    fun x => ?releaseJournal,
    exec_carried .readAlarms (AcceptedLength.readAlarms head) rfl rfl rfl rfl,
    exec_carried .acknowledgeAlarms (AcceptedLength.acknowledgeAlarms head) rfl rfl rfl rfl,
    exec_carried .listRecords (AcceptedLength.listRecords head) rfl rfl rfl rfl,
    fun a b => exec_carried .readRecordPiece (AcceptedLength.readRecordPiece head a b) rfl rfl rfl rfl,
    fun a => exec_carried .freeRecord (AcceptedLength.freeRecord head a) rfl rfl rfl rfl⟩
  case noticeMask =>
    rw [wordBytes]
    exact exec_carried .noticeMask (AcceptedLength.noticeMask head m) rfl rfl rfl
      (congrArg serveNoticeMask (ofNat_leValue_leBytes 2 m fits))
  case setTime =>
    rw [← leBytes_count]
    exact exec_carried .setTime (AcceptedLength.setTime head c) rfl rfl rfl
      (congrArg serveSetTime (ofNat_leValue_leBytes 6 c (Nat.le_refl _)))
  case writeSet =>
    rw [← blockBytes_words]
    exact exec_carried .writeSet (AcceptedLength.writeSet head n f) rfl rfl rfl
      (congrArg (serveWriteSet n) (ofBlock_setFields f))
  case writeStationRecord =>
    rw [← blockBytes_words]
    exact exec_carried .writeStationRecord (AcceptedLength.writeStationRecord head f) rfl rfl rfl
      (congrArg serveWriteStationRecord (ofBlock_stationFields f))
  case setVoltageReference =>
    rw [wordBytes]
    exact exec_carried .setVoltageReference (AcceptedLength.setVoltageReference head v) rfl rfl rfl
      (congrArg serveSetVoltageReference (ofNat_leValue_leBytes 2 v fits))
  case releaseJournal =>
    rw [wordBytes]
    exact exec_carried .releaseJournal (AcceptedLength.releaseJournal head x) rfl rfl rfl
      (congrArg serveReleaseJournal (ofNat_leValue_leBytes 2 x fits))

end Sys2Proof.Machine
end

section
/-! PROOFS. The layouts of the read requests: one equation for each part of a reply that a case of the state decides
(O57). -/

namespace Sys2Proof.Machine

/-! ### Fields of one byte (R204) -/

theorem flagByte_eq (b : Bool) : flagByte b = [if b then 1 else 0] := by cases b <;> rfl

theorem leBytes_one_flag (b : Bool) : leBytes 1 (if b then 1 else 0) = [if b then 1 else 0] := by cases b <;> rfl

theorem flatten_map_leBytes_one {α : Type} (l : List α) (f : α → Nat) :
    (l.map (fun x => leBytes 1 (f x))).flatten = l.map (fun x => BitVec.ofNat 8 (f x)) := by
  simp only [leBytes_one, ← List.flatMap_def, ← List.map_eq_flatMap]

/-! ### The link and the energy unit (R202, R208) -/

theorem LinkCounters.fields_eq (c : LinkCounters) : c.fields =
    [c.framing, c.gap, c.length, c.crc, c.breaks, c.overflow].flatMap (fun n : Nat => leBytes 2 n) := by
  simp only [fields, List.flatMap_cons, List.flatMap_nil, List.append_nil, List.append_assoc]

theorem leBytes_outputCode (x : PulseOutput) : leBytes 1 x.code =
    [(match x with | .idle => 0 | .on _ => 1 | .gap _ => 2 : Byte)] := by cases x <;> rfl

/-! ### Maps and records (R70, R60, R209) -/

theorem mapValueCode_eq (x : Option SetId) : mapValueCode x = (match x with | some n => n.val | none => 255) := by
  cases x <;> rfl

theorem bindingCode_eq (x : Option SetId) : bindingCode x = (match x with | some n => n.val | none => 16) := by
  cases x <;> rfl

theorem MapRow.fields_eq : MapRow.fields = fun m =>
    [FeedState.double, .single, .extended, .unknown].map (fun f => BitVec.ofNat 8 (mapValueCode (m.get f))) := by
  funext m
  simp only [fields, leBytes_one]
  rfl

theorem Binding.fields_eq : Binding.fields = fun b =>
    [BitVec.ofNat 8 b.feed.code, BitVec.ofNat 8 (bindingCode b.set), BitVec.ofNat 8 b.fault.code] := by
  funext b
  simp only [fields, leBytes_one]
  rfl

theorem RecordState.showsFields_iff {x : RecordState} : x.showsFields = true ↔ x = .valid ∨ x = .invalid := by
  cases x <;> simp [showsFields]

section
variable {s : State} {n : SetId} {b : Byte}

/-- R209: a record VALID or INVALID is sent with its field block. -/
theorem replyReadSet_shown {f : SetFields} (number : b.toNat = n.val) (stored : (s.store.sets[n]).stored = some f)
    (shows : (s.store.sets[n]).state = .valid ∨ (s.store.sets[n]).state = .invalid) : replyReadSet n s =
      0 :: b :: BitVec.ofNat 8 (s.store.sets[n]).state.code :: leBytes 1 s.store.inUse[n] ++ f.block := by
  have shows := RecordState.showsFields_iff.2 shows
  simp only [replyReadSet, stored, shows, leBytes_byte number, leBytes_one]
  rfl

/-- R209: an EMPTY record is sent without one. -/
theorem replyReadSet_empty (number : b.toNat = n.val) (empty : (s.store.sets[n]).state = .empty) : replyReadSet n s =
    0 :: b :: BitVec.ofNat 8 (s.store.sets[n]).state.code :: leBytes 1 s.store.inUse[n] := by
  simp only [replyReadSet, empty, leBytes_byte number, leBytes_one]
  cases (s.store.sets[n]).stored <;> rfl

theorem serveReadSet_inside (number : b.toNat = n.val) : serveReadSet b s = answered (replyReadSet n s) s := by
  rw [serveReadSet, setOfByte_number number]

theorem serveReadSet_outside (outside : 16 ≤ b.toNat) : serveReadSet b s = answered (refusal .badValue) s := by
  rw [serveReadSet, setOfByte_outside outside]

theorem replyReadStationRecord_shown {f : StationFields} (stored : s.store.station.stored = some f)
    (shows : s.store.station.state = .valid ∨ s.store.station.state = .invalid) :
    replyReadStationRecord s = 0 :: BitVec.ofNat 8 s.store.station.state.code :: f.block := by
  have shows := RecordState.showsFields_iff.2 shows
  simp only [replyReadStationRecord, stored, shows, leBytes_one]
  rfl

theorem replyReadStationRecord_empty (empty : s.store.station.state = .empty) :
    replyReadStationRecord s = [0, BitVec.ofNat 8 s.store.station.state.code] := by
  simp only [replyReadStationRecord, empty, leBytes_one]
  cases s.store.station.stored <;> rfl

end

/-! ### Fault records (R172, R212) -/

theorem slotFields_eq : slotFields = (fun x =>
    (let shown (code : Byte) (r : FaultRecord) : List Byte :=
      [code, BitVec.ofNat 8 r.feeder.number, BitVec.ofNat 8 r.cause.code] ++ r.stamp.fields ++
        leBytes 1 r.triples.length
    match x with
    | .free => [0]
    | .filling r => shown 1 r
    | .complete r => shown 2 r
    | .held r => shown 3 r)) := by
  funext x
  cases x <;> simp only [slotFields, Slot.record, leBytes_one] <;> rfl

theorem holdFields_eq (t : TimeBase) (hold : Option (SlotId × Nat)) : holdFields t hold = (match hold with
    | some (n, due) => BitVec.ofNat 8 n.val :: leBytes 2 (t.msLeft due)
    | none => [0xFF, 0xFF, 0xFF]) := by
  cases hold with
  | none => rfl
  | some hold =>
    simp only [holdFields, Option.map_some, noneOr, leBytes_one]
    rfl

/-! ### Items (R88) -/

/-- R88: the direction and the limit timer stand or are absent together; `rest` is what follows them in the reply. -/
theorem Item.operationFields_append (t : TimeBase) (it : Item) (rest : List Byte) :
    noneOr 1 (it.operation.map (fun op => op.direction.code)) ++ (noneOr 2 (it.limitEnd.map t.msLeft) ++ rest) =
      (match it.operation with
        | some op => BitVec.ofNat 8 op.direction.code :: leBytes 2 (t.msLeft op.limit)
        | none => [0xFF, 0xFF, 0xFF]) ++ rest := by
  cases operation : it.operation with
  | none =>
    simp only [limitEnd, operation]
    rfl
  | some op =>
    simp only [limitEnd, operation, Option.map_some, noneOr, leBytes_one]
    rfl

theorem Item.failLive_eq (it : Item) :
    it.failLive = decide (it.state = .failedOpen ∨ it.state = .failedClose) := (Bool.decide_or ..).symm

theorem Item.pulseField_eq (t : TimeBase) (it : Item) : noneOr 1 (it.pulseEnd.map t.msLeft) =
    (match it.openCoil, it.closeCoil with
      | some x, _ | none, some x => leBytes 1 (t.msLeft x)
      | none, none => [0xFF]) := by
  unfold pulseEnd
  cases it.openCoil with
  | none => cases it.closeCoil <;> rfl
  | some x => rfl

/-! ### The rectifier (R142) -/

theorem scheduleField_eq (x : Option Schedule) : scheduleField x = (match x with
    | some sch =>
      1 :: leBytes 6 (sch.crossing % 2 ^ 48 : Nat) ++ leBytes 2 sch.period ++ leBytes 2 sch.offset ++
        leBytes 2 sch.burst ++ sch.pulses.flatMap (fun x =>
          BitVec.ofNat 8 x.gate.val :: leBytes 2 x.angle ++ leBytes 2 x.position ++
            leBytes 2 (x.moment - sch.crossing : Nat) ++ [BitVec.ofNat 8 x.status.code])
    | none => List.replicate 109 0) := by
  cases x with
  | none => rfl
  | some sch =>
    have pulse : pulseFields sch.crossing = fun x =>
        BitVec.ofNat 8 x.gate.val :: leBytes 2 x.angle ++ leBytes 2 x.position ++
          leBytes 2 (x.moment - sch.crossing : Nat) ++ [BitVec.ofNat 8 x.status.code] := by
      funext x
      simp only [pulseFields, leBytes_one]
      rfl
    simp only [scheduleField, pulse, List.flatMap_def, List.cons_append]

theorem burstFields_eq (t : TimeBase) : burstFields t = (fun b => match b with
    | some b => 1 :: leBytes 2 (b.ends - t.nowUs : Nat)
    | none => [0, 0xFF, 0xFF]) := by
  funext b
  cases b <;> rfl

theorem pendingFlagList_eq (l : List FeederId) : pendingFlagList l = FeederId.all.map (fun k => decide (k ∈ l)) := by
  simp only [pendingFlagList, List.contains_eq_mem]

/-! ### The rail monitor (R157) -/

theorem RailMonitor.holdField_eq (t : TimeBase) (x : Option Nat) : noneOr 4 (x.map t.msLeft) = (match x with
    | some due => leBytes 4 (t.msLeft due)
    | none => [0xFF, 0xFF, 0xFF, 0xFF]) := by cases x <;> rfl

theorem frameRecordField_eq (x : Option FrameRecord) : frameRecordField x = (match x with
    | some x => 1 :: BitVec.ofNat 8 x.cause.code :: leBytes 2 x.value ++ x.stamp.fields
    | none => List.replicate 12 0) := by
  cases x with
  | none => rfl
  | some x =>
    simp only [frameRecordField, leBytes_one]
    rfl

/-! ### The discriminator (R44) -/

theorem riseFields_eq (d : Discriminator) : riseFields d = (match d.event with
    | some v => 1 :: leBytes 1 d.startRun ++ 1 :: leBytes 2 v.ib ++ leBytes 2 v.age ++ leBytes 1 v.endCount ++
        leBytes 2 v.dfall ++ leBytes 1 v.nend ++ leBytes 2 v.deltaI ++ leBytes 2 v.tmin ++ leBytes 2 v.tmax
    | none => 0 :: leBytes 1 d.startRun ++ [0, 0, 0] ++ List.replicate 12 0xFF) := by
  unfold riseFields
  cases d.event <;> rfl

/-! ### The sequencer (R117) -/

/-- R41: the values of the rise function in a snapshot, followed by the `rest` of it. -/
theorem riseValues_append (x : Option RiseValues) (rest : List Byte) :
    presentOr 2 (x.map RiseValues.ib) ++ (presentOr 4 (x.map RiseValues.deltaI) ++
      (noneOr 2 (x.map RiseValues.age) ++ rest)) =
      (match x with
        | some y => 1 :: leBytes 2 y.ib ++ 1 :: leBytes 4 y.deltaI ++ leBytes 2 y.age
        | none => List.replicate 8 0 ++ [0xFF, 0xFF]) ++ rest := by
  cases x <;> rfl

theorem snapshotField_eq (x : Option Snapshot) : snapshotField x = (match x with
    | some x => 1 :: BitVec.ofNat 8 x.cause.code :: x.stamp.fields ++ leBytes 2 x.i ++ leBytes 4 x.d ++
        (match x.rise with
          | some y => 1 :: leBytes 2 y.ib ++ 1 :: leBytes 4 y.deltaI ++ leBytes 2 y.age
          | none => List.replicate 8 0 ++ [0xFF, 0xFF]) ++ leBytes 4 x.theta ++
        [BitVec.ofNat 8 (bindingCode x.binding)]
    | none => List.replicate 31 0) := by
  cases x with
  | none => rfl
  | some x =>
    simp only [snapshotField, snapshotFields, leBytes_one, List.append_assoc, riseValues_append]
    rfl

theorem exitFields_eq (x : Option ExitTarget) : exitFields x = (match x with
    | some (.lockedOut c) => [7, BitVec.ofNat 8 c.code]
    | some x => [BitVec.ofNat 8 x.code, 0xFF]
    | none => [0xFF, 0xFF]) := by
  cases x with
  | none => rfl
  | some x => cases x with
    | lockedOut c =>
      simp only [exitFields, Option.map_some, noneOr, leBytes_one]
      rfl
    | _ => rfl

theorem recloseField_eq (x : Option Bool) : noneOr 1 (x.map (fun b => if b then 1 else 0)) =
    [BitVec.ofNat 8 (match x with
      | some b => if b then 1 else 0
      | none => 255)] := by
  cases x with
  | none => rfl
  | some b => exact leBytes_one _

theorem deadPhaseField_eq (x : FeederState) : noneOr 1 (x.deadPhase.map DeadPhase.code) = (match x with
    | .deadTime x => [BitVec.ofNat 8 x.code]
    | _ => [0xFF]) := by
  cases x with
  | deadTime x => exact leBytes_one x.code
  | _ => rfl

theorem testPhaseField_eq (x : FeederState) : noneOr 1 (x.testPhase.map TestPhase.code) = (match x with
    | .lineTest x => [BitVec.ofNat 8 x.code]
    | _ => [0xFF]) := by
  cases x with
  | lineTest x => exact leBytes_one x.code
  | _ => rfl

theorem rlineField_eq (x : Option Nat) : presentOr 2 (x.map Int.ofNat) = (match x with
    | some x => 1 :: leBytes 2 x
    | none => [0, 0, 0]) := by cases x <;> rfl

theorem stampField_eq (x : Option Stamp) : stampField x = (match x with
    | some x => 1 :: x.fields
    | none => List.replicate 9 0) := by cases x <;> rfl

end Sys2Proof.Machine
end

section
/-! PROOFS. The read requests (O57): each is answered with the fields of its layout and changes nothing else. The layouts'
equations bring both sides of a reply to the same list of fields in the same order. -/

namespace Sys2Proof.Machine

/-- R198, R199: a request taken at once that is answered with a payload and leaves the part as it is. -/
theorem exec_read (kind : RequestKind) {i : Instr} {head : RequestHead} {s : State} {payload fields reply : List Byte}
    {serve : State → Served} (atOnce : s.link.takesAtOnce = true)
    (runs : exec i s = .next (s.request head kind payload serve))
    (served : serve (s.begin head.pins kind.code head.tag) = answered fields (s.begin head.pins kind.code head.tag))
    (shown : fields = reply) : exec i s = .next (s.repliedWith head kind reply s.plant) := by
  subst shown
  exact runs.trans (congrArg _ (State.request_repliedWith (time := s.time) atOnce served))

/-- Settles O57: every read request by what it is served with, and its reply field by field. -/
theorem readRequestsChangeNothing : Obligations.ReadRequestsChangeNothing := by
  intro head s atOnce answers
  refine ⟨exec_read .identify atOnce rfl rfl ?identify, exec_read .readStatus atOnce rfl rfl ?status,
    exec_read .readMeasurements atOnce rfl rfl ?measurements, exec_read .readEnergy atOnce rfl rfl ?energy,
    exec_read .readMap atOnce rfl rfl ?map,
    fun n b number => ⟨fun f stored shows => exec_read .readSet atOnce rfl (serveReadSet_inside number)
        (replyReadSet_shown number stored shows),
      fun empty => exec_read .readSet atOnce rfl (serveReadSet_inside number) (replyReadSet_empty number empty)⟩,
    ⟨fun f stored shows => exec_read .readStationRecord atOnce rfl rfl (replyReadStationRecord_shown stored shows),
      fun empty => exec_read .readStationRecord atOnce rfl rfl (replyReadStationRecord_empty empty)⟩,
    exec_read .listRecords atOnce rfl rfl ?records, exec_read .readItems atOnce rfl rfl ?items,
    fun p short => exec_read .echo atOnce rfl rfl rfl, ⟨_, exec_read .readStationRecord atOnce rfl rfl rfl⟩,
    exec_read .readRectifier atOnce rfl rfl ?rectifier, exec_read .readRail atOnce rfl rfl ?rail,
    exec_read .readAlarms atOnce rfl rfl ?alarms,
    fun n inside => ⟨_, exec_read .readSet atOnce rfl (serveReadSet_inside (n := ⟨n.toNat, inside⟩) rfl) rfl⟩,
    fun n outside => exec_read .readSet atOnce rfl (serveReadSet_outside outside) rfl,
    fun k n number => exec_read .readFeeder atOnce rfl (withFeeder_number number) ?feeder,
    fun n outside => exec_read .readFeeder atOnce rfl (withFeeder_outside outside) rfl⟩
  case identify =>
    simp only [replyIdentify, okReply, leBytes_one]
    rfl
  case status =>
    simp only [replyReadStatus, okReply, leBytes_one, flagByte_eq, LinkCounters.fields_eq, List.append_assoc]
    rfl
  case measurements =>
    simp only [replyReadMeasurements, okReply, leBytes_one_flag, List.append_assoc]
    rfl
  case energy =>
    simp only [replyReadEnergy, okReply, leBytes_outputCode, flagByte_eq, Store.icreep, State.begin_store,
      List.append_assoc]
    cases s.store.stationFields <;> rfl
  case map =>
    simp only [replyReadMap, okReply, MapRow.fields_eq, Binding.fields_eq, mapValueCode_eq, bindingCode_eq,
      flatten_map_leBytes_one, List.append_assoc]
    rfl
  case records =>
    simp only [replyListRecords, okReply, slotFields_eq, holdFields_eq, flatten_map_leBytes_one, List.append_assoc]
    rfl
  case items =>
    refine congrArg (0 :: ·) (congrArg ItemId.all.flatMap (funext fun i => ?_))
    simp only [itemFields, leBytes_one, List.append_assoc, Item.operationFields_append, Item.pulseField_eq,
      Item.failLive_eq]
    rfl
  case rectifier =>
    simp only [replyReadRectifier, okReply, leBytes_one, leBytes_one_flag, flagByte_eq, scheduleField_eq,
      burstFields_eq, pendingFlagList_eq, List.append_assoc]
    rfl
  case rail =>
    simp only [replyReadRail, okReply, leBytes_one, flagByte_eq, RailMonitor.holdField_eq, frameRecordField_eq,
      RailLevels.fields, List.append_assoc]
    rfl
  case alarms =>
    simp only [replyReadAlarms, okReply, flagByte_eq]
    rfl
  case feeder =>
    simp only [replyReadFeeder, discriminatorFields, sequencerFields, lineTestFields, okReply, leBytes_number number,
      leBytes_one, flagByte_eq, riseFields_eq, Binding.fields_eq, bindingCode_eq, exitFields_eq, recloseField_eq,
      snapshotField_eq, deadPhaseField_eq, testPhaseField_eq, rlineField_eq, stampField_eq, List.append_assoc,
      List.cons_append, List.nil_append]
    rfl

end Sys2Proof.Machine
end

section
/-! PROOFS. Every command answers a next state and leaves the queue of waiting commands alone (O2): a request keeps the
queue because serving it does, and an event because it changes the other parts of the state. With it, what a step does
with the front of the queue (O1). -/

namespace Sys2Proof.Machine

/-! ### Serving a request -/

/-- Serving a request neither takes nor adds a waiting command. -/
def KeepsQueue (serve : State → Served) : Prop := ∀ s, (serve s).1.pending = s.pending

namespace KeepsQueue

variable {serve : State → Served}

theorem needsRemote (h : KeepsQueue serve) : KeepsQueue (needsRemote serve) :=
  fun s => needsRemote_preserves (Q := fun t => t.pending = s.pending) (h s) rfl

theorem needsKey (h : KeepsQueue serve) : KeepsQueue (needsKey serve) :=
  fun s => needsKey_preserves (Q := fun t => t.pending = s.pending) (h s) rfl

theorem withFeeder {serve : FeederId → State → Served} (b : Byte) (h : ∀ k, KeepsQueue (serve k)) :
    KeepsQueue (withFeeder b serve) :=
  fun s => withFeeder_preserves (Q := fun t => t.pending = s.pending) (fun k => h k s) rfl

end KeepsQueue

namespace State

variable {s t : State}

/-! ### Settings (03) -/

theorem Resolves.pending {ks : List FeederId} (h : Resolves ks s t) : t.pending = s.pending := by
  obtain ⟨feeders, unit, frame⟩ := h.frame
  rw [frame]

theorem eraseSet_pending (n : SetId) (s : State) : (s.eraseSet n).pending = s.pending :=
  (resolves_eraseSet n s).pending

theorem applyFeedState_pending (k : FeederId) (f : FeedState) (s : State) :
    (s.applyFeedState k f).pending = s.pending := by
  by_cases same : s.store.feed.get k = f
  · rw [applyFeedState_same same]
  · exact (resolves_applyFeedState same).pending

theorem completeSet_pending (n : SetId) (fields readBack : SetFields) (s : State) :
    (s.completeSet n fields readBack).pending = s.pending := by
  by_cases passes : readBack = fields ∧ checkWordRule readBack.toList = true
  · obtain ⟨rfl, check⟩ := passes
    obtain ⟨t, completed, resolves, -⟩ := s.completeSet_passed n check
    rw [completed, reply_pending, resolves.pending]
    rfl
  · obtain ⟨t, completed, resolves⟩ := s.completeSet_failed n passes
    rw [completed, reply_pending, resolves.pending]
    rfl

theorem completeStation_pending (fields readBack : StationFields) (s : State) :
    (s.completeStation fields readBack).pending = s.pending := by
  unfold completeStation
  dsimp only
  split <;> rfl

theorem completeEntry_pending (k : FeederId) (f : FeedState) (value readBack : Option SetId) (s : State) :
    (s.completeEntry k f value readBack).pending = s.pending := by
  by_cases passes : readBack = value
  · subst passes
    obtain ⟨t, completed, resolves⟩ := s.completeEntry_passed k f readBack
    rw [completed, reply_pending, resolves.pending]
    rfl
  · obtain ⟨t, completed, resolves⟩ := s.completeEntry_failed k f passes
    rw [completed, reply_pending, resolves.pending]
    rfl

theorem visit_pending (found : Option FoundRecord) (s : State) : (s.visit found).pending = s.pending := by
  rcases s.scan_cases with ⟨n, set⟩ | station
  · rw [visit_set set]
    rcases s.visitSet_cases n found with ⟨same, -⟩ | ⟨stored, -, -, invalid⟩
    · rw [same]
    · exact invalid.pending
  · rw [visit_station station]
    rcases s.visitStation_cases found with ⟨same, -⟩ | ⟨stored, valid, fails, -⟩
    · rw [same]
    · obtain ⟨tracker, unit, lost⟩ := visitStation_fails valid fails
      rw [lost, onPlant_pending]

end State

/-! ### The requests of the catalogue -/

@[simp] theorem keepsQueue_restart : KeepsQueue serveRestart := .needsRemote fun _ => rfl

@[simp] theorem keepsQueue_clearEnergy : KeepsQueue serveClearEnergy := .needsKey fun _ => rfl

@[simp] theorem keepsQueue_writeSet (number : Byte) (fields : SetFields) : KeepsQueue (serveWriteSet number fields) :=
  .needsKey fun s => by
    split
    · rfl
    · split <;> rfl

@[simp] theorem keepsQueue_readSet (number : Byte) : KeepsQueue (serveReadSet number) := fun s => by
  unfold serveReadSet
  split <;> rfl

@[simp] theorem keepsQueue_eraseSet (number : Byte) : KeepsQueue (serveEraseSet number) :=
  .needsKey fun s => by
    split
    · rfl
    · split
      · rfl
      · exact s.eraseSet_pending _

@[simp] theorem keepsQueue_writeMapEntry (feeder feedState value : Byte) :
    KeepsQueue (serveWriteMapEntry feeder feedState value) :=
  .needsKey (.withFeeder feeder fun k s => by
    split
    · rfl
    · split <;> rfl)

@[simp] theorem keepsQueue_writeStationRecord (fields : StationFields) : KeepsQueue (serveWriteStationRecord fields) :=
  .needsKey fun s => by split <;> rfl

@[simp] theorem keepsQueue_setFeedState (feeder feedState : Byte) : KeepsQueue (serveSetFeedState feeder feedState) :=
  .withFeeder feeder fun k s => s.applyFeedState_pending k _

@[simp] theorem keepsQueue_readFeeder (feeder : Byte) : KeepsQueue (serveReadFeeder feeder) :=
  .withFeeder feeder fun _ _ => rfl

@[simp] theorem keepsQueue_feederClose (feeder : Byte) : KeepsQueue (serveFeederClose feeder) :=
  .needsRemote (.withFeeder feeder fun k s => by split <;> rfl)

@[simp] theorem keepsQueue_feederOpen (feeder : Byte) : KeepsQueue (serveFeederOpen feeder) :=
  .needsRemote (.withFeeder feeder fun k s => by split <;> rfl)

@[simp] theorem keepsQueue_resetLockout (feeder : Byte) : KeepsQueue (serveResetLockout feeder) :=
  .needsRemote (.withFeeder feeder fun k s => by split <;> rfl)

@[simp] theorem keepsQueue_clearFeederCounters (feeder : Byte) : KeepsQueue (serveClearFeederCounters feeder) :=
  .needsKey (.withFeeder feeder fun _ _ => rfl)

@[simp] theorem keepsQueue_rectifierStart : KeepsQueue serveRectifierStart := .needsRemote fun s => by split <;> rfl

@[simp] theorem keepsQueue_rectifierStop : KeepsQueue serveRectifierStop := .needsRemote fun _ => rfl

@[simp] theorem keepsQueue_releaseEarthing : KeepsQueue serveReleaseEarthing := .needsRemote fun s => by split <;> rfl

@[simp] theorem keepsQueue_clearFrameFault : KeepsQueue serveClearFrameFault :=
  .needsRemote (.needsKey fun s => by split <;> rfl)

@[simp] theorem keepsQueue_releaseJournal (index : Word16) : KeepsQueue (serveReleaseJournal index) := fun s => by
  unfold serveReleaseJournal
  split <;> rfl

@[simp] theorem keepsQueue_readRecordPiece (slot piece : Byte) : KeepsQueue (serveReadRecordPiece slot piece) :=
  fun s => by
    unfold serveReadRecordPiece
    split
    · rfl
    · split
      · rfl
      · split <;> rfl

@[simp] theorem keepsQueue_freeRecord (slot : Byte) : KeepsQueue (serveFreeRecord slot) := fun s => by
  unfold serveFreeRecord
  split
  · rfl
  · split <;> rfl

theorem keepsQueue_serveKind (r : RequestKind) (payload : List Byte) : KeepsQueue (serveKind r payload) := by
  cases r with
  | identify | echo | readStatus | readAttention | noticeMask | setTime | readMeasurements | readEnergy | readMap
  | readStationRecord | readItems | setVoltageReference | readRectifier | readRail | fetchJournal | readAlarms
  | acknowledgeAlarms | listRecords => exact fun _ => rfl
  | restart | clearEnergy | writeSet | readSet | eraseSet | writeMapEntry | writeStationRecord | setFeedState
  | readFeeder | feederClose | feederOpen | resetLockout | clearFeederCounters | rectifierStart | rectifierStop
  | releaseEarthing | clearFrameFault | releaseJournal | readRecordPiece | freeRecord => simp [serveKind]

theorem keepsQueue_serveFrame (f : LinkFrame) : KeepsQueue (serveFrame f) := by
  unfold serveFrame
  cases RequestKind.ofByte f.kind with
  | none => exact fun _ => rfl
  | some r =>
    show KeepsQueue (if r.accepts f.payload.length then serveKind r f.payload else answered _)
    split
    · exact keepsQueue_serveKind r f.payload
    · exact fun _ => rfl

namespace State

variable {s : State}

/-! ### Frames and transmissions -/

theorem execute_pending {pins : Pins} {kind tag : Byte} {serve : State → Served} (h : KeepsQueue serve) :
    (s.execute pins kind tag serve).pending = s.pending := by
  have served : (serve (s.begin pins kind tag)).1.pending = s.pending := h _
  unfold execute finish
  split <;> exact served

theorem offer_pending {pins : Pins} {f : LinkFrame} {serve : State → Served} (h : KeepsQueue serve) :
    (s.offer pins f serve).pending = s.pending := by
  unfold offer
  split
  · exact execute_pending h
  · rfl

theorem request_pending {head : RequestHead} {kind : RequestKind} {payload : List Byte} {serve : State → Served}
    (h : KeepsQueue serve) : (s.request head kind payload serve).pending = s.pending := offer_pending h

theorem startExecution_pending (pins : Pins) (s : State) : (s.startExecution pins).pending = s.pending := by
  rcases s.startExecution_cases pins with same | ⟨f, rest, -, -, served⟩
  · rw [same]
  · rw [served]
    exact execute_pending (keepsQueue_serveFrame f)

theorem transmitStart_pending (s : State) : s.transmitStart.pending = s.pending := by
  rcases s.transmitStart_cases with same | ⟨f, -, -, -, begun⟩ | ⟨n, -, -, -, -, begun⟩
  · rw [same]
  · rw [begun]
    exact startExecution_pending ..
  · rw [begun]
    rfl

theorem receiveByte_pending (pins : Pins) (b : Byte) (s : State) : (s.receiveByte pins b).pending = s.pending := by
  unfold receiveByte
  split
  · split <;> rfl
  · split <;> rfl
  · split <;> rfl
  · rfl
  · unfold checkFrame
    dsimp only
    split
    · exact offer_pending (keepsQueue_serveFrame _)
    · rfl
  · rfl

theorem linkBreak_pending (s : State) : s.linkBreak.pending = s.pending := by
  unfold linkBreak
  split <;> rfl

/-! ### Expiries, instants and resets -/

theorem atExpiry_pending {expiry : Option Nat} {act : State → State}
    (h : ∀ s : State, (act s).pending = s.pending) :
    (s.atExpiry expiry act).pending = s.pending :=
  atExpiry_preserves (Q := fun t => t.pending = s.pending) (fun time => h { s with time := time }) rfl

theorem sampleInstant_pending (x : SampleInputs) (s : State) : (s.sampleInstant x).pending = s.pending := by
  rw [sampleInstant_eq]
  split <;> rfl

theorem resetWith_pending (x : ResetInputs) (cause : ResetCause) (time : TimeBase) (records : RecordStore)
    (unit : JournalUnit) (energy : Energy) (s : State) :
    (s.resetWith x cause time records unit energy).pending = s.pending := by
  obtain ⟨after, frame⟩ := resetWith_frame x cause time records unit energy s
  rw [frame]
  rfl

/-! ### Every command and every step -/

/-- An event leaves the queue alone by what it is made of, a request by what serves it. -/
theorem exec_pending (c : Instr) (s : State) : ∃ t, exec c s = .next t ∧ t.pending = s.pending := by
  cases c with
  | powerOnReset | pinReset => exact ⟨_, rfl, resetWith_pending ..⟩
  | restartReset =>
    refine ⟨_, rfl, ?_⟩
    split
    · exact resetWith_pending ..
    · rfl
  | crystalFailure =>
    refine ⟨_, rfl, ?_⟩
    split <;> rfl
  | crystalReturn | pulseInstant | burstEnd =>
    refine ⟨_, rfl, ?_⟩
    split
    · rfl
    · split <;> rfl
  | sampleInstant x => exact ⟨_, rfl, s.sampleInstant_pending x⟩
  | noCrossingExpiry | coilPulseEnd | limitTimerExpiry | deadTimeExpiry | settleExpiry | serviceTimerExpiry
  | railHoldExpiry | energyPulseOnExpiry | energyPulseGapExpiry | recordHoldExpiry | noticeHoldoffExpiry =>
    exact ⟨_, rfl, atExpiry_pending fun _ => rfl⟩
  | scanVisit found => exact ⟨_, rfl, atExpiry_pending (visit_pending found)⟩
  | setWriteCompletion =>
    refine ⟨_, rfl, ?_⟩
    split
    · exact atExpiry_pending fun s => s.completeSet_pending ..
    all_goals rfl
  | stationRecordWriteCompletion =>
    refine ⟨_, rfl, ?_⟩
    split
    · exact atExpiry_pending fun s => s.completeStation_pending ..
    all_goals rfl
  | mapEntryWriteCompletion =>
    refine ⟨_, rfl, ?_⟩
    split
    · exact atExpiry_pending fun s => s.completeEntry_pending ..
    all_goals rfl
  | receivedCharacter char pins =>
    cases char with
    | byte b => exact ⟨_, rfl, s.receiveByte_pending pins b⟩
    | framingError => exact ⟨_, rfl, rfl⟩
  | gapTimerExpiry | linkBreakEnd => exact ⟨_, rfl, rfl⟩
  | linkBreak => exact ⟨_, rfl, s.linkBreak_pending⟩
  | requestExecutionStart pins => exact ⟨_, rfl, (s.setPins pins).startExecution_pending pins⟩
  | frameTransmitStart => exact ⟨_, rfl, s.transmitStart_pending⟩
  | frameTransmitEnd =>
    refine ⟨_, rfl, ?_⟩
    split
    · rfl
    all_goals exact transmitStart_pending _
  | unknownKind => exact ⟨_, rfl, offer_pending (keepsQueue_serveFrame _)⟩
  | identify | echo | readStatus | readAttention | noticeMask | setTime | readMeasurements | readEnergy | readMap
  | readStationRecord | readItems | setVoltageReference | readRectifier | readRail | fetchJournal | readAlarms
  | acknowledgeAlarms | listRecords => exact ⟨_, rfl, request_pending fun _ => rfl⟩
  | restart | clearEnergy | writeSet | readSet | eraseSet | writeMapEntry | writeStationRecord | setFeedState
  | readFeeder | feederClose | feederOpen | resetLockout | clearFeederCounters | rectifierStart | rectifierStop
  | releaseEarthing | clearFrameFault | releaseJournal | readRecordPiece | freeRecord =>
    exact ⟨_, rfl, request_pending (by simp)⟩

end State

/-- Settles O2: by the walk through the commands. -/
theorem everyCommandCompletes : Obligations.EveryCommandCompletes := State.exec_pending

/-- Settles O1: the two branches of a step, by whether a command waits. -/
theorem stepTakesTheFrontCommand : Obligations.StepTakesTheFrontCommand :=
  fun _ => ⟨fun _ _ => rfl, rfl⟩

end Sys2Proof.Machine
end
